-- ==== Sys2Proof/Word.lean ====
section
/-! DEFINITION. The word types of the station controller: the bytes of its three serial links and the 16-bit
parameter words of the panel port, with the names used for its quantities. -/

namespace Sys2Proof

/-- A byte of the Passline, of the panel port or of the modem line. -/
abbrev Byte := BitVec 8

/-- A parameter word of the panel port (R186). -/
abbrev Word := BitVec 16

/-- A temperature, in tenths of a degree Celsius (00_scope, Quantities and units). -/
abbrev Temp := Int

/-- The number of a heat channel HC0..HC7, and of the temperature inputs T0..T7. -/
abbrev Chan := Fin 8

/-- The number of a switch line L0..L5. -/
abbrev LineNo := Fin 6

end Sys2Proof
end

