-- ==== Sys2Proof/Config.lean ====
section
/-! DEFINITION. The figures the manual fixes for every J440: periods, capacities and the fixed geometry of the dish
line; and the one thing it leaves open, the layout of some contents on the panel port. -/

namespace Sys2Proof.Config

/-- FREE VALUE (log entry 42): the bytes in which the panel port clocks out a content whose layout chapter 12 does not give:
the counts, the call number or the snapshot of a reply, the item that a refused JOIN names, and the body of a report. It
has no body, so nothing can be proved of it. -/
opaque layoutOf {α : Type} (content : α) : List Byte

/-- Greatest result length of a reply record (section 12.2). -/
abbrev maxResult : Nat := 200

/-- Milliseconds from one sweep completion to the next (R1). -/
abbrev sweepMs : Nat := 250
/-- Milliseconds of a heat window (R23). -/
abbrev windowMs : Nat := 10000
/-- Milliseconds of the announce tick (R70). -/
abbrev tickMs : Nat := 1000
/-- Milliseconds of the stock tick (R141). -/
abbrev stockTickMs : Nat := 5000
/-- Milliseconds of a service-clock second (R95). -/
abbrev secondMs : Nat := 1000
/-- Milliseconds of a line debounce (R6). -/
abbrev debounceMs : Nat := 50
/-- The pulse age at which counting stops (R10). -/
abbrev pulseAgeMax : Nat := 65535
/-- Milliseconds of the reset that RESTART causes (R87). -/
abbrev restartMs : Nat := 10
/-- Milliseconds of the listening period (R79). -/
abbrev listenMs : Nat := 3000
/-- Silence at which a peer entry becomes STALE (R60). -/
abbrev staleMs : Nat := 3000
/-- Silence at which a peer entry is removed (R61). -/
abbrev removeMs : Nat := 10000
/-- Age at which a stock part becomes absent (R65). -/
abbrev stockAgeMs : Nat := 20000
/-- Greatest forward distance of a sequence taken as continuous running (R57). -/
abbrev maxDistance : Nat := 16
/-- Unacknowledged announcements in a row that isolate the station (R92). -/
abbrev isolationCount : Nat := 3
/-- Entries of the transmit queue (R49). -/
abbrev queueEntries : Nat := 8
/-- Time within which a leaving ANNOUNCE must begin (R53). -/
abbrev leavingMs : Nat := 500
/-- Greatest body length of a Passline frame (section 3.1). -/
abbrev maxBody : Nat := 48
/-- Racks tracked at once (section 7.1). -/
abbrev rackCapacity : Nat := 12
/-- Minimum spacing, in tenths of a millimetre (R100). -/
abbrev rackSpacing : Nat := 5500
/-- Distance from the leading edge back to the midpoint, in tenths of a millimetre (chapter 7). -/
abbrev halfRack : Int := 2500
/-- Position at which a rack stops advancing, in tenths of a millimetre (R103). -/
abbrev maxPosition : Nat := 70000
/-- Greatest rinse dwell in milliseconds (R105). -/
abbrev maxDwell : Nat := 600000
/-- Booster readings kept per rack (section 7.1). -/
abbrev traceLength : Nat := 32
/-- Greatest clean-awaiting count (R110). -/
abbrev maxClean : Nat := 9999
/-- Jam timer end in milliseconds (R116). -/
abbrev jamMs : Nat := 2000
/-- Rinse hold time at which RINSE-HOLD is called, in milliseconds (R106). -/
abbrev rinseCallMs : Nat := 60000
/-- Greatest rinse hold time, 65,535 s, in milliseconds (section 7.2). -/
abbrev rinseMaxMs : Nat := 65535000
/-- Idle time at which the IDLE hold is set, in milliseconds (R115). -/
abbrev idleMs : Nat := 30000
/-- Loads on one warmer (section 8.2). -/
abbrev maxLoads : Nat := 6
/-- Greatest count of one load (section 8.2). -/
abbrev maxLoadCount : Nat := 300
/-- Credit below which the newest load still takes a merge, in milliseconds (R129). -/
abbrev mergeCreditMs : Nat := 60000
/-- Cooling timer end in milliseconds (R128). -/
abbrev coolingMs : Nat := 120000
/-- Holds of one station (R132). -/
abbrev maxHolds : Nat := 16
/-- Waves of one station (R145). -/
abbrev maxWaves : Nat := 16
/-- Milliseconds between two ask checks, and of an answer timer (R154). -/
abbrev askMs : Nat := 5000
/-- Open calls of one station (R161). -/
abbrev maxCalls : Nat := 16
/-- Broadcast timer in CALLING (R164). -/
abbrev callingMs : Nat := 10000
/-- Broadcast timer in TAKEN and SENT (R164). -/
abbrev reminderMs : Nat := 60000
/-- Calls of one page queue (R168). -/
abbrev maxPaged : Nat := 24
/-- Result timer in milliseconds (R170). -/
abbrev resultMs : Nat := 3000
/-- Busy timer in milliseconds (R174). -/
abbrev busyMs : Nat := 1000
/-- Busy retries at which a call fails (R174). -/
abbrev busyLimit : Nat := 5
/-- Failures at which the radio is DOWN (R175). -/
abbrev failureLimit : Nat := 3
/-- Milliseconds from one ALL record to the next (R178). -/
abbrev allMs : Nat := 5000
/-- Reports of the report queue (R190). -/
abbrev maxReports : Nat := 32
/-- Seconds of a day (Service clock). -/
abbrev day : Nat := 86400

end Sys2Proof.Config
end

