-- ==== Sys2Proof/Syntax.lean ====
section
/-! DEFINITION. The commands of the block: one constructor of Instr for each row of spec/opcode_table.json. A panel
command carries its parameter words as they came in (R186), a received frame its sender and the fields of its body
(section 12.1), a sweep its ten raw conversions (R1). -/

namespace Sys2Proof

/-- The ten raw conversions of one sweep: T0..T7 in tenths of a degree, I0 and I1 in deciamperes (R1). -/
structure Conversions where
  t : Vector Int 8
  i0 : Int
  i1 : Int
deriving DecidableEq, Repr

/-- Four currents, one for each priority class, in deciamperes. -/
structure Asks where
  c3 : Nat
  c2 : Nat
  c1 : Nat
  c0 : Nat
deriving DecidableEq, Repr

/-- Four zeros. -/
def Asks.zero : Asks := ⟨0, 0, 0, 0⟩

/-- Body of an ANNOUNCE frame (section 12.1). -/
structure AnnounceBody where
  epoch : Nat
  sequence : Nat
  asks : Asks
  drawing : Nat
  leaving : Bool
deriving DecidableEq, Repr

/-- One warmer entry of a STOCK body, and of a peer's stock part (section 12.1). -/
structure StockEntry where
  channel : Nat
  ready : Nat
  available : Nat
deriving DecidableEq, Repr

/-- Body of a STOCK frame (section 12.1). -/
structure StockBody where
  clean : Option Nat
  warmers : List StockEntry
deriving DecidableEq, Repr

/-- Body of a PAGE-CALL frame (section 12.1); the reason is its code. -/
structure PageCallBody where
  number : Nat
  reason : Nat
  subject : Nat
  group : Nat
  urgency : Nat
deriving DecidableEq, Repr

/-- Body of a PAGE-STATE frame (section 12.1); reason, outcome and detail are their codes. -/
structure PageStateBody where
  origin : Nat
  number : Nat
  reason : Nat
  subject : Nat
  outcome : Nat
  detail : Nat
deriving DecidableEq, Repr

/-- Body of a HOLD-ASK frame (section 12.1); the duration is in seconds. -/
structure HoldAskBody where
  target : Nat
  wave : Nat
  channel : Nat
  count : Nat
  duration : Nat
deriving DecidableEq, Repr

/-- Body of a HOLD-ANSWER frame (section 12.1); the result is its code. -/
structure HoldAnswerBody where
  target : Nat
  wave : Nat
  channel : Nat
  result : Nat
  count : Nat
  tag : Nat
deriving DecidableEq, Repr

/-- Body of a HOLD-STATE frame (section 12.1); the cause is its code. -/
structure HoldStateBody where
  target : Nat
  tag : Nat
  wave : Nat
  channel : Nat
  cause : Nat
  count : Nat
deriving DecidableEq, Repr

/-- Body of a HOLD-FREE frame (section 12.1). -/
structure HoldFreeBody where
  target : Nat
  tag : Nat
  wave : Nat
  channel : Nat
deriving DecidableEq, Repr

/-- A Passline frame of a known kind, without its header and check word. -/
inductive Frame where
  | announce (b : AnnounceBody)
  | pageCall (b : PageCallBody)
  | pageState (b : PageStateBody)
  | pageCancel (number : Nat)
  | holdAsk (b : HoldAskBody)
  | holdAnswer (b : HoldAnswerBody)
  | holdState (b : HoldStateBody)
  | holdFree (b : HoldFreeBody)
  | stock (b : StockBody)
deriving DecidableEq, Repr

/-- Result of a modem RESULT record (section 12.3). -/
inductive ModemResult where
  | sent
  | busy
  | fault
deriving DecidableEq, Repr

/-- Why an inbound modem record is discarded (R194). -/
inductive DiscardCause where
  | lowStopBit
  | unknownType
  | wrongLength
  | checkDiffers
deriving DecidableEq, Repr

/-- The commands: one constructor for each row of the table of operations and events. -/
inductive Instr where
  /-- R87: the RESET pin is asserted. -/
  | resetAssert
  /-- R87: the RESET pin is released. -/
  | resetRelease
  /-- R87: the RESTART command. -/
  | restart (p : List Word)
  /-- R87: the 10 ms reset of RESTART runs out. -/
  | restartRelease
  /-- R1: a sweep completes with these raw conversions. -/
  | sweepCompletion (c : Conversions)
  /-- R6: the pin of line `l` takes a level. -/
  | linePinChange (l : LineNo) (high : Bool)
  /-- R6: the debounce of line `l` runs out. -/
  | lineEdge (l : LineNo)
  /-- R10: a rising edge on E. -/
  | encoderPulse
  /-- R24: a heat window starts. -/
  | windowStart
  /-- R30: the on-time of channel `k` has run. -/
  | onTimeEnd (k : Chan)
  /-- R18: the HEAT command. -/
  | heat (p : List Word)
  /-- R20: the HEAT-OFF command. -/
  | heatOff (p : List Word)
  /-- R22: the CHANNEL-CLEAR command. -/
  | channelClear (p : List Word)
  /-- R42: the line is quiet and the station may start its head frame. -/
  | frameStart
  /-- R44: the station sends a 1 and reads a 0. -/
  | arbitrationLost
  /-- R46: the station drives a 0 and reads a 1. -/
  | bitFault
  /-- R45: the frame on the line is complete and its acknowledge slot is read. -/
  | frameResult (acked : Bool)
  /-- R46: the line has stood dominant for 1 ms. -/
  | lineStuck
  /-- R46: a stuck line is quiet again. -/
  | lineClear
  /-- R43: these bytes of a frame were collected and the frame is discarded. -/
  | badFrame (bytes : List Byte)
  /-- R50: a good frame of these bytes is acknowledged and discarded. -/
  | frameMismatch (bytes : List Byte)
  /-- R52: a good frame of this kind code bears the own identifier. -/
  | duplicateId (kind : Nat)
  /-- R53: the leaving ANNOUNCE has not begun within 500 ms. -/
  | leavingAnnounceTimeout
  /-- R57: an ANNOUNCE is received. -/
  | announce (sender : Nat) (b : AnnounceBody)
  /-- R60: the silence timer of a peer reaches 3,000 ms. -/
  | silenceStale (peer : Nat)
  /-- R61: the silence timer of a peer reaches 10,000 ms. -/
  | silenceRemove (peer : Nat)
  /-- R64: a STOCK is received. -/
  | stock (sender : Nat) (b : StockBody)
  /-- R65: the stock age of a peer reaches 20 s. -/
  | stockAgeExpiry (peer : Nat)
  /-- R73: the announce tick. -/
  | announceTick
  /-- R91: the listening timer runs out. -/
  | listeningTimerExpiry
  /-- R88: the PROFILE-PUT command. -/
  | profilePut (p : List Word)
  /-- R89: the JOIN command. -/
  | join (p : List Word)
  /-- R94: the LEAVE command. -/
  | leave (p : List Word)
  /-- R95: the SET-CLOCK command. -/
  | setClock (p : List Word)
  /-- R95: a clock second. -/
  | clockSecond
  /-- R117: the DISH-ON command. -/
  | dishOn (p : List Word)
  /-- R118: the DISH-OFF command. -/
  | dishOff (p : List Word)
  /-- R119: the DISH-SPEED command. -/
  | dishSpeed (p : List Word)
  /-- R116: the DISH-RESUME command. -/
  | dishResume (p : List Word)
  /-- R120: the NEXT-RACK command. -/
  | nextRack (p : List Word)
  /-- R121: the PICKUP command. -/
  | pickup (p : List Word)
  /-- R116: the jam timer reaches 2,000 ms. -/
  | jamTimerExpiry
  /-- R106: the rinse hold time reaches 60 s. -/
  | rinseHoldTimeExpiry
  /-- R115: the idle time reaches 30 s. -/
  | idleTimeExpiry
  /-- R129: the LOAD command. -/
  | load (p : List Word)
  /-- R130: the TAKE command. -/
  | take (p : List Word)
  /-- R128: the cooling timer of warmer `k` reaches 120,000 ms. -/
  | coolingReset (k : Chan)
  /-- R133: a HOLD-ASK is received. -/
  | holdAsk (sender : Nat) (b : HoldAskBody)
  /-- R136: a HOLD-FREE is received. -/
  | holdFree (sender : Nat) (b : HoldFreeBody)
  /-- R137: the remaining time of the hold with this tag reaches 0. -/
  | holdExpiry (tag : Nat)
  /-- R141: the stock tick. -/
  | stockTick
  /-- R146: the WAVE-PLAN command. -/
  | wavePlan (p : List Word)
  /-- R149: the WAVE-FIRE command. -/
  | waveFire (p : List Word)
  /-- R151: the WAVE-PLATE command. -/
  | wavePlate (p : List Word)
  /-- R151: the WAVE-CLOSE command. -/
  | waveClose (p : List Word)
  /-- R152: the WAVE-CANCEL command. -/
  | waveCancel (p : List Word)
  /-- R150: the cook timer of a wave comes due. -/
  | cookTimer (wave : Nat)
  /-- R154: the check timer of a wave comes due. -/
  | askCheck (wave : Nat)
  /-- R155: the answer timer of source 1 (`second` false) or source 2 of a wave runs out. -/
  | answerTimerExpiry (wave : Nat) (second : Bool)
  /-- R155: a HOLD-ANSWER is received. -/
  | holdAnswer (sender : Nat) (b : HoldAnswerBody)
  /-- R156: a HOLD-STATE is received. -/
  | holdState (sender : Nat) (b : HoldStateBody)
  /-- R163: the PAGE command. -/
  | page (p : List Word)
  /-- R163: the CALL-END command. -/
  | callEnd (p : List Word)
  /-- R167: the DUTY command. -/
  | duty (p : List Word)
  /-- R178: the ALL-CALL command. -/
  | allCall (p : List Word)
  /-- R179: the ALL-CALL-END command. -/
  | allCallEnd (p : List Word)
  /-- R164: the broadcast timer of the call with this number comes due. -/
  | broadcastTimerExpiry (number : Nat)
  /-- R168: a PAGE-CALL is received. -/
  | pageCall (sender : Nat) (b : PageCallBody)
  /-- R165: a PAGE-STATE is received. -/
  | pageState (sender : Nat) (b : PageStateBody)
  /-- R177: a PAGE-CANCEL is received. -/
  | pageCancel (sender : Nat) (number : Nat)
  /-- R194: the outbound modem record ends. -/
  | modemRecordSent
  /-- R174: a RESULT record is received. -/
  | result (tag : Nat) (r : ModemResult)
  /-- R174: the result timer runs out. -/
  | resultTimeout
  /-- R176: an ACK record is received. -/
  | ack (address : Nat) (tag : Nat)
  /-- R167: a DUTY record is received. -/
  | dutyRecord (address : Nat) (on : Bool)
  /-- R175: a READY record is received. -/
  | ready
  /-- R194: more than 20 ms pass between two bytes of an inbound record. -/
  | modemInterbyteTimeout
  /-- R174: the busy timer of the call with this tag ends. -/
  | busyTimerExpiry (tag : Nat)
  /-- R172: the ack timer of the call with this tag runs out. -/
  | ackTimerExpiry (tag : Nat)
  /-- R178: the next ALL record falls due. -/
  | allRecordDue
  /-- R179: the seconds left of the all-call reach 0. -/
  | allCallExpiry
  /-- R183: chip select goes low. -/
  | transactionStart
  /-- R182: chip select goes high before the record is complete; the code byte if it arrived. -/
  | incompleteCommand (code : Option Byte)
  /-- R182: chip select goes high after the status byte alone. -/
  | statusOnlyEnd
  /-- R185: a whole command record with a code that names no command. -/
  | unknownCommand (code : Byte)
  /-- R184: the NOTHING command. -/
  | nothing (p : List Word)
  /-- R188: the QUERY command. -/
  | query (p : List Word)
  /-- R191: the READ-REPORT command. -/
  | readReport (p : List Word)
  /-- R194: a byte 126 arrives on the modem line. -/
  | startByte
  /-- R174: an inbound modem record is discarded. -/
  | modemRecordDiscarded (c : DiscardCause)
deriving DecidableEq, Repr

end Sys2Proof
end

