-- ==== Sys2Proof/Machine/State.lean ====
section
/-! DEFINITION. The state of the station, block by block, as plain data; the reasons a step can stop; and the state
right after reset release. Every field names the rule that gives it. Fields marked MODEL are the model's own
bookkeeping (notes/assumptions say why). -/

namespace Sys2Proof.Machine

/-! ## Reasons to stop -/

/-- The manual stops the machine nowhere, so no command faults: the type has no constructor (log entry 3; safe). -/
inductive Fault
deriving DecidableEq, Repr

/-- Raised by exec's arms alone, for a command that has no meaning yet; it is safe, since the machine stops. No arm
raises it: every command has its meaning. -/
inductive Refusal where
  | notModelled (mnemonic : String)
deriving DecidableEq, Repr

/-! ## Clocks -/

/-- A periodic clock. `phase` counts the milliseconds since its last moment; `due` (MODEL, log entry 1) says that a
moment has come and its event is not yet taken: until then the phase stands at its last value, so that no snapshot shows
the new phase beside the old window (R40). -/
structure PeriodClock where
  running : Bool
  phase : Nat
  due : Bool
deriving DecidableEq, Repr

/-- A stopped clock. -/
def PeriodClock.stopped : PeriodClock := ⟨false, 0, false⟩

/-! ## Station life cycle (chapter 6) -/

/-- The station states of chapter 6. -/
inductive Station where
  | unjoined
  | listening
  | active
  | isolated
  | duplicate
deriving DecidableEq, Repr

/-- Whether the station is in reset (R87): held by the RESET pin, or by RESTART for the milliseconds still left. -/
inductive Resetting where
  | no
  | pin
  | restart (left : Nat)
deriving DecidableEq, Repr

/-- What the life cycle holds besides the profile (chapter 6). -/
structure Life where
  /-- R90 to R94: the station state. -/
  station : Station
  /-- R90: the join number, 0..255. -/
  joinNumber : Nat
  /-- R95: the service clock, 0..86,399 s. -/
  clock : Nat
  /-- R95: the milliseconds toward the next clock second. -/
  second : PeriodClock
deriving DecidableEq, Repr

/-! ## Profile (section 6.6) -/

/-- The kind of a heat channel (section 2.1). -/
inductive Kind where
  | unused
  | oven
  | warmer
  | booster
  | tank
deriving DecidableEq, Repr

/-- The use of a switch line (R8). -/
inductive LineUse where
  | ovenDoor (k : Chan)
  | warmerDoor (k : Chan)
  | dishEntry
  | dishExit
  | dishDoor
  | unused
deriving DecidableEq, Repr

/-- Profile items of one switch line. -/
structure LineProfile where
  activeHigh : Bool
  use : LineUse
deriving DecidableEq, Repr

/-- Profile items of one heat channel (section 2.1). -/
structure ChanProfile where
  kind : Kind
  sensor : Chan
  load : Nat
  baseClass : Nat
  band : Nat
  integralWindows : Nat
  rampStep : Nat
  highLimit : Nat
deriving DecidableEq, Repr

/-- The four feeder items F, M, C and A (section 5.1). -/
structure FeederProfile where
  limit : Nat
  margin : Nat
  ceiling : Nat
  allowance : Nat
deriving DecidableEq, Repr

/-- The dish line items (section 7.1). -/
structure DishProfile where
  enable : Bool
  a : Nat
  b : Nat
  c : Nat
  d : Nat
  e : Nat
  perPulse : Nat
  topSpeed : Nat
  requestedDefault : Nat
  tsan : Nat
  twash : Nat
  dwellMin : Nat
  defaultPlates : Nat
  trace : Bool
deriving DecidableEq, Repr

/-- The plate stock items of one channel (section 8.1). -/
structure WarmerProfile where
  capacity : Nat
  tready : Nat
  warmTime : Nat
deriving DecidableEq, Repr

/-- One roster entry of the paging profile (section 10.2); `none` is the group NONE. -/
structure RosterEntry where
  address : Nat
  group : Option Nat
  defaultDuty : Bool
deriving DecidableEq, Repr

/-- The station profile (section 6.6). `callMap` is indexed by reason code less 1. -/
structure Profile where
  stationId : Nat
  lines : Vector LineProfile 6
  channels : Vector ChanProfile 8
  feeder : FeederProfile
  dish : DishProfile
  warmers : Vector WarmerProfile 8
  preheatLead : Nat
  radio : Bool
  roster : Vector RosterEntry 32
  escalation : Vector (Option Nat) 8
  ackTime : Nat
  callMap : Vector (Option Nat) 11
deriving DecidableEq, Repr

/-- The defaults of one heat channel; the sensor input is the channel's own number (section 2.1). -/
def ChanProfile.initial (k : Chan) : ChanProfile :=
  { kind := .unused, sensor := k, load := 100, baseClass := 0, band := 200, integralWindows := 10, rampStep := 0,
    highLimit := 2500 }

/-- The defaults of the dish line items (section 7.1). -/
def DishProfile.initial : DishProfile :=
  { enable := false, a := 300, b := 1800, c := 2000, d := 3000, e := 3800, perPulse := 20, topSpeed := 300,
    requestedDefault := 150, tsan := 820, twash := 660, dwellMin := 8, defaultPlates := 20, trace := false }

/-- The profile after reset: every item at its default (R87, section 6.6). -/
def Profile.initial : Profile :=
  { stationId := 0
    lines := Vector.replicate 6 ⟨false, .unused⟩
    channels := Vector.ofFn ChanProfile.initial
    feeder := { limit := 4000, margin := 200, ceiling := 1500, allowance := 300 }
    dish := DishProfile.initial
    warmers := Vector.replicate 8 { capacity := 120, tready := 600, warmTime := 1200 }
    preheatLead := 900
    radio := false
    roster := Vector.replicate 32 { address := 0, group := none, defaultDuty := true }
    escalation := Vector.replicate 8 none
    ackTime := 45
    callMap := Vector.replicate 11 none }

/-! ## Inputs (chapter 1) -/

/-- What the scanner keeps for one temperature input (R2). The published reading is always the last good value (R3). -/
structure TempInput where
  lastGood : Temp
  faulted : Bool
  badCount : Nat
  goodCount : Nat
deriving DecidableEq, Repr

/-- The sensor scanner (R1 to R5); `history` is the draw history, oldest first. -/
structure Scanner where
  inputs : Vector TempInput 8
  i0 : Nat
  i1 : Nat
  history : Vector Nat 4
  /-- R1: milliseconds since the last completion, 0..250. -/
  phase : Nat
deriving DecidableEq, Repr

/-- The scanner after reset (R1, R3, R5). -/
def Scanner.initial : Scanner :=
  { inputs := Vector.replicate 8 ⟨0, false, 0, 0⟩, i0 := 0, i1 := 0, history := Vector.replicate 4 0, phase := 0 }

/-- One switch line (R6): the level on its pin, its taken level (true is high) and its running debounce. -/
structure Line where
  pin : Bool
  taken : Bool
  debounce : Option Nat
deriving DecidableEq, Repr

/-! ## Heat channels (chapter 2) -/

/-- Trip cause (section 2.2). -/
inductive TripCause where
  | overheat
  | sensor
deriving DecidableEq, Repr

/-- Target, ramp and working setpoint W, present in RAMP and REGULATE only (section 2.2). -/
structure Setpoint where
  target : Temp
  ramp : Nat
  w : Temp
deriving DecidableEq, Repr

/-- Channel state (section 2.2), with what is present in it alone. -/
inductive ChanState where
  | idle
  | ramp (p : Setpoint)
  | regulate (p : Setpoint)
  | tripped (c : TripCause)
deriving DecidableEq, Repr

/-- The channel record (section 2.2), with the want last given to the share unit (R31, R40) and the drive of the
heater output Hk (R11). -/
structure Channel where
  state : ChanState
  integral : Int
  demand : Nat
  duty : Nat
  charge : Nat
  onTime : Nat
  served : Nat
  doorFlag : Bool
  doorSeen : Bool
  effClass : Nat
  prevDemand : Nat
  prevDuty : Nat
  want : Nat
  heater : Bool
deriving DecidableEq, Repr

/-- A channel after reset or LEAVE, with its profile's base class (R17, R41). -/
def Channel.initial (baseClass : Nat) : Channel :=
  { state := .idle, integral := 0, demand := 0, duty := 0, charge := 0, onTime := 0, served := 0, doorFlag := false,
    doorSeen := false, effClass := baseClass, prevDemand := 0, prevDuty := 0, want := 0, heater := false }

/-- The heat channel block (section 2.2): the eight records, the window clock, the grant in force, the allocation
order of the window and its OVERDRAWN flag. -/
structure Heat where
  channels : Vector Channel 8
  window : PeriodClock
  grant : Nat
  order : List Chan
  overdrawn : Bool
deriving DecidableEq, Repr

/-- The heat channel block after reset or LEAVE (R17, R41). -/
def Heat.initial (p : Profile) : Heat :=
  { channels := p.channels.map (fun c => Channel.initial c.baseClass), window := .stopped, grant := 0, order := [],
    overdrawn := false }

/-! ## Passline controller (chapter 3) -/

/-- One entry of the transmit queue. `sender` is the identifier that the frame carries, fixed with its content when it was
offered, and `age` orders the offers (R47); `deliver` says that its result goes to a block, which is false for what LEAVE
leaves behind (R53). -/
structure TxEntry where
  frame : Frame
  sender : Nat
  age : Nat
  deliver : Bool
deriving DecidableEq, Repr

/-- The Passline controller (chapter 3). -/
structure Bus where
  /-- R47: the waiting frames, head first. -/
  waiting : List TxEntry
  /-- R47: the frame on the line. -/
  onLine : Option TxEntry
  /-- MODEL: the age the next offered frame takes (log entry 8). -/
  nextAge : Nat
  /-- R46: the line is judged stuck. -/
  stuck : Bool
  /-- R53: milliseconds since LEAVE while the leaving ANNOUNCE has not begun. -/
  leaveTimer : Option Nat
  /-- R45: whether the acknowledge slot of the last received frame was driven dominant. -/
  ackSlot : Bool
deriving DecidableEq, Repr

/-- The controller after reset (R53). -/
def Bus.initial : Bus :=
  { waiting := [], onLine := none, nextAge := 0, stuck := false, leaveTimer := none, ackSlot := false }

/-! ## Peer table (chapter 4) -/

/-- The stock part of a peer entry (R55); its age in milliseconds. -/
structure StockPart where
  warmers : List StockEntry
  clean : Option Nat
  age : Nat
deriving DecidableEq, Repr

/-- A peer entry (R55); `stale` is the presence. -/
structure Peer where
  id : Nat
  stale : Bool
  epoch : Nat
  sequence : Nat
  silence : Nat
  asks : Asks
  drawing : Nat
  stock : Option StockPart
deriving DecidableEq, Repr

/-! ## Share unit (chapter 5) -/

/-- The limit point (section 5.2). -/
inductive LimitPoint where
  | none
  | allowance
  | class (c : Nat)
deriving DecidableEq, Repr

/-- The share unit (section 5.2). Its epoch is the join number (R69), which the life cycle holds. -/
structure Share where
  asks : Asks
  ceilingCut : Nat
  drawing : Nat
  grant : Nat
  shares : Asks
  limit : LimitPoint
  tick : PeriodClock
  /-- R79: time left on the listening timer while it runs. -/
  listen : Option Nat
  nextSequence : Nat
  unacked : Nat
deriving DecidableEq, Repr

/-- The share unit after reset or LEAVE (R69). -/
def Share.initial : Share :=
  { asks := .zero, ceilingCut := 0, drawing := 0, grant := 0, shares := .zero, limit := .none, tick := .stopped,
    listen := none, nextSequence := 0, unacked := 0 }

/-! ## Dish line (chapter 7) -/

/-- Mode of the dish line (section 7.4). -/
inductive Mode where
  | off
  | on
  | jam
deriving DecidableEq, Repr

/-- The hold set (section 7.2). -/
structure HoldSet where
  rinse : Bool
  entry : Bool
  exit : Bool
  door : Bool
  idle : Bool
deriving DecidableEq, Repr

/-- No hold. -/
def HoldSet.empty : HoldSet := ⟨false, false, false, false, false⟩

/-- A rack's verdict (section 7.3). -/
inductive Verdict where
  | pending
  | clean
  | rewash
deriving DecidableEq, Repr

/-- A rack record (section 7.3); the position in tenths of a millimetre, the dwell in milliseconds. -/
structure Rack where
  number : Nat
  entryClock : Nat
  position : Nat
  plates : Nat
  washMin : Option Temp
  dwell : Nat
  rinseMin : Option Temp
  interrupted : Bool
  missed : Bool
  verdict : Verdict
  trace : List Temp
deriving DecidableEq, Repr

/-- The dish line (section 7.2). The rinse hold time and the idle time are kept in milliseconds. -/
structure Dish where
  mode : Mode
  holds : HoldSet
  requested : Nat
  /-- R100: the rack queue, front first. -/
  racks : List Rack
  /-- R109: the front rack stands at exit. -/
  atExit : Bool
  tag : Option Nat
  clean : Nat
  lastRack : Option Rack
  nextNumber : Nat
  rinseTime : Nat
  idleTime : Nat
  jamTimer : Nat
  /-- R106: the RINSE-HOLD call was raised for the present hold. -/
  rinseCalled : Bool
deriving DecidableEq, Repr

/-- The dish line after reset or LEAVE (R99). -/
def Dish.initial (p : DishProfile) : Dish :=
  { mode := .off, holds := .empty, requested := p.requestedDefault, racks := [], atExit := false, tag := none,
    clean := 0, lastRack := none, nextNumber := 1, rinseTime := 0, idleTime := 0, jamTimer := 0, rinseCalled := false }

/-! ## Plate stock unit (chapter 8) -/

/-- A load record (section 8.2); the credit in milliseconds. -/
structure Load where
  number : Nat
  count : Nat
  loadedClock : Nat
  credit : Nat
deriving DecidableEq, Repr

/-- What the plate stock unit keeps for one channel (section 8.2). -/
structure Warmer where
  /-- R129: the load list, oldest first. -/
  loads : List Load
  /-- R127: the door state. -/
  doorOpen : Bool
  /-- R128: the cooling timer. -/
  cooling : Nat
  /-- R128: the cooling reset of the present cold spell has taken place. -/
  coolingDone : Bool
  nextLoad : Nat
deriving DecidableEq, Repr

/-- A warmer after reset or LEAVE (R143). -/
def Warmer.initial : Warmer :=
  { loads := [], doorOpen := false, cooling := 0, coolingDone := false, nextLoad := 1 }

/-- A hold record (section 8.4); the remaining time in milliseconds. -/
structure Hold where
  tag : Nat
  asker : Nat
  wave : Nat
  channel : Chan
  count : Nat
  remaining : Nat
deriving DecidableEq, Repr

/-- The plate stock unit (chapter 8). -/
structure Stock where
  warmers : Vector Warmer 8
  /-- R132: the hold table in grant order. -/
  holds : List Hold
  /-- R141: the stock tick clock. -/
  tick : PeriodClock
  /-- R141: the stock-changed flag. -/
  changed : Bool
  /-- R122: the clean-awaiting count the dish line last published. -/
  clean : Nat
deriving DecidableEq, Repr

/-- The plate stock unit after reset or LEAVE (R143). -/
def Stock.initial : Stock :=
  { warmers := Vector.replicate 8 Warmer.initial, holds := [], tick := .stopped, changed := false, clean := 0 }

/-! ## Wave table (chapter 9) -/

/-- The hold states other than ASKED: what a source goes back to when its HOLD-ASK counts as refused (R53, R157). -/
inductive Standing where
  | none
  | held (count : Nat) (tag : Nat)
  | lost
deriving DecidableEq, Repr

/-- A wave's copy of its hold at a source (section 9.1), with what is present in it alone. In ASKED, `before` (MODEL, log
entry 11) is the hold state that the ask found. -/
inductive HoldCopy where
  | none
  | asked (left : Nat) (before : Standing)
  | held (count : Nat) (tag : Nat)
  | lost
deriving DecidableEq, Repr

/-- A source record (section 9.1). -/
structure Source where
  station : Nat
  channel : Nat
  hold : HoldCopy
  taken : Nat
deriving DecidableEq, Repr

/-- Wave states (section 9.3). -/
inductive WaveState where
  | planned
  | preheat
  | fireDue
  | cooking
  | done
  | plating
deriving DecidableEq, Repr

/-- A wave record (section 9.1). -/
structure Wave where
  number : Nat
  oven : Chan
  fire : Nat
  pass : Nat
  cook : Nat
  target : Nat
  covers : Nat
  src1 : Source
  src2 : Option Source
  state : WaveState
  cookLeft : Option Nat
  late : Bool
  short : Bool
  /-- R154: milliseconds to the next ask check. -/
  check : Option Nat
  /-- R150: milliseconds to the next cook-timer second. -/
  cookMs : Nat
  /-- R158: the shortage checks have begun (log entry 24). -/
  shortage : Bool
deriving DecidableEq, Repr

/-! ## Paging unit (chapter 10) -/

/-- Call reasons (section 10.1). -/
inductive CallReason where
  | fireDue
  | waveDone
  | waveLate
  | platesShort
  | platesFetch
  | rinseHold
  | entryFull
  | jam
  | overtemp
  | sensorFault
  | isolated
  | panel
deriving DecidableEq, Repr

/-- State of a call at its origin (section 10.1). -/
inductive CallState where
  | local
  | calling
  | taken
  | sent
deriving DecidableEq, Repr

/-- An entry of the open call list (section 10.1). A LOCAL call has no group. -/
structure Call where
  number : Nat
  reason : CallReason
  subject : Nat
  group : Option Nat
  urgency : Nat
  state : CallState
  broadcasts : Nat
  /-- R164: time to the next offer; absent in LOCAL. -/
  timer : Option Nat
  lastPager : Option Nat
deriving DecidableEq, Repr

/-- State of a queued call at a serving station (R169). -/
inductive PagedState where
  | waiting
  | sending
  | awaitAck
deriving DecidableEq, Repr

/-- A call of the page queue (R169); the reason is its code. -/
structure Paged where
  origin : Nat
  number : Nat
  tag : Nat
  reason : Nat
  subject : Nat
  group : Nat
  urgency : Nat
  state : PagedState
  /-- R173: the round is escalation. -/
  escalated : Bool
  /-- R169: the tried set of roster indices. -/
  tried : List (Fin 32)
  /-- R169: the roster index of the current pager. -/
  current : Option (Fin 32)
  busyRetries : Nat
  /-- R174: the busy timer while it runs. -/
  busyTimer : Option Nat
  /-- R170: the ack timer while it runs. -/
  ackTimer : Option Nat
  /-- R168: the call's latest pager, once it has one. DESIGN CHOICE: read as the pager of its latest PAGE-STATE SENT (log
  entry 52). -/
  sentPager : Option Nat
deriving DecidableEq, Repr

/-- An outbound modem record (section 12.3). -/
inductive OutRecord where
  | send (tag address reason subject urgency : Nat)
  | all (mask seconds : Nat)
deriving DecidableEq, Repr

/-- The record whose result the modem owes, and the result timer once the record has ended (R170). -/
structure ModemWait where
  record : OutRecord
  timer : Option Nat
deriving DecidableEq, Repr

/-- A running all-call (R178): milliseconds left, milliseconds to the next ALL record, whether that record is due, and
whether a DOWN radio has ended its ALL records (R179). -/
structure AllCall where
  left : Nat
  timer : Nat
  due : Bool
  muted : Bool
deriving DecidableEq, Repr

/-- The paging unit (chapter 10). -/
structure Paging where
  /-- R161: the open call list, oldest first. -/
  calls : List Call
  nextNumber : Nat
  radioUp : Bool
  failures : Nat
  modem : Option ModemWait
  duty : Vector Bool 32
  /-- R171: the rotation pointer of each group; `none` is START. -/
  pointer : Vector (Option (Fin 32)) 8
  /-- R169: the page queue in queue order. -/
  queue : List Paged
  nextTag : Nat
  allCall : Option AllCall
  /-- R194: the modem receiver is collecting a record, not hunting. -/
  collecting : Bool
deriving DecidableEq, Repr

/-- The paging unit after reset, at LEAVE and at JOIN (R161, R167). -/
def Paging.initial (p : Profile) : Paging :=
  { calls := [], nextNumber := 1, radioUp := true, failures := 0, modem := none,
    duty := p.roster.map (fun r => r.defaultDuty), pointer := Vector.replicate 8 none, queue := [], nextTag := 1,
    allCall := none, collecting := false }

/-! ## Reports (section 11.7) -/

/-- Cause of a STATION report (R97). -/
inductive StationCause where
  | joined
  | listened
  | unheard (count : Nat)
  | heard
  | duplicateId (kind : Nat)
  | left
deriving DecidableEq, Repr

/-- Cause of a PEER report (R66); the test that failed is EPOCH when `epochTest` holds, SEQUENCE otherwise. -/
inductive PeerCause where
  | restarted (newEpoch : Nat) (epochTest : Bool)
  | silent (lastSequence : Nat)
  | left (lastSequence : Nat)
deriving DecidableEq, Repr

/-- Content of a RACK or MISSED report (R110). -/
structure RackReport where
  number : Nat
  entryClock : Nat
  plates : Nat
  dwell : Nat
  washMin : Option Temp
  rinseMin : Option Temp
  interrupted : Bool
  missed : Bool
  verdict : Verdict
  clean : Nat
deriving DecidableEq, Repr

/-- Cause of a WAVE report with its extra content (R160, R151, R155). -/
inductive WaveCause where
  | planned
  | preheat
  | targetRefused
  | fireDue
  | fired
  | late
  | short
  | covered
  | sourceRefused (station channel : Nat)
  | done
  | plating
  | closed (covers taken1 : Nat) (taken2 : Option Nat)
  | cancelled
deriving DecidableEq, Repr

/-- Cause of a CALL report (R181); a FAILED report carries RADIO when `radio` holds, EXHAUSTED otherwise. -/
inductive CallCause where
  | local
  | refused
  | replaced
  | unserved
  | acked (pager : Nat)
  | failed (radio : Bool)
  | dropped
deriving DecidableEq, Repr

/-- The bodies of the reports (section 11.7). -/
inductive ReportBody where
  | station (left entered : Station) (joinNumber : Nat) (cause : StationCause)
  | trip (channel : Chan) (cause : TripCause) (reading : Temp)
  | overdrawn (grant sum excess : Nat)
  | line (stuck : Bool)
  | peer (id : Nat) (epoch : Nat) (cause : PeerCause)
  | rack (r : RackReport)
  | missed (r : RackReport)
  | stray (front : Option Nat)
  | cooled (channel : Chan) (loads ready holds : Nat)
  | wave (number : Nat) (before after : Option WaveState) (late short : Bool) (cause : WaveCause)
  | call (number : Option Nat) (reason : CallReason) (subject : Nat) (group : Option Nat) (urgency : Nat)
      (cause : CallCause)
  | radio (up : Bool)
  | allCallEnded (timed : Bool)
deriving DecidableEq, Repr

/-- A report (R190): the service clock at which it was queued, and its body. -/
structure Report where
  clock : Nat
  body : ReportBody
deriving DecidableEq, Repr

/-! ## Snapshots (section 11.6) -/

/-- The STATION snapshot (R189). -/
structure StationSnapshot where
  station : Station
  joinNumber : Nat
  clock : Nat
  stationId : Nat
  listenLeft : Nat
  grant : Nat
  asks : Asks
  ceilingCut : Nat
  drawing : Nat
  shares : Asks
  limit : LimitPoint
  epoch : Nat
  nextSequence : Nat
  unacked : Nat
  chargesSum : Nat
  windowPhase : Nat
  queued : Nat
  onLine : Bool
  live : Nat
  stale : Nat
  holds : Nat
  stockChanged : Bool
  waves : Nat
  calls : Nat
  /-- R188: `none` stands for "radio absent". -/
  radioUp : Option Bool
  failures : Nat
  paged : Nat
  modemWaits : Bool
  /-- R180: the seconds left of a running all-call. -/
  allCall : Option Nat
  reports : Nat
  gap : Bool
deriving DecidableEq, Repr

/-- The CHANNEL snapshot (R40). -/
structure ChannelSnapshot where
  channel : Chan
  kind : Kind
  state : ChanState
  integral : Int
  demand : Nat
  duty : Nat
  charge : Nat
  onTime : Nat
  served : Nat
  doorFlag : Bool
  effClass : Nat
  want : Nat
  sensor : Chan
  reading : Temp
  faulted : Bool
deriving DecidableEq, Repr

/-- The stock part of a PEER snapshot (R67); its age in seconds. -/
structure StockView where
  warmers : List StockEntry
  clean : Option Nat
  age : Nat
deriving DecidableEq, Repr

/-- A present peer in a PEER snapshot (R67); its silent time in whole seconds. -/
structure PeerView where
  stale : Bool
  epoch : Nat
  sequence : Nat
  silent : Nat
  asks : Asks
  drawing : Nat
  stock : Option StockView
deriving DecidableEq, Repr

/-- The dish part that begins each dish snapshot (R123). -/
structure DishView where
  enable : Bool
  mode : Mode
  holds : HoldSet
  racks : Nat
  atExit : Bool
  tag : Option Nat
  clean : Nat
  requested : Nat
  effective : Nat
  level : Nat
  running : Bool
  pulseAge : Nat
  rinseTime : Nat
  idleTime : Nat
  jamTimer : Nat
  nextNumber : Nat
deriving DecidableEq, Repr

/-- A rack in a dish snapshot: its record, and its midpoint beside its position (R123). -/
structure RackView where
  rack : Rack
  midpoint : Int
deriving DecidableEq, Repr

/-- One load in a STOCK snapshot (R144). -/
structure LoadView where
  load : Load
  ready : Bool
deriving DecidableEq, Repr

/-- The stock of a WARMER channel in a STOCK snapshot (R144). -/
structure WarmerView where
  profile : WarmerProfile
  doorOpen : Bool
  cooling : Nat
  loads : List LoadView
  loaded : Nat
  ready : Nat
  held : Nat
  available : Nat
  tags : List Nat
deriving DecidableEq, Repr

/-- A hold in a HOLD snapshot (R144); the remaining time in seconds, rounded up. -/
structure HoldView where
  asker : Nat
  wave : Nat
  channel : Chan
  count : Nat
  remaining : Nat
  place : Nat
deriving DecidableEq, Repr

/-- A wave in a WAVE snapshot (R160). -/
structure WaveView where
  wave : Wave
  need1 : Nat
  need2 : Option Nat
  covered : Bool
deriving DecidableEq, Repr

/-- A PAGER snapshot (R180). -/
structure PagerView where
  address : Nat
  group : Option Nat
  duty : Bool
  isPointer : Bool
deriving DecidableEq, Repr

/-- The snapshots (R188); an absent item is `none`. -/
inductive Snapshot where
  | station (v : StationSnapshot)
  | channel (v : ChannelSnapshot)
  | peer (id : Nat) (v : Option PeerView)
  | rack (d : DishView) (index : Nat) (v : Option RackView)
  | lastRack (d : DishView) (v : Option RackView)
  | trace (d : DishView) (index : Nat) (v : Option (List Temp))
  | stock (channel : Chan) (kind : Kind) (v : Option WarmerView)
  | hold (tag : Nat) (v : Option HoldView)
  | wave (number : Nat) (v : Option WaveView)
  | call (position : Nat) (v : Option Call)
  | paged (position : Nat) (v : Option Paged)
  | pager (index : Nat) (v : PagerView)
  | profile (item element value : Nat)
deriving DecidableEq, Repr

/-! ## Panel port (chapter 11) -/

/-- Refusal reasons of a reply (section 11.2); CONDITION carries the profile item and element that a refused JOIN names
(R89). -/
inductive Reason where
  | unknown
  | malformed
  | stage
  | noSuch
  | wrongKind
  | busy
  | full
  | state
  | condition (named : Option (Nat × Nat))
deriving DecidableEq, Repr

/-- The result an accepted command's reply carries (section 11.2). A report result without a report is EMPTY (R191). -/
inductive Result where
  | none
  | taken (readyBefore taken : Nat) (holdAfter : Option Nat)
  | loaded (count number : Nat) (merged : Bool)
  | call (number : Nat)
  | snapshot (s : Snapshot)
  | report (gap : Bool) (r : Option Report)
deriving DecidableEq, Repr

/-- A reply (section 11.2). NONE carries the code 255 (section 12.2). -/
inductive Reply where
  | none
  | done (code : Nat) (clamped : Bool) (r : Result)
  | refused (code : Nat) (r : Reason)
deriving DecidableEq, Repr

/-- The transaction on the panel port (R182): none, one under way with the status byte formed at its start (R183), or
one that a reset has caught and that is discarded whole. -/
inductive Transaction where
  | none
  | running (status : Byte)
  | dead
deriving DecidableEq, Repr

/-- The panel port (chapter 11). -/
structure Port where
  reply : Reply
  /-- R190: the report queue, oldest first. -/
  reports : List Report
  gap : Bool
  transaction : Transaction
deriving DecidableEq, Repr

/-- The panel port after reset (R184, R190). -/
def Port.initial : Port := { reply := .none, reports := [], gap := false, transaction := .none }

/-! ## The whole station -/

/-- The state of the station, and the queue of the commands that wait, first in first out. -/
structure State where
  /-- MODEL: the commands waiting to be taken, front first. -/
  pending : List Instr
  resetting : Resetting
  life : Life
  profile : Profile
  scan : Scanner
  lines : Vector Line 6
  /-- R10: the pulse age in milliseconds. -/
  pulseAge : Nat
  heat : Heat
  bus : Bus
  /-- R55: the peer table in order of identifier. -/
  peers : List Peer
  share : Share
  dish : Dish
  stock : Stock
  /-- R145: the wave table in order of number. -/
  waves : List Wave
  paging : Paging
  port : Port
deriving DecidableEq, Repr

/-- The life cycle at reset release (R87). -/
def Life.initial : Life :=
  { station := .unjoined, joinNumber := 0, clock := 0, second := { running := true, phase := 0, due := false } }

/-- Right after reset release with every switch line pin high (log entry 5): R87 and the reset rule of each block. -/
def State.reset : State :=
  { pending := []
    resetting := .no
    life := Life.initial
    profile := Profile.initial
    scan := Scanner.initial
    lines := Vector.replicate 6 { pin := true, taken := true, debounce := none }
    pulseAge := Config.pulseAgeMax
    heat := Heat.initial Profile.initial
    bus := Bus.initial
    peers := []
    share := Share.initial
    dish := Dish.initial DishProfile.initial
    stock := Stock.initial
    waves := []
    paging := Paging.initial Profile.initial
    port := Port.initial }

end Sys2Proof.Machine
end

