-- ==== Sys2Proof/Machine/Operands.lean ====
section
/-! DEFINITION. The manual's integer arithmetic (00_scope, Integer arithmetic) and the operand forms of a panel
command: words, wide parameters, tokens, identifiers, choices and clamping (R186, R187). -/

namespace Sys2Proof.Machine

/-! ## Integer arithmetic -/

/-- The nearest bound of `lo..hi` (00_scope, "Every clamp takes the nearest bound of the stated range"). -/
def clampNat (lo hi n : Nat) : Nat := max lo (min hi n)

/-- The nearest bound of `lo..hi` for a signed quantity. -/
def clampInt (lo hi n : Int) : Int := max lo (min hi n)

/-- Division rounded up (00_scope, "rounded up", which means the ceiling). -/
def ceilDiv (n d : Nat) : Nat := (n + (d - 1)) / d

/-- Signed division, truncated toward zero (00_scope, Integer arithmetic). -/
def truncDiv (n d : Int) : Int := Int.tdiv n d

/-- The test of *reached* on the service clock (00_scope, Service clock). -/
def reached (now x : Nat) : Bool := decide ((now + Config.day - x % Config.day) % Config.day < 43200)

/-- `x` less `n` on the service clock. -/
def clockLess (x n : Nat) : Nat := (x + Config.day - n % Config.day) % Config.day

/-- The first number from `n` on, cycling through 1..255, that `used` does not hold (R161, R168). -/
def freeNumber (used : List Nat) : Nat → Nat → Nat
  | 0, n => n
  | fuel + 1, n => if used.contains n then freeNumber used fuel (n % 255 + 1) else n

/-! ## Parameters (R186, R187) -/

/-- One parameter: a value or a token. -/
inductive Param where
  | value (n : Nat)
  | least
  | most
  | dflt
deriving DecidableEq, Repr

/-- The token a word holds, if it holds one (section 12.2). -/
def tokenOf (w : Word) : Option Param :=
  if w.toNat = 65533 then some .least
  else if w.toNat = 65534 then some .most
  else if w.toNat = 65535 then some .dflt
  else none

/-- A narrow parameter (R186). -/
def narrow (w : Word) : Param := (tokenOf w).getD (.value w.toNat)

/-- A wide parameter: the upper word first, a token by its first word alone (R186). -/
def wide (hi lo : Word) : Param := (tokenOf hi).getD (.value (hi.toNat * 65536 + lo.toNat))

/-- Whether a parameter carries a value, not a token (R185, test 4). -/
def hasValue : Param → Bool
  | .value _ => true
  | _ => false

/-- The value of an identifier that has passed test 4. -/
def idValue : Param → Nat
  | .value n => n
  | _ => 0

/-- Whether an identifier lies in its stated range (R185, test 5). -/
def idWithin (lo hi : Nat) (p : Param) : Bool := decide (lo ≤ idValue p) && decide (idValue p ≤ hi)

/-- The channel an identifier within 0..7 names. -/
def chanOf (n : Nat) : Chan := Fin.ofNat 8 n

/-- A numeric parameter in the range `lo..hi` with the default `d`: the value acted on, and whether clamping was needed
(R186, R187). -/
def numeric (lo hi d : Nat) : Param → Nat × Bool
  | .value n => (clampNat lo hi n, decide (clampNat lo hi n ≠ n))
  | .least => (lo, false)
  | .most => (hi, false)
  | .dflt => (clampNat lo hi d, decide (clampNat lo hi d ≠ d))

/-- A choice parameter among the codes 0..`top` with the default `d`; `none` fails test 4 (R186). -/
def choice (top d : Nat) : Param → Option Nat
  | .value n => if n ≤ top then some n else none
  | .dflt => some d
  | _ => none

/-! ## Tests of a command record (R185) -/

/-- The station states in which a command is taken (R185, test 3). -/
inductive Stage where
  | any
  | unjoinedOnly
  | joinedOnly
deriving DecidableEq, Repr

/-- Whether a command of stage `g` is taken in station state `st`. -/
def stageOk (g : Stage) (st : Station) : Bool :=
  match g with
  | .any => true
  | .unjoinedOnly => st = .unjoined
  | .joinedOnly => st ≠ .unjoined

/-- Tests 3, 4 and 5 of R185 in their order, and then the checks of the owning chapter. -/
def checked {α : Type} (stage tokens ranges : Bool) (owner : Except Reason α) : Except Reason α :=
  if stage then
    if tokens then
      if ranges then owner else .error .noSuch
    else .error .malformed
  else .error .stage

end Sys2Proof.Machine
end

