-- ==== Sys2Proof/Machine/Flags.lean ====
section
/-! DEFINITION. What the station shows and what its blocks read of one another: conditions formed from the state, the
output drivers and lamps (section 1.4) and the status byte (R183). None of it is stored. -/

namespace Sys2Proof.Machine

/-! ## Station -/

/-- The station identifier in force. -/
def ownId (s : State) : Nat := s.profile.stationId

/-- The station is in LISTENING, ACTIVE, ISOLATED or DUPLICATE. -/
def joined (s : State) : Bool := s.life.station ≠ .unjoined

/-- The station may offer and send frames: ACTIVE or ISOLATED (R49, section 3.4). -/
def maySend (s : State) : Bool := s.life.station = .active || s.life.station = .isolated

/-- The station is out of reset. -/
def awake (s : State) : Bool := s.resetting = .no

/-- The window and tick clocks run in these states (R23, R70). -/
def clocksRun (s : State) : Bool :=
  s.life.station = .active || s.life.station = .isolated || s.life.station = .duplicate

/-! ## Inputs -/

/-- The temperature input that channel `k` names. -/
def sensorOf (s : State) (k : Chan) : TempInput := s.scan.inputs[s.profile.channels[k].sensor]

/-- The published reading of channel `k`'s sensor input (R3: it is the last good value). -/
def reading (s : State) (k : Chan) : Temp := (sensorOf s k).lastGood

/-- The fault state of channel `k`'s sensor input. -/
def flagged (s : State) (k : Chan) : Bool := (sensorOf s k).faulted

/-- The drawing: the sum of the draw history divided by 4 (R5). -/
def drawingOf (c : Scanner) : Nat := (c.history[0] + c.history[1] + c.history[2] + c.history[3]) / 4

/-- Line `l` is ACTIVE: its taken level is its polarity's active level (R7). -/
def lineActive (s : State) (l : LineNo) : Bool := s.lines[l].taken == s.profile.lines[l].activeHigh

/-- A use fits the profile: an oven door at an OVEN, a warmer door at a WARMER, a dish use with the dish line enabled
(R8). -/
def useFits (p : Profile) : LineUse → Bool
  | .ovenDoor k => p.channels[k].kind = .oven
  | .warmerDoor k => p.channels[k].kind = .warmer
  | .unused => true
  | _ => p.dish.enable

/-- The use of line `l` as it is resolved at JOIN (R8). -/
def resolvedUse (p : Profile) (l : LineNo) : LineUse :=
  let u := p.lines[l].use
  if useFits p u && (List.finRange 6).all (fun j => !(decide (j < l) && decide (p.lines[j].use = u))) then u
  else .unused

/-- The line that is resolved to the use `u` is ACTIVE. -/
def useActive (s : State) (u : LineUse) : Bool :=
  (List.finRange 6).any (fun l => decide (resolvedUse s.profile l = u) && lineActive s l)

/-! ## Heat channels -/

/-- Target, ramp and W of a channel, when present. -/
def setpointOf : ChanState → Option Setpoint
  | .ramp p => some p
  | .regulate p => some p
  | _ => none

/-- The channel is in RAMP or REGULATE. -/
def heating (c : ChanState) : Bool := (setpointOf c).isSome

/-- The channel is TRIPPED. -/
def isTripped : ChanState → Bool
  | .tripped _ => true
  | _ => false

/-- The sum of the channels' charges (R29). -/
def chargesSum (cs : Vector Channel 8) : Nat := (cs.toList.map (fun c => c.charge)).sum

/-- The highest target of channel `k`: Tmax less 50 (R18). -/
def topTarget (p : Profile) (k : Chan) : Nat := p.channels[k].highLimit - 50

/-- At least one heat channel is TRIPPED. -/
def anyTripped (s : State) : Bool := s.heat.channels.toList.any (fun c => isTripped c.state)

/-! ## Dish line -/

/-- The channel of a kind, when the profile has one; JOIN checks BOOSTER and TANK (R98). -/
def channelOfKind (p : Profile) (k : Kind) : Option Chan :=
  (List.finRange 8).find? (fun i => decide (p.channels[i].kind = k))

/-- Some hold is set. -/
def anyHold (h : HoldSet) : Bool := h.rinse || h.entry || h.exit || h.door || h.idle

/-- The conveyor runs: mode ON and the hold set empty (R101). -/
def conveyorRuns (d : Dish) : Bool := d.mode = .on && !anyHold d.holds

/-- The effective speed in mm/s (R102). DESIGN CHOICE: with d below c, which JOIN excludes while the dish line is enabled, it
is 0, and in UNJOINED it follows each PROFILE-PUT (log entry 48). -/
def effectiveSpeed (p : DishProfile) (requested : Nat) : Nat := min requested ((p.d - p.c) / p.dwellMin)

/-- The speed level (R102). -/
def speedLevel (p : DishProfile) (requested : Nat) : Nat := min 255 (effectiveSpeed p requested * 255 / p.topSpeed)

/-- A rack's midpoint, in tenths of a millimetre. -/
def midpoint (r : Rack) : Int := (r.position : Int) - Config.halfRack

/-- The midpoint lies from `lo` mm up to but not including `hi` mm. -/
def midWithin (lo hi : Int) (r : Rack) : Bool := decide (lo * 10 ≤ midpoint r) && decide (midpoint r < hi * 10)

/-- The rack is in the wash zone (R104). -/
def inWash (p : DishProfile) (r : Rack) : Bool := midWithin p.a p.b r

/-- The rack is in the rinse zone (R105). -/
def inRinse (p : DishProfile) (r : Rack) : Bool := midWithin p.c p.d r

/-- The rack is in the test span of the RINSE hold (R106). -/
def inTestSpan (p : DishProfile) (r : Rack) : Bool := midWithin ((p.c : Int) - 200) p.d r

/-- The verdict of the rack standing at exit, if one stands there (R13). -/
def exitVerdict (d : Dish) : Option Verdict := if d.atExit then d.racks.head?.map (fun r => r.verdict) else none

/-- The dish stopped condition of the status byte and LAMP-HOLD (R14, R183). -/
def dishStopped (d : Dish) : Bool := anyHold d.holds || d.mode = .jam

/-! ## Plate stock -/

/-- Credit at which a load of channel `k` is ready, in milliseconds (R125). -/
def readyCredit (p : Profile) (k : Chan) : Nat := p.warmers[k].warmTime * 1000

/-- A load of channel `k` is ready (R125). -/
def loadReady (p : Profile) (k : Chan) (l : Load) : Bool := decide (readyCredit p k ≤ l.credit)

/-- The loaded count of a load list (R125). -/
def loadedCount (ls : List Load) : Nat := (ls.map (fun l => l.count)).sum

/-- The ready count of channel `k` (R125). -/
def readyCount (p : Profile) (t : Stock) (k : Chan) : Nat := loadedCount (t.warmers[k].loads.filter (loadReady p k))

/-- The holds on channel `k`, in grant order. -/
def holdsOn (t : Stock) (k : Chan) : List Hold := t.holds.filter (fun h => decide (h.channel = k))

/-- The held count of channel `k` (R125). -/
def heldCount (t : Stock) (k : Chan) : Nat := ((holdsOn t k).map (fun h => h.count)).sum

/-- The available count of channel `k` (R125). -/
def availableCount (p : Profile) (t : Stock) (k : Chan) : Nat := readyCount p t k - heldCount t k

/-- The ready and available counts that R141 watches: one pair for each WARMER channel. -/
def watchedCounts (p : Profile) (t : Stock) : List (Nat × Nat) :=
  ((List.finRange 8).filter (fun k => decide (p.channels[k].kind = .warmer))).map
    (fun k => (readyCount p t k, availableCount p t k))

/-- The station has a WARMER channel or a dish line, and so offers STOCK frames (R141). -/
def hasStock (p : Profile) : Bool := p.dish.enable || p.channels.toList.any (fun c => decide (c.kind = .warmer))

/-! ## Waves -/

/-- A source's held figure (section 9.1). -/
def heldFigure : HoldCopy → Nat
  | .held n _ => n
  | _ => 0

/-- The held figure of source 2, 0 with one source (R154). -/
def held2 (w : Wave) : Nat := (w.src2.map (fun r => heldFigure r.hold)).getD 0

/-- The taken count of source 2, 0 with one source (R154). -/
def taken2 (w : Wave) : Nat := (w.src2.map (fun r => r.taken)).getD 0

/-- The need of source 1 (R154). -/
def need1 (w : Wave) : Nat := w.covers - (w.src1.taken + taken2 w + held2 w)

/-- The need of source 2 (R154). -/
def need2 (w : Wave) : Nat := w.covers - (w.src1.taken + taken2 w + heldFigure w.src1.hold)

/-- The plates held and taken (R158). -/
def coverSum (w : Wave) : Nat := heldFigure w.src1.hold + held2 w + w.src1.taken + taken2 w

/-- The wave is covered (R158). -/
def covered (w : Wave) : Bool := decide (w.covers ≤ coverSum w)

/-- A wave in this state makes ask checks and shortage checks (section 9.3). -/
def asking : WaveState → Bool
  | .preheat | .fireDue | .cooking | .done => true
  | _ => false

/-! ## Elevations (R28) -/

/-- The elevation the dish line publishes for a channel of kind `k` (R122). -/
def dishElevation (s : State) (k : Kind) : Nat :=
  match k, s.dish.mode with
  | .booster, .on => 3
  | .tank, .on => 2
  | .tank, .jam => 2
  | _, _ => 0

/-- The class one wave gives its oven (R159). -/
def waveClass : WaveState → Nat
  | .preheat | .fireDue | .cooking => 2
  | .done | .plating => 1
  | .planned => 0

/-- The elevation the wave table publishes for oven `k` (R159). -/
def waveElevation (s : State) (k : Chan) : Nat :=
  ((s.waves.filter (fun w => decide (w.oven = k))).map (fun w => waveClass w.state)).foldl max 0

/-- The elevation that applies to channel `k` (R28): of the dish line (R122), the wave table (R159) or the plate stock
unit (R140); 0 where none applies. -/
def elevation (s : State) (k : Chan) : Nat :=
  match s.profile.channels[k].kind with
  | .oven => waveElevation s k
  | .warmer => if (holdsOn s.stock k).isEmpty then 0 else 2
  | .booster => dishElevation s .booster
  | .tank => dishElevation s .tank
  | .unused => 0

/-- The effective class of channel `k` computed now (R28). -/
def classNow (s : State) (k : Chan) : Nat := max s.profile.channels[k].baseClass (elevation s k)

/-! ## Paging -/

/-- The code of a reason (section 12.1). -/
def reasonCode : CallReason → Nat
  | .fireDue => 1
  | .waveDone => 2
  | .waveLate => 3
  | .platesShort => 4
  | .platesFetch => 5
  | .rinseHold => 6
  | .entryFull => 7
  | .jam => 8
  | .overtemp => 9
  | .sensorFault => 10
  | .isolated => 11
  | .panel => 12

/-- The fixed urgency of a reason (section 10.1); PANEL's default (R163). -/
def reasonUrgency : CallReason → Nat
  | .fireDue => 2
  | .waveDone => 2
  | .waveLate => 3
  | .platesShort => 1
  | .platesFetch => 1
  | .rinseHold => 2
  | .entryFull => 1
  | .jam => 2
  | .overtemp => 3
  | .sensorFault => 3
  | .isolated => 3
  | .panel => 1

/-- Roster entry `i` is a member of group `g` (section 10.2). -/
def isMember (p : Profile) (g : Nat) (i : Fin 32) : Bool :=
  decide (p.roster[i].address ≠ 0) && decide (p.roster[i].group = some g)

/-- Group `g` has at least one member. -/
def hasMember (p : Profile) (g : Nat) : Bool := (List.finRange 32).any (isMember p g)

/-- The seconds left of an all-call (R179). -/
def allCallSeconds (a : AllCall) : Nat := ceilDiv a.left 1000

/-! ## Output drivers (section 1.4) -/

/-- The outputs of section 1.4. -/
structure Outputs where
  heaters : Vector Bool 8
  convRun : Bool
  convSpeed : Nat
  lampClean : Bool
  lampRewash : Bool
  lampHold : Bool
  lampAlarm : Bool
  reportLine : Bool
deriving DecidableEq, Repr

/-- CONV-RUN (R12, R15). -/
def convRun (s : State) : Bool := joined s && s.profile.dish.enable && conveyorRuns s.dish

/-- LAMP-HOLD (R14, R15). -/
def lampHold (s : State) : Bool := joined s && dishStopped s.dish

/-- LAMP-ALARM (R14, R15). -/
def lampAlarm (s : State) : Bool :=
  joined s && (anyTripped s || s.life.station = .isolated || s.life.station = .duplicate)

/-- What the drivers present on the pins (R11 to R15, R192). -/
def outputs (s : State) : Outputs :=
  { heaters := s.heat.channels.map (fun c => joined s && c.heater)
    convRun := convRun s
    convSpeed := if convRun s then speedLevel s.profile.dish s.dish.requested else 0
    lampClean := joined s && decide (exitVerdict s.dish = some .clean)
    lampRewash := joined s && decide (exitVerdict s.dish = some .rewash)
    lampHold := lampHold s
    lampAlarm := lampAlarm s
    reportLine := !s.port.reports.isEmpty }

/-! ## Status byte (R183, section 12.2) -/

/-- The station state's code in the status byte. -/
def stationCode : Station → Nat
  | .unjoined => 0
  | .listening => 1
  | .active => 2
  | .isolated => 3
  | .duplicate => 4

/-- 1 for true. -/
def bit (b : Bool) : Nat := if b then 1 else 0

/-- The radio DOWN item: the station has a radio and its radio state is DOWN (R183). -/
def radioDown (s : State) : Bool := s.profile.radio && !s.paging.radioUp

/-- The status byte, from the state of this moment (R183; bit positions of section 12.2). -/
def statusByte (s : State) : Byte :=
  BitVec.ofNat 8 (stationCode s.life.station * 32 + bit (!s.port.reports.isEmpty) * 16 + bit (anyTripped s) * 8 +
    bit (dishStopped s.dish) * 4 + bit (radioDown s) * 2 + 1)

end Sys2Proof.Machine
end

