-- ==== Sys2Proof/Machine/Ops.lean ====
section
/-! DEFINITION. The named updates of State, one for each block, and the operations every chapter shares: queueing a
report (R190), offering a frame (R47 to R49), and the reply of a panel command (R184). -/

namespace Sys2Proof.Machine

/-- The outcome of a command. -/
abbrev Out := Host.Outcome State Fault Refusal

/-! ## Named updates -/

/-- Replace the block `pending`. -/
def State.setPending (s : State) (x : List Instr) : State := { s with pending := x }

/-- Replace the block `resetting`. -/
def State.setResetting (s : State) (x : Resetting) : State := { s with resetting := x }

/-- Replace the block `life`. -/
def State.setLife (s : State) (x : Life) : State := { s with life := x }

/-- Replace the block `profile`. -/
def State.setProfile (s : State) (x : Profile) : State := { s with profile := x }

/-- Replace the block `scan`. -/
def State.setScan (s : State) (x : Scanner) : State := { s with scan := x }

/-- Replace the block `lines`. -/
def State.setLines (s : State) (x : Vector Line 6) : State := { s with lines := x }

/-- Replace the block `pulseAge`. -/
def State.setPulseAge (s : State) (x : Nat) : State := { s with pulseAge := x }

/-- Replace the block `heat`. -/
def State.setHeat (s : State) (x : Heat) : State := { s with heat := x }

/-- Replace the block `bus`. -/
def State.setBus (s : State) (x : Bus) : State := { s with bus := x }

/-- Replace the block `peers`. -/
def State.setPeers (s : State) (x : List Peer) : State := { s with peers := x }

/-- Replace the block `share`. -/
def State.setShare (s : State) (x : Share) : State := { s with share := x }

/-- Replace the block `dish`. -/
def State.setDish (s : State) (x : Dish) : State := { s with dish := x }

/-- Replace the block `stock`. -/
def State.setStock (s : State) (x : Stock) : State := { s with stock := x }

/-- Replace the block `waves`. -/
def State.setWaves (s : State) (x : List Wave) : State := { s with waves := x }

/-- Replace the block `paging`. -/
def State.setPaging (s : State) (x : Paging) : State := { s with paging := x }

/-- Replace the block `port`. -/
def State.setPort (s : State) (x : Port) : State := { s with port := x }

/-! ## Guarded effects -/

/-- The effect `f` takes place when `b` holds; otherwise nothing happens. -/
def doWhen (b : Bool) (f : State → State) (s : State) : State := if b then f s else s

/-- An event of the station out of reset; in reset nothing is taken (R87). -/
def event (f : State → State) (s : State) : Out := .next (doWhen (awake s) f s)

/-- An expiry, taken while its timer stands at its end; a timer that another event has stopped or restarted leaves
nothing to take (the races of R60, R79, R116, R137; log entry 2). -/
def expiry (due : Bool) (f : State → State) (s : State) : Out := event (doWhen due f) s

/-- The moment of a periodic clock is taken: its period starts afresh. -/
def PeriodClock.taken (c : PeriodClock) : PeriodClock := { c with phase := 0, due := false }

/-! ## Reports (R190) -/

/-- Queue a report with the service clock of this moment; a full queue loses its oldest report and sets the gap flag
(R190). -/
def pushReport (b : ReportBody) (s : State) : State :=
  let p := s.port
  let r : Report := { clock := s.life.clock, body := b }
  if p.reports.length < Config.maxReports then s.setPort { p with reports := p.reports ++ [r] }
  else s.setPort { p with reports := p.reports.tail ++ [r], gap := true }

/-- A change of station state, with its STATION report (R97). -/
def changeStation (dest : Station) (cause : StationCause) (s : State) : State :=
  pushReport (.station s.life.station dest s.life.joinNumber cause) (s.setLife { s.life with station := dest })

/-! ## The transmit queue (R47 to R49) -/

/-- The code of a frame's kind (section 12.1). -/
def kindCode : Frame → Nat
  | .announce _ => 1
  | .pageCall _ => 2
  | .pageState _ => 3
  | .pageCancel _ => 4
  | .holdAsk _ => 5
  | .holdAnswer _ => 6
  | .holdState _ => 7
  | .holdFree _ => 8
  | .stock _ => 9

/-- The fixed priority of a frame's kind (section 3.1). -/
def priority : Frame → Nat
  | .announce _ => 1
  | .pageCall _ => 2
  | .pageState _ => 3
  | .pageCancel _ => 3
  | .holdAsk _ => 4
  | .holdAnswer _ => 4
  | .holdState _ => 4
  | .holdFree _ => 4
  | .stock _ => 5

/-- At most one frame of this kind waits: ANNOUNCE and STOCK (R48). -/
def replaceable : Frame → Bool
  | .announce _ => true
  | .stock _ => true
  | _ => false

/-- Entry `e` goes before entry `x`: lower priority number, then older (R47). -/
def goesBefore (e x : TxEntry) : Bool :=
  decide (priority e.frame < priority x.frame) ||
    (decide (priority e.frame = priority x.frame) && decide (e.age < x.age))

/-- Put an entry at its place in the order of R47. -/
def insertEntry (e : TxEntry) : List TxEntry → List TxEntry
  | [] => [e]
  | x :: xs => if goesBefore e x then e :: x :: xs else x :: insertEntry e xs

/-- A waiting entry of the same replaceable kind as `f` (R48). -/
def sameWaiting (f : Frame) (e : TxEntry) : Bool := replaceable f && decide (kindCode e.frame = kindCode f)

/-- The number of occupied entries, counting the frame on the line (R49). -/
def occupied (b : Bus) : Nat := b.waiting.length + (if b.onLine.isSome then 1 else 0)

/-- The queue's answer to an offer of `f` by the station `id` in a state that may send: `none` refuses the frame (R47 to
R49). -/
def accept (id : Nat) (f : Frame) (b : Bus) : Option Bus :=
  if b.waiting.any (sameWaiting f) then
    some { b with
      waiting := b.waiting.map (fun e => if sameWaiting f e then { e with frame := f, sender := id } else e) }
  else if occupied b < Config.queueEntries then
    some { b with waiting := insertEntry { frame := f, sender := id, age := b.nextAge, deliver := true } b.waiting,
                  nextAge := b.nextAge + 1 }
  else none

/-- Whether an offer of `f` is accepted or replaces a waiting frame now (R49). -/
def accepts (f : Frame) (s : State) : Bool := maySend s && (accept (ownId s) f s.bus).isSome

/-- Offer a frame to the transmit queue; a refused frame leaves the queue as it is (R49). -/
def offer (f : Frame) (s : State) : State := if maySend s then s.setBus ((accept (ownId s) f s.bus).getD s.bus) else s

/-- The frame is a leaving ANNOUNCE (R81). -/
def isLeaving : Frame → Bool
  | .announce b => b.leaving
  | _ => false

/-- The frame on the line goes back to the queue (R47, R48): an ANNOUNCE or STOCK that finds a newer one waiting ends, and the newer one takes its age; a frame that LEAVE found on the line ends (log entry 10). -/
def requeue (b : Bus) : Bus :=
  match b.onLine with
  | none => b
  | some e =>
    if !e.deliver && !isLeaving e.frame then { b with onLine := none }
    else if b.waiting.any (sameWaiting e.frame) then
      { b with
        onLine := none
        waiting :=
          ((b.waiting.filter (sameWaiting e.frame)).map (fun x => { x with age := e.age })).foldr insertEntry
            (b.waiting.filter (fun x => !sameWaiting e.frame x)) }
    else { b with onLine := none, waiting := insertEntry e b.waiting }

/-! ## Replies (R184, R185) -/

/-- What an accepted command leaves: the new state, whether a parameter was clamped or a shortfall is named as
DONE-CLAMPED, and the result it returns. -/
structure Done where
  state : State
  clamped : Bool
  result : Result

/-- An accepted command without a result. -/
def accepted (s : State) (clamped : Bool) : Except Reason Done := .ok { state := s, clamped := clamped, result := .none }

/-- The port discards what is clocked in: in reset, or in a transaction that a reset has caught (R182). -/
def portDeaf (s : State) : Bool := !awake s || decide (s.port.transaction = .dead)

/-- The transaction ends. -/
def endTransaction (s : State) : State := s.setPort { s.port with transaction := .none }

/-- Put a reply in the reply slot. -/
def setReply (r : Reply) (s : State) : State := s.setPort { s.port with reply := r }

/-- The reply of a command replaces the reply slot; a refused command changes nothing else (R184). -/
def conclude (code : Nat) (r : Except Reason Done) (s : State) : State :=
  match r with
  | .ok d => setReply (.done code d.clamped d.result) d.state
  | .error e => setReply (.refused code e) s

/-- A command is taken at the end of its transaction, decoded and carried out at once (R182, R185). -/
def panel (code : Nat) (body : State → Except Reason Done) (s : State) : Out :=
  .next (if portDeaf s then endTransaction s else conclude code (body (endTransaction s)) (endTransaction s))

/-- Tests 2 to 5 of R185 for a command without parameters, and then its owner's checks. -/
def plain (g : Stage) (p : List Word) (s : State) (owner : Except Reason Done) : Except Reason Done :=
  match p with
  | [] => checked (stageOk g s.life.station) true true owner
  | _ => .error .malformed

/-- Tests 2 to 5 of R185 for a command with one identifier in `lo..hi`, and then its owner's checks. -/
def oneId (lo hi : Nat) (p : List Word) (s : State) (owner : Nat → Except Reason Done) : Except Reason Done :=
  match p with
  | [w] =>
    checked (stageOk .joinedOnly s.life.station) (hasValue (narrow w)) (idWithin lo hi (narrow w))
      (owner (idValue (narrow w)))
  | _ => .error .malformed

/-- Tests 2 to 5 of R185 for a command with one numeric parameter, and then its owner's checks. -/
def oneNumber (p : List Word) (s : State) (owner : Param → Except Reason Done) : Except Reason Done :=
  match p with
  | [w] => checked (stageOk .joinedOnly s.life.station) true true (owner (narrow w))
  | _ => .error .malformed

end Sys2Proof.Machine
end

