-- ==== Sys2Proof/Machine/Paging.lean ====
section
/-! DEFINITION. Staff paging (chapter 10): the open call list at the origin, the page queue, the transmitter arbiter and
the modem at a station with a radio, the all-call, and the commands and events of the family. -/

namespace Sys2Proof.Machine

/-! ## The page queue (R169) -/

/-- The station has a serving side: a radio, and a joined state (R167). -/
def serves (s : State) : Bool := s.profile.radio && joined s

/-- The queued call has this call identifier. -/
def isPaged (origin number : Nat) (c : Paged) : Bool := decide (c.origin = origin) && decide (c.number = number)

/-- Take the call with this identifier out of the page queue, with no PAGE-STATE (R177). -/
def serveCancel (origin number : Nat) (s : State) : State :=
  doWhen (serves s)
    (fun s => s.setPaging { s.paging with queue := s.paging.queue.filter (fun c => !isPaged origin number c) }) s

/-- Change the queued call that holds a tag. -/
def updatePaged (tag : Nat) (f : Paged → Paged) (s : State) : State :=
  s.setPaging { s.paging with queue := s.paging.queue.map (fun c => if c.tag = tag then f c else c) }

/-- Put a call into the page queue: urgency highest first, take order within one urgency (R169). -/
def insertPaged (c : Paged) : List Paged → List Paged
  | [] => [c]
  | x :: xs => if x.urgency < c.urgency then c :: x :: xs else x :: insertPaged c xs

/-! ## Calls at the origin (R161 to R166) -/

/-- Change the open call that has a number. -/
def updateCall (number : Nat) (f : Call → Call) (s : State) : State :=
  s.setPaging { s.paging with calls := s.paging.calls.map (fun c => if c.number = number then f c else c) }

/-- Take the call with a number out of the open call list. -/
def dropCall (number : Nat) (s : State) : State :=
  s.setPaging { s.paging with calls := s.paging.calls.filter (fun c => decide (c.number ≠ number)) }

/-- Offer a PAGE-CANCEL and hand it to the own serving side (R166, R177). -/
def sendCancel (number : Nat) (s : State) : State := serveCancel (ownId s) number (offer (.pageCancel number) s)

/-- A CALL report for an open call (R181). -/
def callReport (c : Call) (cause : CallCause) : ReportBody := .call (some c.number) c.reason c.subject c.group c.urgency cause

/-- A call leaves the list with a CALL report and a PAGE-CANCEL (R164, R165). -/
def endCall (c : Call) (cause : CallCause) (s : State) : State :=
  sendCancel c.number (pushReport (callReport c cause) (dropCall c.number s))

/-- A call is cancelled: removed, with a PAGE-CANCEL unless it is LOCAL (R166). -/
def withdrawCall (c : Call) (s : State) : State :=
  doWhen (decide (c.state ≠ .local)) (sendCancel c.number) (dropCall c.number s)

/-- A PAGE-STATE applied to the call whose number, reason and subject it carries (R165). DEDUCED: a FAILED whose detail
is neither 1 RADIO nor 2 EXHAUSTED ends the call as EXHAUSTED (log entry 31). -/
def pageStateAtOrigin (b : PageStateBody) (s : State) : State :=
  match s.paging.calls.find? (fun c => decide (c.number = b.number) && decide (reasonCode c.reason = b.reason) &&
      decide (c.subject = b.subject) && decide (c.state ≠ .local)) with
  | none => s
  | some c =>
    match b.outcome with
    | 1 => updateCall c.number
        (fun c => { c with state := if c.state = .calling then .taken else c.state, timer := some Config.reminderMs }) s
    | 2 => updateCall c.number
        (fun c => { c with state := .sent, lastPager := some b.detail, timer := some Config.reminderMs }) s
    | 3 => endCall c (.acked b.detail) s
    | 4 => endCall c (.failed (decide (b.detail = 1))) s
    | 5 => endCall c .dropped s
    | _ => s

/-! ## PAGE-STATE from the serving side (R169) -/

/-- A PAGE-STATE with an outcome and detail code goes to the call's origin: handed over in the same step when the call is
the station's own, offered as a frame otherwise (R169). -/
def tellOrigin (c : Paged) (outcome detail : Nat) (s : State) : State :=
  let b : PageStateBody :=
    { origin := c.origin, number := c.number, reason := c.reason, subject := c.subject, outcome := outcome,
      detail := detail }
  if c.origin = ownId s then pageStateAtOrigin b s else offer (.pageState b) s

/-- A queued call ends: it leaves the queue in the same step as its outcome (R169). -/
def finishPaged (c : Paged) (outcome detail : Nat) (s : State) : State :=
  tellOrigin c outcome detail
    (s.setPaging { s.paging with queue := s.paging.queue.filter (fun x => decide (x.tag ≠ c.tag)) })

/-! ## The transmitter arbiter (R170 to R173) -/

/-- A call may be granted the idle modem (R170). -/
def eligible (c : Paged) : Bool :=
  match c.state with
  | .waiting => c.busyTimer.isNone
  | .sending => true
  | .awaitAck => c.ackTimer.isNone

/-- Roster order after a rotation pointer, wrapping to end with the pointer itself (R171). -/
def rotationOrder : Option (Fin 32) → List (Fin 32)
  | none => List.finRange 32
  | some q => (List.finRange 32).filter (fun i => decide (q < i)) ++ (List.finRange 32).filter (fun i => decide (i ≤ q))

/-- The roster order in which a call looks through a group: by sweep at urgency 3, by rotation below (R171, R172). -/
def searchOrder (s : State) (c : Paged) (g : Nat) : List (Fin 32) :=
  if 3 ≤ c.urgency then List.finRange 32 else rotationOrder (s.paging.pointer.toList.getD g none)

/-- The first on-duty member of group `g` that the call has not tried (R171, R172). -/
def nextMember (s : State) (c : Paged) (g : Nat) : Option (Fin 32) :=
  (searchOrder s c g).find? (fun i => isMember s.profile g i && s.paging.duty[i] && !c.tried.contains i)

/-- The escalation group of a group, if it has one. -/
def escalationOf (p : Profile) (g : Nat) : Option Nat := p.escalation.toList.getD g none

/-- The group of the call's round (R171). -/
def roundGroup (p : Profile) (c : Paged) : Option Nat := if c.escalated then escalationOf p c.group else some c.group

/-- The pager choice of a granted call, with the call as its round stands then; `none` is exhaustion with no escalation
left (R171 to R174). A call that was BUSY keeps its pager. -/
def choosePager (s : State) (c : Paged) : Option (Paged × Fin 32) :=
  match c.state, c.current with
  | .waiting, some i => some (c, i)
  | _, _ =>
    match (roundGroup s.profile c).bind (nextMember s c) with
    | some i => some (c, i)
    | none =>
      if c.escalated then none
      else
        match escalationOf s.profile c.group with
        | none => none
        | some g => (nextMember s { c with escalated := true, tried := [] } g).map
            (fun i => ({ c with escalated := true, tried := [] }, i))

/-- The group mask of an ALL record: every group with a member (R178). -/
def groupMask (p : Profile) : Nat := ((List.range 8).map (fun g => if hasMember p g then 2 ^ g else 0)).sum

/-- Write an outbound record: the modem awaits its result (R170). -/
def writeRecord (r : OutRecord) (s : State) : State :=
  s.setPaging { s.paging with modem := some { record := r, timer := none } }

/-- Write the SEND of a granted call to roster entry `i` (R170). -/
def writeSend (c : Paged) (i : Fin 32) (s : State) : State :=
  writeRecord (.send c.tag s.profile.roster[i].address c.reason c.subject c.urgency)
    (updatePaged c.tag
      (fun _ => { c with
        state := .sending
        current := some i
        tried := if c.tried.contains i then c.tried else c.tried ++ [i] }) s)

/-- Write the ALL record that is due; the next one is counted from this one (R178). DEDUCED: its 5,000 ms count from the
grant, where the record begins to be written (log entry 34). -/
def writeAll (a : AllCall) (s : State) : State :=
  let t := s.setPaging { s.paging with allCall := some { a with due := false, timer := Config.allMs } }
  writeRecord (.all (groupMask s.profile) (allCallSeconds a)) t

/-- Grants to calls: the eligible call of highest urgency, earliest taken first; an exhausted call is FAILED with cause
EXHAUSTED and the arbiter grants again (R170, R173). -/
def grantCalls : Nat → State → State
  | 0, s => s
  | fuel + 1, s =>
    match s.paging.queue.find? eligible with
    | none => s
    | some c =>
      match choosePager s c with
      | some (c', i) => writeSend c' i s
      | none => grantCalls fuel (finishPaged c 4 2 s)

/-- The arbiter, at a moment the modem becomes idle or something becomes eligible (R170, R175). DESIGN CHOICE: it grants to
every queued call, in DUPLICATE to those of other stations too (log entry 53). -/
def arbitrate (s : State) : State :=
  if serves s && s.paging.radioUp && s.paging.modem.isNone then
    match s.paging.allCall with
    | some a => doWhen (a.due && !a.muted) (writeAll a) s
    | none => grantCalls (s.paging.queue.length + 1) s
  else s

/-! ## Taking a PAGE-CALL (R168) -/

/-- The lowest of the given urgencies, earliest first. -/
def lowestUrgency (us : List Nat) : Nat := us.foldl min 255

/-- The WAITING call that a full queue gives up: lowest urgency, earliest taken (R168). -/
def weakestWaiting (q : List Paged) : Option Paged :=
  let w := q.filter (fun c => decide (c.state = .waiting))
  w.find? (fun c => decide (c.urgency = lowestUrgency (w.map (fun c => c.urgency))))

/-- A call enters the page queue and TAKEN goes to its origin (R168, case 4). -/
def takePaged (origin : Nat) (b : PageCallBody) (s : State) : State :=
  let tag := freeNumber (s.paging.queue.map (fun c => c.tag)) 255 s.paging.nextTag
  let c : Paged :=
    { origin := origin, number := b.number, tag := tag, reason := b.reason, subject := b.subject, group := b.group,
      urgency := b.urgency, state := .waiting, escalated := false, tried := [], current := none, busyRetries := 0,
      busyTimer := none, ackTimer := none, sentPager := none }
  tellOrigin c 1 0
    (s.setPaging { s.paging with queue := insertPaged c s.paging.queue, nextTag := tag % 255 + 1 })

/-- Answer a PAGE-CALL with PAGE-STATE DROPPED without queueing it (R168, case 3). -/
def dropPaged (origin : Nat) (b : PageCallBody) (s : State) : State :=
  let p : PageStateBody :=
    { origin := origin, number := b.number, reason := b.reason, subject := b.subject, outcome := 5, detail := 0 }
  if origin = ownId s then pageStateAtOrigin p s else offer (.pageState p) s

/-- The serving side takes a PAGE-CALL by the first case of R168 that applies; the arbiter then grants (R170). DESIGN CHOICE:
a call that is queued already is answered with the pager of its latest PAGE-STATE SENT, and with TAKEN before the first one,
whatever SEND or sweep is under way (log entry 52). -/
def serveCall (origin : Nat) (b : PageCallBody) (s : State) : State :=
  if serves s then
    match s.paging.queue.find? (isPaged origin b.number) with
    | some c =>
      match c.sentPager with
      | some a => tellOrigin c 2 a s
      | none => tellOrigin c 1 0 s
    | none =>
      if !s.paging.radioUp || !hasMember s.profile b.group then s
      else if s.paging.queue.length < Config.maxPaged then arbitrate (takePaged origin b s)
      else
        match weakestWaiting s.paging.queue with
        | some c =>
          if c.urgency < b.urgency then arbitrate (takePaged origin b (finishPaged c 5 0 s)) else dropPaged origin b s
        | none => dropPaged origin b s
  else s

/-! ## Raising and broadcasting (R162 to R164) -/

/-- The body of the PAGE-CALL of an open call. -/
def pageCallBody (c : Call) : PageCallBody :=
  { number := c.number, reason := reasonCode c.reason, subject := c.subject, group := c.group.getD 0,
    urgency := c.urgency }

/-- A broadcast of an open call: a PAGE-CALL is offered and handed to the own serving side; the timer starts afresh, and
in CALLING the broadcast is counted (R164). -/
def broadcast (c : Call) (s : State) : State :=
  let t := updateCall c.number
    (fun c =>
      if c.state = .calling then { c with broadcasts := c.broadcasts + 1, timer := some Config.callingMs }
      else { c with timer := some Config.reminderMs }) s
  serveCall (ownId s) (pageCallBody c) (offer (.pageCall (pageCallBody c)) t)

/-- The call of the open call list with this reason and subject. -/
def openCall (r : CallReason) (subject : Nat) (s : State) : Option Call :=
  s.paging.calls.find? (fun c => decide (c.reason = r) && decide (c.subject = subject))

/-- The call number a new call takes (R161). -/
def newNumber (s : State) : Nat := freeNumber (s.paging.calls.map (fun c => c.number)) 255 s.paging.nextNumber

/-- A new call enters at the back of the list: LOCAL without a group, otherwise CALLING with its first broadcast at once
(R162, cases 2 and 4). -/
def enterCall (r : CallReason) (subject : Nat) (group : Option Nat) (urgency : Nat) (s : State) : State :=
  let n := newNumber s
  let c : Call :=
    { number := n, reason := r, subject := subject, group := group, urgency := urgency,
      state := if group.isNone then .local else .calling, broadcasts := 0, timer := none, lastPager := none }
  let t := s.setPaging { s.paging with calls := s.paging.calls ++ [c], nextNumber := n % 255 + 1 }
  if group.isNone then pushReport (callReport c .local) t else broadcast c t

/-- The call a full list gives up: lowest urgency, oldest (R162, case 3). -/
def weakestCall (cs : List Call) : Option Call :=
  cs.find? (fun c => decide (c.urgency = lowestUrgency (cs.map (fun c => c.urgency))))

/-- Room for a new call of some urgency under the limit of 16 (R161, R162 case 3; log entry 12): the state in which it
enters, after it has replaced the weakest call of a full list if need be, or `none` when it is refused. -/
def makeRoom (urgency : Nat) (s : State) : Option State :=
  if s.paging.calls.length < Config.maxCalls then some s
  else
    match weakestCall s.paging.calls with
    | some v => if v.urgency < urgency then some (pushReport (callReport v .replaced) (withdrawCall v s)) else none
    | none => none

/-- The group the call map gives a reason (section 10.1). -/
def mappedGroup (p : Profile) (r : CallReason) : Option Nat := p.callMap.toList.getD (reasonCode r - 1) none

/-- A block raises a call (R162); a refused call is reported and not remembered. DESIGN CHOICE: it has taken no number, and
its REFUSED report carries none (log entry 50). -/
def raiseCall (r : CallReason) (subject : Nat) (s : State) : State :=
  match openCall r subject s with
  | some _ => s
  | none =>
    match makeRoom (reasonUrgency r) s with
    | some t => enterCall r subject (mappedGroup s.profile r) (reasonUrgency r) t
    | none => pushReport (.call none r subject (mappedGroup s.profile r) (reasonUrgency r) .refused) s

/-- A block cancels its call (R166); a call that is no longer open is not found. -/
def cancelCall (r : CallReason) (subject : Nat) (s : State) : State :=
  match openCall r subject s with
  | some c => withdrawCall c s
  | none => s

/-! ## Results of the modem (R174, R175) -/

/-- The tag a RESULT for this record bears (section 12.3). -/
def recordTag : OutRecord → Nat
  | .send tag _ _ _ _ => tag
  | .all _ _ => 0

/-- The modem is idle again. -/
def endWait (s : State) : State := s.setPaging { s.paging with modem := none }

/-- SENT for a call paged at `address`: its ack timer starts and PAGE-STATE SENT goes to the origin; a sweep with a member
left goes on first (R172, R174). -/
def pageSent (c : Paged) (address : Nat) (s : State) : State :=
  if 3 ≤ c.urgency && ((roundGroup s.profile c).bind (nextMember s c)).isSome then
    updatePaged c.tag (fun c => { c with busyRetries := 0 }) s
  else
    tellOrigin c 2 address
      (updatePaged c.tag
        (fun c => { c with
          busyRetries := 0
          state := .awaitAck
          ackTimer := some (s.profile.ackTime * 1000)
          sentPager := some address }) s)

/-- BUSY for a call: it waits 1 s for the same pager, and fails at the fifth BUSY (R174). -/
def pageBusy (c : Paged) (s : State) : State :=
  if c.busyRetries + 1 < Config.busyLimit then
    updatePaged c.tag
      (fun c => { c with busyRetries := c.busyRetries + 1, state := .waiting, busyTimer := some Config.busyMs }) s
  else finishPaged c 4 1 s

/-- The effect of a result on the call of a SEND, when the call is still queued (R174). -/
def sendResult (tag address : Nat) (r : ModemResult) (s : State) : State :=
  match s.paging.queue.find? (fun c => decide (c.tag = tag)) with
  | none => s
  | some c =>
    match r with
    | .sent => pageSent c address s
    | .busy => pageBusy c s
    | .fault => finishPaged c 4 1 s

/-- The effect of a result on the all-call of an ALL record: BUSY makes the record due again after 1 s (R178). -/
def allResult (r : ModemResult) (s : State) : State :=
  match r, s.paging.allCall with
  | .busy, some a =>
    doWhen (!a.due) (fun s => s.setPaging { s.paging with allCall := some { a with timer := Config.busyMs } }) s
  | _, _ => s

/-- The result of an outbound record on what it was for. -/
def recordResult (rec : OutRecord) (r : ModemResult) (s : State) : State :=
  match rec with
  | .send tag address _ _ _ => sendResult tag address r s
  | .all _ _ => allResult r s

/-- Every queued call is FAILED with cause RADIO, in queue order (R175). -/
def failAll : List Paged → State → State
  | [], s => s
  | c :: cs, s => failAll cs (finishPaged c 4 1 s)

/-- The radio goes DOWN (R175); an all-call that runs writes no more ALL records (R179). DESIGN CHOICE:
the calls fail before the RADIO report is queued (log entry 41). -/
def radioGoesDown (s : State) : State :=
  let t := s.setPaging { s.paging with
    radioUp := false
    allCall := s.paging.allCall.map (fun a => { a with muted := true }) }
  pushReport (.radio false) (failAll s.paging.queue t)

/-- FAULT and a timeout add one to the failure count, and the third makes the radio DOWN (R174, R175). -/
def noteFailure (s : State) : State :=
  let n := min Config.failureLimit (s.paging.failures + 1)
  let t := s.setPaging { s.paging with failures := n }
  doWhen (decide (n = Config.failureLimit) && s.paging.radioUp) radioGoesDown t

/-- SENT and BUSY set the failure count to 0 (R174). -/
def clearFailures (s : State) : State := s.setPaging { s.paging with failures := 0 }

/-- The failure count after a result (R174). -/
def countResult : ModemResult → State → State
  | .fault => noteFailure
  | _ => clearFailures

/-- The awaited record has its result: its effect, the end of the wait, the failure count, and the arbiter (R170, R174).
DESIGN CHOICE: at a FAULT the call of the SEND fails before the count, which may fail the rest of the queue by R175 (log
entry 54). DEDUCED: an ALL record whose all-call has ended counts as well (log entry 34). -/
def settleRecord (rec : OutRecord) (r : ModemResult) (s : State) : State :=
  arbitrate (countResult r (recordResult rec r (endWait s)))

/-- The receiver returns to hunting (R194). -/
def stopCollecting (s : State) : State := s.setPaging { s.paging with collecting := false }

/-- A whole record from the modem line: a receiver that collects it hands it to the serving side and hunts again; it is
discarded where the receiver hunts, in UNJOINED and at a station without a radio (R167, R194). -/
def modemRecord (f : State → State) (s : State) : Out :=
  event (fun s => doWhen (s.paging.collecting && serves s) f (stopCollecting s)) s

/-! ## The all-call (R178, R179) -/

/-- The all-call ends with its report, and the arbiter grants to the waiting calls (R179). -/
def endAllCall (timed : Bool) (s : State) : State :=
  arbitrate (pushReport (.allCallEnded timed) (s.setPaging { s.paging with allCall := none }))

/-- An ALL-CALL of `sec` seconds starts or restarts with its ALL record due at once (R178). -/
def startAllCall (sec : Nat) (s : State) : State :=
  arbitrate (s.setPaging { s.paging with allCall := some { left := sec * 1000, timer := 0, due := true, muted := false } })

/-! ## Commands of the panel port -/

/-- PAGE (R163). Its values are clamped before the call is looked for, so the reply carries the mark of R184 and R187 for an
open call as well (log entry 16). -/
def pageCommand (p : List Word) (s : State) : Except Reason Done :=
  match p with
  | [g, u, sh, sl] =>
    checked (stageOk .joinedOnly s.life.station) (hasValue (narrow g)) (idWithin 0 7 (narrow g))
      (let urgency := numeric 0 3 1 (narrow u)
       let subject := numeric 0 65535 0 (wide sh sl)
       match openCall .panel subject.1 s with
       | some c => .ok { state := s, clamped := urgency.2 || subject.2, result := .call c.number }
       | none =>
         match makeRoom urgency.1 s with
         | some t =>
           .ok { state := enterCall .panel subject.1 (some (idValue (narrow g))) urgency.1 t,
                 clamped := urgency.2 || subject.2, result := .call (newNumber t) }
         | none => .error .full)
  | _ => .error .malformed

/-- The meaning of PAGE (R163). -/
def execPage (p : List Word) (s : State) : Out := panel 80 (pageCommand p) s

/-- CALL-END (R163, R166). -/
def callEndCommand (p : List Word) (s : State) : Except Reason Done :=
  oneId 1 255 p s fun n =>
    match s.paging.calls.find? (fun c => decide (c.number = n)) with
    | none => .error .noSuch
    | some c => if c.reason = .panel then accepted (withdrawCall c s) false else .error .wrongKind

/-- The meaning of CALL-END (R163). -/
def execCallEnd (p : List Word) (s : State) : Out := panel 81 (callEndCommand p) s

/-- Set the duty flag of a roster entry (R167). -/
def setDuty (i : Fin 32) (on : Bool) (s : State) : State :=
  s.setPaging { s.paging with duty := s.paging.duty.set i on }

/-- DUTY (R167); DEFAULT gives the entry's default duty. -/
def dutyCommand (p : List Word) (s : State) : Except Reason Done :=
  match p with
  | [x, v] =>
    let i : Fin 32 := Fin.ofNat 32 (idValue (narrow x))
    let c := choice 1 (bit s.profile.roster[i].defaultDuty) (narrow v)
    checked (stageOk .joinedOnly s.life.station) (hasValue (narrow x) && c.isSome) (idWithin 0 31 (narrow x))
      (if !s.profile.radio then .error .wrongKind
       else if s.profile.roster[i].address = 0 then .error .noSuch
       else accepted (setDuty i (decide (c = some 1)) s) false)
  | _ => .error .malformed

/-- The meaning of DUTY (R167). -/
def execDuty (p : List Word) (s : State) : Out := panel 82 (dutyCommand p) s

/-- ALL-CALL (R178). -/
def allCallCommand (p : List Word) (s : State) : Except Reason Done :=
  oneNumber p s fun q =>
    let sec := numeric 10 120 30 q
    if !s.profile.radio then .error .wrongKind
    else if !s.paging.radioUp then .error .state
    else accepted (startAllCall sec.1 s) sec.2

/-- The meaning of ALL-CALL (R178). -/
def execAllCall (p : List Word) (s : State) : Out := panel 83 (allCallCommand p) s

/-- ALL-CALL-END (R179). -/
def allCallEndCommand (p : List Word) (s : State) : Except Reason Done :=
  plain .joinedOnly p s
    (if !s.profile.radio then .error .wrongKind
     else if s.paging.allCall.isNone then .error .state
     else accepted (endAllCall false s) false)

/-- The meaning of ALL-CALL-END (R179). -/
def execAllCallEnd (p : List Word) (s : State) : Out := panel 84 (allCallEndCommand p) s

/-! ## Timers -/

/-- The broadcast timer of the call with this number stands at its end. -/
def broadcastDue (n : Nat) (s : State) : Bool :=
  s.paging.calls.any (fun c => decide (c.number = n) && decide (c.timer = some 0))

/-- The broadcast timer comes due: another broadcast, a reminder, or UNSERVED (R164). -/
def broadcastExpiry (n : Nat) (s : State) : State :=
  match s.paging.calls.find? (fun c => decide (c.number = n)) with
  | none => s
  | some c => if c.state = .calling ∧ 3 ≤ c.broadcasts then endCall c .unserved s else broadcast c s

/-- The meaning of BROADCAST_TIMER_EXPIRY (R164). -/
def execBroadcastTimerExpiry (n : Nat) (s : State) : Out := expiry (broadcastDue n s) (broadcastExpiry n) s

/-- The busy timer of the call with this tag stands at its end. -/
def busyDue (tag : Nat) (s : State) : Bool :=
  s.paging.queue.any (fun c => decide (c.tag = tag) && decide (c.busyTimer = some 0))

/-- The meaning of BUSY_TIMER_EXPIRY (R174): the call is eligible for the same pager again. -/
def execBusyTimerExpiry (tag : Nat) (s : State) : Out :=
  expiry (busyDue tag s) (fun s => arbitrate (updatePaged tag (fun c => { c with busyTimer := none }) s)) s

/-- The ack timer of the call with this tag has run out. -/
def ackDue (tag : Nat) (s : State) : Bool :=
  s.paging.queue.any (fun c => decide (c.tag = tag) && decide (c.ackTimer = some 0))

/-- The meaning of ACK_TIMER_EXPIRY (R172): the call is eligible for its next pager. -/
def execAckTimerExpiry (tag : Nat) (s : State) : Out :=
  expiry (ackDue tag s) (fun s => arbitrate (updatePaged tag (fun c => { c with ackTimer := none }) s)) s

/-- The next ALL record falls due now. -/
def allDue (s : State) : Bool :=
  match s.paging.allCall with
  | some a => decide (a.timer = 0) && !a.due
  | none => false

/-- Mark the ALL record of the all-call due. -/
def markAllDue (s : State) : State :=
  s.setPaging { s.paging with allCall := s.paging.allCall.map (fun a => { a with due := true }) }

/-- The meaning of ALL_RECORD_DUE (R178). -/
def execAllRecordDue (s : State) : Out := expiry (allDue s) (fun s => arbitrate (markAllDue s)) s

/-- The seconds left of the all-call have run out. -/
def allCallOver (s : State) : Bool :=
  match s.paging.allCall with
  | some a => decide (a.left = 0)
  | none => false

/-- The meaning of ALL_CALL_EXPIRY (R179). -/
def execAllCallExpiry (s : State) : Out := expiry (allCallOver s) (endAllCall true) s

/-- The result timer stands at its end. -/
def resultLate (s : State) : Bool :=
  match s.paging.modem with
  | some m => decide (m.timer = some 0)
  | none => false

/-- No RESULT within 3,000 ms: the record ends as with FAULT (R174, R178). -/
def resultMissing (s : State) : State :=
  match s.paging.modem with
  | some m => settleRecord m.record .fault s
  | none => s

/-- The meaning of RESULT_TIMEOUT (R174). -/
def execResultTimeout (s : State) : Out := expiry (resultLate s) resultMissing s

/-! ## The modem line (R194) -/

/-- The last stop bit of the outbound record starts the result timer (R170, R194). -/
def recordSent (s : State) : State :=
  match s.paging.modem with
  | some m =>
    doWhen m.timer.isNone
      (fun s => s.setPaging { s.paging with modem := some { m with timer := some Config.resultMs } }) s
  | none => s

/-- The meaning of MODEM_RECORD_SENT (R194). -/
def execModemRecordSent (s : State) : Out := event recordSent s

/-- A RESULT concerns the record the modem awaits; another tag is discarded (R174). -/
def takeResult (tag : Nat) (r : ModemResult) (s : State) : State :=
  match s.paging.modem with
  | some m => doWhen (decide (recordTag m.record = tag)) (settleRecord m.record r) s
  | none => s

/-- The meaning of RESULT (R174). -/
def execResult (tag : Nat) (r : ModemResult) (s : State) : Out := modemRecord (takeResult tag r) s

/-- The roster entry with an address other than 0. -/
def entryOf (p : Profile) (address : Nat) : Option (Fin 32) :=
  (List.finRange 32).find? (fun i => decide (p.roster[i].address = address) && decide (address ≠ 0))

/-- The rotation pointer of the group of an acknowledging pager takes its index (R176). -/
def movePointer (address : Nat) (s : State) : State :=
  match entryOf s.profile address with
  | none => s
  | some i =>
    match s.profile.roster[i].group with
    | none => s
    | some g => s.setPaging { s.paging with pointer := s.paging.pointer.set (Fin.ofNat 8 g) (some i) }

/-- An ACK of a queued call: ACKED goes to its origin and the call is removed (R176). -/
def takeAck (address tag : Nat) (s : State) : State :=
  match s.paging.queue.find? (fun c => decide (c.tag = tag)) with
  | none => s
  | some c => movePointer address (finishPaged c 3 address s)

/-- The meaning of ACK (R176). -/
def execAck (address tag : Nat) (s : State) : Out := modemRecord (takeAck address tag) s

/-- A DUTY record sets the flag of the entry with that address (R167). -/
def takeDuty (address : Nat) (on : Bool) (s : State) : State :=
  match entryOf s.profile address with
  | some i => setDuty i on s
  | none => s

/-- The meaning of DUTY_RECORD (R167). -/
def execDutyRecord (address : Nat) (on : Bool) (s : State) : Out := modemRecord (takeDuty address on) s

/-- READY: the failure count is 0, and a DOWN radio is UP with a RADIO report (R175). -/
def takeReady (s : State) : State :=
  let t := clearFailures s
  if s.paging.radioUp then t
  else arbitrate (pushReport (.radio true) (t.setPaging { t.paging with radioUp := true }))

/-- The meaning of READY (R175). -/
def execReady (s : State) : Out := modemRecord takeReady s

/-- The meaning of START_BYTE (R194): a hunting receiver starts to collect; while collecting the byte is data. -/
def execStartByte (s : State) : Out := event (fun s => s.setPaging { s.paging with collecting := true }) s

/-- The meaning of MODEM_INTERBYTE_TIMEOUT (R194). -/
def execModemInterbyteTimeout (s : State) : Out := event stopCollecting s

/-- The meaning of MODEM_RECORD_DISCARDED (R174, R194): whatever the cause, the receiver hunts again. -/
def execModemRecordDiscarded (_c : DiscardCause) (s : State) : Out := event stopCollecting s

end Sys2Proof.Machine
end

