-- ==== Sys2Proof/Machine/Heat.lean ====
section
/-! DEFINITION. Heat channels (chapter 2): setpoint, demand, allocation and output steps of the heat window, cuts, doors,
trips, and the commands and events of the family. -/

namespace Sys2Proof.Machine

/-! ## The channel record -/

/-- Replace the channel records. -/
def setChannels (cs : Vector Channel 8) (s : State) : State := s.setHeat { s.heat with channels := cs }

/-- Change the record of channel `k`. -/
def updateChannel (k : Chan) (f : Channel → Channel) (s : State) : State :=
  setChannels (s.heat.channels.set k (f s.heat.channels[k])) s

/-- Apply a change to every channel record, with the channel's number. -/
def eachChannel (f : Chan → Channel → Channel) (cs : Vector Channel 8) : Vector Channel 8 :=
  Vector.ofFn (fun k : Chan => f k cs[k])

/-- RAMP or REGULATE, by whether W has reached the target (R25). -/
def stateFor (p : Setpoint) : ChanState := if p.w = p.target then .regulate p else .ramp p

/-! ## The window start (R24 to R30) -/

/-- The close of the old window on one channel (R24). -/
def closeWindow (c : Channel) : Channel :=
  { c with prevDemand := c.demand, prevDuty := c.duty, charge := 0, onTime := 0, served := 0, doorSeen := c.doorFlag }

/-- One setpoint step: W becomes the target when the ramp is 0 or the target lies within it, and otherwise moves by the
ramp (R25). -/
def stepSetpoint (p : Setpoint) : Setpoint :=
  if p.ramp = 0 ∨ (p.target - p.w).natAbs ≤ p.ramp then { p with w := p.target }
  else if p.w < p.target then { p with w := p.w + p.ramp }
  else { p with w := p.w - p.ramp }

/-- The setpoint step of one channel (R25). -/
def setpointStep (c : Channel) : Channel :=
  match setpointOf c.state with
  | some p => { c with state := stateFor (stepSetpoint p) }
  | none => c

/-- The integral is frozen for this window (R27), with the error `e` and the door seen flag of the previous window. -/
def frozen (c : Channel) (e : Int) (doorSeenBefore : Bool) : Bool :=
  (decide (c.prevDuty = 1000) && decide (0 < e)) || (decide (c.prevDuty < c.prevDemand) && decide (0 < e)) ||
    (decide (c.prevDemand = 0) && decide (e < 0)) || doorSeenBefore

/-- The integral after the demand step (R26). -/
def nextIntegral (p : ChanProfile) (c : Channel) (e : Int) (doorSeenBefore : Bool) : Int :=
  if p.integralWindows = 0 ∨ frozen c e doorSeenBefore then c.integral
  else clampInt (-1000) 1000 (c.integral + truncDiv (e * 1000) (p.band * p.integralWindows))

/-- The proportional part (R26). -/
def proportional (p : ChanProfile) (e : Int) : Int := clampInt (-1000) 1000 (truncDiv (e * 1000) p.band)

/-- The demand step of one channel, with its latest reading `t` (R26). -/
def demandStep (p : ChanProfile) (t : Temp) (doorSeenBefore : Bool) (c : Channel) : Channel :=
  match setpointOf c.state with
  | some sp =>
    let e := sp.w - t
    let i := nextIntegral p c e doorSeenBefore
    { c with integral := i, demand := (clampInt 0 1000 (proportional p e + i)).toNat }
  | none => { c with demand := 0 }

/-- The allocation order: every channel with demand, class 3 down to 0, within a class by number (R29). -/
def allocationOrder (cs : Vector Channel 8) : List Chan :=
  [3, 2, 1, 0].flatMap
    (fun n => (List.finRange 8).filter (fun k => decide (0 < cs[k].demand) && decide (cs[k].effClass = n)))

/-- The allowed duty of a channel of rated load `load` out of the remaining current (R29). -/
def dutyOf (load demand remaining : Nat) : Nat := min demand (remaining * 1000 / load)

/-- The charge of an allowed duty (R29). -/
def chargeOf (load duty : Nat) : Nat := ceilDiv (duty * load) 1000

/-- Allocation along the order, from the remaining current (R29). -/
def allocate (p : Profile) : List Chan → Nat → Vector Channel 8 → Vector Channel 8
  | [], _, cs => cs
  | k :: ks, remaining, cs =>
    let load := p.channels[k].load
    let u := dutyOf load cs[k].demand remaining
    let c := { cs[k] with duty := u, charge := chargeOf load u }
    allocate p ks (remaining - chargeOf load u) (cs.set k c)

/-- The output step of one channel (R30): the on-time, and the heater on unless an OVEN's door is open. -/
def outputStep (k : Kind) (c : Channel) : Channel :=
  { c with onTime := c.duty * 10, heater := decide (0 < c.duty) && !(decide (k = .oven) && c.doorFlag) }

/-- The records after the close, the setpoint step, the demand step and the class of R28, before allocation. -/
def demandedChannels (s : State) : Vector Channel 8 :=
  eachChannel
    (fun k c =>
      let d := demandStep s.profile.channels[k] (reading s k) c.doorSeen (setpointStep (closeWindow c))
      { d with duty := 0, effClass := classNow s k })
    s.heat.channels

/-- A window start, whole (R24 to R30). -/
def windowStart (s : State) : State :=
  let cs := demandedChannels s
  let order := allocationOrder cs
  let allotted := allocate s.profile order s.heat.grant cs
  s.setHeat { s.heat with
    channels := eachChannel (fun k c => outputStep s.profile.channels[k].kind c) allotted
    order := order
    overdrawn := false
    window := s.heat.window.taken }

/-- The meaning of WINDOW_START (R24). -/
def execWindowStart (s : State) : Out := expiry s.heat.window.due windowStart s

/-! ## The end of an on-time (R30) -/

/-- The served time of a heater that is on has reached the on-time. -/
def onTimeOver (k : Chan) (s : State) : Bool :=
  s.heat.channels[k].heater && decide (s.heat.channels[k].onTime ≤ s.heat.channels[k].served)

/-- The meaning of ON_TIME_END (R30). -/
def execOnTimeEnd (k : Chan) (s : State) : Out :=
  expiry (onTimeOver k s) (updateChannel k (fun c => { c with heater := false })) s

/-! ## Grant delivery, cut and OVERDRAWN (R32 to R34) -/

/-- The served charge of a channel (R33). -/
def servedCharge (load : Nat) (c : Channel) : Nat := ceilDiv (c.served * load) 10000

/-- The part of the excess `e` that a channel gives up (R33). -/
def cutOf (load e : Nat) (c : Channel) : Nat := min e (c.charge - servedCharge load c)

/-- The on-time after a cut; a channel that gives up nothing keeps its own (R33 with its worked case; log entry 7). -/
def cutOnTime (load charge : Nat) (c : Channel) : Nat := min c.onTime (max c.served (charge * 10000 / load))

/-- A channel cut by `x` (R33). Its allowed duty stays within its demand (R30; log entry 7). -/
def cutChannel (load x : Nat) (c : Channel) : Channel :=
  let on := cutOnTime load (c.charge - x) c
  { c with
    charge := c.charge - x
    onTime := on
    duty := if heating c.state then min c.duty (on / 10) else 0
    heater := c.heater && decide (c.served < on) }

/-- The walk of a cut over channels in walking order: the excess that remains and the records (R33). Channels without a
charge are passed over, and the walk stops when the excess is 0. -/
def cutWalk (p : Profile) : List Chan → Nat → Vector Channel 8 → Nat × Vector Channel 8
  | [], e, cs => (e, cs)
  | k :: ks, e, cs =>
    if e = 0 then (0, cs)
    else if cs[k].charge = 0 then cutWalk p ks e cs
    else
      let x := cutOf p.channels[k].load e cs[k]
      cutWalk p ks (e - x) (cs.set k (cutChannel p.channels[k].load x cs[k]))

/-- The walking order: the allocation order reversed, then any other channel that holds a charge (R33). DEDUCED: the others
stand last, by number (log entry 7). -/
def walkOrder (h : Heat) : List Chan :=
  h.order.reverse ++ (List.finRange 8).filter (fun k => !h.order.contains k && decide (0 < h.channels[k].charge))

/-- A channel of an OVERDRAWN window (R34). DEDUCED: its allowed duty never rises, so one that HEAT brought back after a
HEAT-OFF in this window keeps its 0, within its demand as R30 says (log entry 7). -/
def overdrawnChannel (c : Channel) : Channel :=
  { c with onTime := c.served, duty := if heating c.state then min c.duty (c.served / 10) else 0, heater := false }

/-- A cut to the grant `g` (R33), and the OVERDRAWN window when the excess cannot all be taken (R34). -/
def cut (g : Nat) (s : State) : State :=
  let r := cutWalk s.profile (walkOrder s.heat) (chargesSum s.heat.channels - g) s.heat.channels
  if r.1 = 0 then setChannels r.2 s
  else
    pushReport (.overdrawn g (chargesSum r.2) r.1)
      (s.setHeat { s.heat with channels := r.2.map overdrawnChannel, overdrawn := true })

/-- A delivered grant becomes the grant in force (R32); while the window clock runs, one below the charges cuts at once,
except in an OVERDRAWN window (R34). -/
def takeGrant (g : Nat) (s : State) : State :=
  let t := s.setHeat { s.heat with grant := g }
  if s.heat.window.running && !s.heat.overdrawn && decide (g < chargesSum s.heat.channels) then cut g t else t

/-! ## Wants (R31) -/

/-- The want of a channel (R31). -/
def wantOf (load : Nat) (c : Channel) : Nat := ceilDiv (c.demand * load) 1000

/-- Every channel computes its effective class and its want at an announce tick (R28, R31). -/
def computeWants (s : State) : State :=
  setChannels
    (eachChannel (fun k c => { c with effClass := classNow s k, want := wantOf s.profile.channels[k].load c })
      s.heat.channels) s

/-! ## Doors (R35, R36) -/

/-- A door opening on a channel: the flags, and an OVEN's heater off at once (R35, R36). -/
def doorOpens (oven : Bool) (c : Channel) : Channel :=
  { c with doorFlag := true, doorSeen := true, heater := c.heater && !oven }

/-- An OVEN's door closing: its heater comes on again for the suspended on-time (R35). -/
def ovenDoorCloses (overdrawn : Bool) (c : Channel) : Channel :=
  { c with
    doorFlag := false
    heater := c.heater || (heating c.state && !overdrawn && decide (c.served < c.onTime)) }

/-- A door event of an OVEN channel (R35). -/
def ovenDoor (k : Chan) (opened : Bool) (s : State) : State :=
  updateChannel k (if opened then doorOpens true else ovenDoorCloses s.heat.overdrawn) s

/-- The heat channel's side of a door event of a WARMER channel (R36). -/
def warmerDoorFlag (k : Chan) (opened : Bool) (s : State) : State :=
  updateChannel k (if opened then doorOpens false else fun c => { c with doorFlag := false }) s

/-- The initial state of a door line at JOIN sets or clears the door flag without counting as an opening (R9, section
2.6). -/
def doorInitially (k : Chan) (opened : Bool) (s : State) : State := updateChannel k (fun c => { c with doorFlag := opened }) s

/-! ## Trips (R37 to R39) -/

/-- A channel's record on entering TRIPPED (R39). -/
def trippedChannel (cause : TripCause) (c : Channel) : Channel :=
  { c with state := .tripped cause, demand := 0, duty := 0, integral := 0, onTime := c.served, heater := false }

/-- The reason of the call a trip raises (R39). -/
def tripReason : TripCause → CallReason
  | .overheat => .overtemp
  | .sensor => .sensorFault

/-- A channel enters TRIPPED: its record, its TRIP report and its call (R39). DESIGN CHOICE: the report is queued before the
call is raised (log entry 41). -/
def trip (k : Chan) (cause : TripCause) (s : State) : State :=
  raiseCall (tripReason cause) k
    (pushReport (.trip k cause (reading s k)) (updateChannel k (trippedChannel cause) s))

/-- The channel is subject to trips: not of kind UNUSED and not TRIPPED (section 2.7). -/
def tripsChecked (s : State) (k : Chan) : Bool :=
  decide (s.profile.channels[k].kind ≠ .unused) && !isTripped s.heat.channels[k].state

/-- The trip check of one channel at a sweep completion, with the fault entries of the eight inputs (R37, R38). -/
def tripCheck (entries : Vector Bool 8) (k : Chan) (s : State) : State :=
  if tripsChecked s k then
    if entries[s.profile.channels[k].sensor] then trip k .sensor s
    else if (s.profile.channels[k].highLimit : Int) ≤ reading s k then trip k .overheat s
    else s
  else s

/-- The trip checks of every channel, by number (R37, R38). -/
def tripChecks (entries : Vector Bool 8) (s : State) : State :=
  (List.finRange 8).foldl (fun s k => tripCheck entries k s) s

/-- At JOIN a channel whose sensor input is already FAULTED trips with cause SENSOR (R38). DEDUCED: the manual gives
no order for several, and the model takes the channels 0 to 7, after the lines' initial states (log entry 18). -/
def tripsAtJoin (s : State) : State :=
  (List.finRange 8).foldl (fun s k => if tripsChecked s k && flagged s k then trip k .sensor s else s) s

/-! ## Targets (R18 to R21) -/

/-- A channel takes a target and a ramp: from IDLE into RAMP with W at the reading, otherwise W and the state stay
(R19). -/
def takeTarget (top : Nat) (t : Temp) (target ramp : Nat) (c : Channel) : Channel :=
  match c.state with
  | .idle => { c with state := .ramp { target := target, ramp := ramp, w := clampInt 0 top t } }
  | .ramp p => { c with state := .ramp { p with target := target, ramp := ramp } }
  | .regulate p => { c with state := .regulate { p with target := target, ramp := ramp } }
  | .tripped _ => c

/-- A target write from the wave table, with a ramp of 0 (R21): the state after it, and whether it was taken. -/
def writeTarget (k : Chan) (target : Nat) (s : State) : State × Bool :=
  if isTripped s.heat.channels[k].state then (s, false)
  else
    let top := topTarget s.profile k
    (updateChannel k (takeTarget top (reading s k) (clampNat 0 top target) 0) s, true)

/-- The checks of HEAT and HEAT-OFF on their channel: not UNUSED, not TRIPPED (R18, R20). -/
def heatable (k : Chan) (s : State) (owner : Except Reason Done) : Except Reason Done :=
  if s.profile.channels[k].kind = .unused then .error .wrongKind
  else if isTripped s.heat.channels[k].state then .error .state
  else owner

/-- HEAT (R18, R19). -/
def heatCommand (p : List Word) (s : State) : Except Reason Done :=
  match p with
  | [c, t, r] =>
    checked (stageOk .joinedOnly s.life.station) (hasValue (narrow c)) (idWithin 0 7 (narrow c))
      (let k := chanOf (idValue (narrow c))
       heatable k s
        (let top := topTarget s.profile k
         let target := numeric 0 top 0 (narrow t)
         let ramp := numeric 0 500 s.profile.channels[k].rampStep (narrow r)
         accepted (updateChannel k (takeTarget top (reading s k) target.1 ramp.1) s) (target.2 || ramp.2)))
  | _ => .error .malformed

/-- The meaning of HEAT (R18). -/
def execHeat (p : List Word) (s : State) : Out := panel 16 (heatCommand p) s

/-- A channel taken out of RAMP or REGULATE by HEAT-OFF (R20). -/
def heatOffChannel (c : Channel) : Channel :=
  if heating c.state then
    { c with state := .idle, demand := 0, duty := 0, integral := 0, onTime := c.served, heater := false }
  else c

/-- HEAT-OFF (R20). -/
def heatOffCommand (p : List Word) (s : State) : Except Reason Done :=
  oneId 0 7 p s fun n => heatable (chanOf n) s (accepted (updateChannel (chanOf n) heatOffChannel s) false)

/-- The meaning of HEAT-OFF (R20). -/
def execHeatOff (p : List Word) (s : State) : Out := panel 17 (heatOffCommand p) s

/-- A tripped channel is cleared: IDLE, and the call of its trip is cancelled (R22). -/
def clearTrip (k : Chan) (cause : TripCause) (s : State) : State :=
  cancelCall (tripReason cause) k (updateChannel k (fun c => { c with state := .idle }) s)

/-- CHANNEL-CLEAR (R22). -/
def channelClearCommand (p : List Word) (s : State) : Except Reason Done :=
  oneId 0 7 p s fun n =>
    let k := chanOf n
    if s.profile.channels[k].kind = .unused then .error .wrongKind
    else
      match s.heat.channels[k].state with
      | .tripped cause =>
        if !flagged s k && decide (reading s k < (topTarget s.profile k : Int)) then accepted (clearTrip k cause s) false
        else .error (.condition none)
      | _ => .error .state

/-- The meaning of CHANNEL-CLEAR (R22). -/
def execChannelClear (p : List Word) (s : State) : Out := panel 18 (channelClearCommand p) s

end Sys2Proof.Machine
end

