-- ==== Sys2Proof/Machine/Share.lean ====
section
/-! DEFINITION. Feeder sharing (chapter 5) and the changes of station state it causes (chapter 6): own asks, the grant
computation, the listening period, ISOLATED and its return. -/

namespace Sys2Proof.Machine

/-! ## Four classes -/

/-- The sum of four currents. -/
def asksSum (a : Asks) : Nat := a.c3 + a.c2 + a.c1 + a.c0

/-- The current of class `n`. -/
def askOf (a : Asks) : Nat → Nat
  | 3 => a.c3
  | 2 => a.c2
  | 1 => a.c1
  | _ => a.c0

/-! ## Own asks (R71, R72) -/

/-- The raw ask of class `n`: the wants of the channels of that class (R71). -/
def rawAsk (s : State) (n : Nat) : Nat :=
  ((s.heat.channels.toList.filter (fun c => decide (c.effClass = n))).map (fun c => c.want)).sum

/-- The raw asks (R71). -/
def rawAsks (s : State) : Asks := ⟨rawAsk s 3, rawAsk s 2, rawAsk s 1, rawAsk s 0⟩

/-- The ceiling reduction: the excess over `ceiling` comes out of class 0 first, then 1, 2 and 3 (R72). -/
def reduceAsks (ceiling : Nat) (a : Asks) : Asks :=
  let e0 := asksSum a - ceiling
  let e1 := e0 - min a.c0 e0
  let e2 := e1 - min a.c1 e1
  let e3 := e2 - min a.c2 e2
  ⟨a.c3 - min a.c3 e3, a.c2 - min a.c2 e2, a.c1 - min a.c1 e1, a.c0 - min a.c0 e0⟩

/-! ## The grant computation (R74 to R77) -/

/-- The unexplained draw (R74). -/
def unexplained (drawing : Nat) (a : Asks) : Nat := drawing - asksSum a

/-- The total S_c of class `n` (R75). -/
def classTotal (s : State) (n : Nat) : Nat :=
  askOf s.share.asks n + (s.peers.map (fun p => askOf p.asks n)).sum +
    (if n = 3 then
      unexplained s.share.drawing s.share.asks + (s.peers.map (fun p => unexplained p.drawing p.asks)).sum
     else 0)

/-- The state of the water-fill: the remaining feeder, the shares given so far, and the limit point once a class does
not fit (R75). -/
structure Fill where
  remaining : Nat
  shares : List Nat
  limit : LimitPoint
deriving DecidableEq, Repr

/-- One class of the water-fill: its own ask and its total (R75). -/
def fillClass (f : Fill) (n own total : Nat) : Fill :=
  match f.limit with
  | .none =>
    if total ≤ f.remaining then { f with remaining := f.remaining - total, shares := f.shares ++ [own] }
    else { remaining := 0, shares := f.shares ++ [own * f.remaining / total], limit := .class n }
  | _ => { f with shares := f.shares ++ [0] }

/-- The water-fill over the classes 3, 2, 1 and 0 (R75). -/
def waterFill (s : State) : Fill :=
  [3, 2, 1, 0].foldl (fun f n => fillClass f n (askOf s.share.asks n) (classTotal s n))
    { remaining := s.profile.feeder.limit - s.profile.feeder.margin, shares := [], limit := .none }

/-- The own shares of a water-fill. -/
def fillShares (f : Fill) : Asks := ⟨f.shares.getD 0 0, f.shares.getD 1 0, f.shares.getD 2 0, f.shares.getD 3 0⟩

/-- The grant, own shares and limit point by the rule of the present station state (R77). -/
def formGrant (s : State) : Nat × Asks × LimitPoint :=
  match s.life.station with
  | .unjoined => (0, .zero, .none)
  | .listening => (0, .zero, .none)
  | .active =>
    let f := waterFill s
    (min s.profile.feeder.ceiling (asksSum (fillShares f)), fillShares f, f.limit)
  | .isolated => (min s.profile.feeder.ceiling s.profile.feeder.allowance, .zero, .allowance)
  | .duplicate => (min s.profile.feeder.ceiling s.profile.feeder.allowance, .zero, .allowance)

/-- Form the grant and deliver it to the heat channels (R78, R32). -/
def deliverGrant (s : State) : State :=
  let g := formGrant s
  takeGrant g.1 (s.setShare { s.share with grant := g.1, shares := g.2.1, limit := g.2.2 })

/-! ## Leaving LISTENING (R23, R70, R91, R141) -/

/-- The window clock with its first window start due, the tick clock and the stock tick clock start, and the listening
timer stops (R23, R70, R79, R141). -/
def startClocks (s : State) : State :=
  ((s.setHeat { s.heat with window := { running := true, phase := 0, due := true } }).setShare
    { s.share with tick := { running := true, phase := 0, due := false }, listen := none }).setStock
      { s.stock with tick := { running := true, phase := 0, due := false } }

/-- The listening timer has run out with the station LISTENING (R91). -/
def listenOver (s : State) : Bool := decide (s.life.station = .listening) && decide (s.share.listen = some 0)

/-- The station enters ACTIVE at the end of the listening period (R91). DESIGN CHOICE: a report that the grant may queue
stands behind the STATION report (log entry 41). -/
def endListening (s : State) : State := deliverGrant (startClocks (changeStation .active .listened s))

/-- The meaning of LISTENING_TIMER_EXPIRY (R91). -/
def execListeningTimerExpiry (s : State) : Out := expiry (listenOver s) endListening s

/-! ## Counting announcements (R82, R92) -/

/-- The station enters ISOLATED: report, call, and the allowance at once (R92). DESIGN CHOICE: the report is queued before the
call is raised, and both before the grant, whose OVERDRAWN report stands last (log entry 41). -/
def isolate (s : State) : State :=
  deliverGrant (raiseCall .isolated (ownId s) (changeStation .isolated (.unheard s.share.unacked) s))

/-- The station returns to ACTIVE: report, the call cancelled, and a grant at once (R83, R92). DESIGN CHOICE: an OVERDRAWN
report of that grant stands behind the STATION report (log entry 41). -/
def rejoin (s : State) : State := deliverGrant (cancelCall .isolated (ownId s) (changeStation .active .heard s))

/-- The result of an ANNOUNCE changes the unacknowledged count, and the life cycle acts on it (R82, R92). -/
def announceResult (acked : Bool) (s : State) : State :=
  let n := if acked then 0 else min 255 (s.share.unacked + 1)
  let t := s.setShare { s.share with unacked := n }
  if n = Config.isolationCount ∧ s.life.station = .active then isolate t
  else if acked ∧ s.life.station = .isolated then rejoin t
  else t

/-! ## The announce tick (R73, R80) -/

/-- The body of the ANNOUNCE of this tick (R80). -/
def announceBody (s : State) : AnnounceBody :=
  { epoch := s.life.joinNumber, sequence := s.share.nextSequence, asks := s.share.asks, drawing := s.share.drawing,
    leaving := false }

/-- In ACTIVE and ISOLATED an ANNOUNCE is offered and the next sequence advances, whatever the queue answers (R80). -/
def offerAnnounce (s : State) : State :=
  doWhen (maySend s)
    (fun s => (offer (.announce (announceBody s)) s).setShare
      { s.share with nextSequence := (s.share.nextSequence + 1) % 256 }) s

/-- Steps 1 and 2 of a tick: the wants, the own asks, the ceiling cut and the published drawing (R71 to R73). -/
def formAsks (s : State) : State :=
  let t := computeWants s
  let own := reduceAsks s.profile.feeder.ceiling (rawAsks t)
  t.setShare { t.share with
    asks := own
    ceilingCut := asksSum (rawAsks t) - asksSum own
    drawing := drawingOf s.scan
    tick := t.share.tick.taken }

/-- The body of a STOCK frame from the counts of this moment (R142). -/
def stockBody (s : State) : StockBody :=
  { clean := if s.profile.dish.enable then some s.stock.clean else none
    warmers := ((List.finRange 8).filter (fun k => decide (s.profile.channels[k].kind = .warmer))).map
      (fun k : Chan => ⟨k.val, readyCount s.profile s.stock k, availableCount s.profile s.stock k⟩) }

/-- Offer a STOCK frame in ACTIVE and ISOLATED; the stock-changed flag is cleared when the queue takes it and set when the
queue refuses it (R141). -/
def offerStock (s : State) : State :=
  doWhen (maySend s && hasStock s.profile)
    (fun s => (offer (.stock (stockBody s)) s).setStock
      { s.stock with changed := !accepts (.stock (stockBody s)) s }) s

/-- The announce tick, whole (R73), with the STOCK offer of R141 when the stock-changed flag is set. -/
def announceTick (s : State) : State :=
  let t := offerAnnounce (deliverGrant (formAsks s))
  doWhen t.stock.changed offerStock t

/-- The meaning of ANNOUNCE_TICK (R73). -/
def execAnnounceTick (s : State) : Out := expiry s.share.tick.due announceTick s

/-- The stock tick: a STOCK is offered (R141). -/
def stockTick (s : State) : State := offerStock (s.setStock { s.stock with tick := s.stock.tick.taken })

/-- The meaning of STOCK_TICK (R141). -/
def execStockTick (s : State) : Out := expiry s.stock.tick.due stockTick s

end Sys2Proof.Machine
end

