-- ==== Sys2Proof/Machine/Holds.lean ====
section
/-! DEFINITION. The hold protocol, both sides of it: the hold table of the plate stock unit (sections 8.4) and the copies
its askers keep (section 9.4), with the messages between them, by frame or handed over within the station. -/

namespace Sys2Proof.Machine

/-! ## The plate stock unit's state -/

/-- Replace the plate stock unit's state; a change of a watched count sets the stock-changed flag (R125, R141). -/
def changeStock (t : Stock) (s : State) : State :=
  s.setStock { t with changed := t.changed || decide (watchedCounts s.profile t ≠ watchedCounts s.profile s.stock) }

/-- The dish line publishes its clean-awaiting count (R122); a change sets the stock-changed flag (R141). -/
def publishClean (s : State) : State :=
  s.setStock { s.stock with
    clean := s.dish.clean
    changed := s.stock.changed || decide (s.stock.clean ≠ s.dish.clean) }

/-! ## The wave table's records -/

/-- Change the wave that has a number. -/
def updateWave (n : Nat) (f : Wave → Wave) (s : State) : State :=
  s.setWaves (s.waves.map (fun w => if w.number = n then f w else w))

/-- The wave that has a number. -/
def findWave (n : Nat) (s : State) : Option Wave := s.waves.find? (fun w => decide (w.number = n))

/-- A WAVE report (R160). -/
def waveReport (w : Wave) (before after : Option WaveState) (cause : WaveCause) : ReportBody :=
  .wave w.number before after w.late w.short cause

/-- A WAVE report without a change of state. -/
def waveNote (w : Wave) (cause : WaveCause) : ReportBody := waveReport w (some w.state) (some w.state) cause

/-- The source of a wave at this station and channel is source 1 (`false`) or source 2 (`true`) (R155). -/
def matchSource (station channel : Nat) (w : Wave) : Option Bool :=
  if w.src1.station = station ∧ w.src1.channel = channel then some false
  else
    match w.src2 with
    | some r => if r.station = station ∧ r.channel = channel then some true else none
    | none => none

/-- Source 1 or source 2 of a wave. -/
def sourceOf (second : Bool) (w : Wave) : Option Source := if second then w.src2 else some w.src1

/-- Change one source of a wave. -/
def changeSource (second : Bool) (f : Source → Source) (w : Wave) : Wave :=
  if second then { w with src2 := w.src2.map f } else { w with src1 := f w.src1 }

/-- The hold state that an ask finds at a source; one that is ASKED already keeps what it had before (R157). -/
def standing : HoldCopy → Standing
  | .none => .none
  | .asked _ b => b
  | .held n tag => .held n tag
  | .lost => .lost

/-- A hold state other than ASKED, as a source's copy. -/
def Standing.copy : Standing → HoldCopy
  | .none => .none
  | .held n tag => .held n tag
  | .lost => .lost

/-- A source whose HOLD-ASK counts as refused goes back to the hold state it had (R53, R157). -/
def unask (r : Source) : Source :=
  match r.hold with
  | .asked _ b => { r with hold := b.copy }
  | _ => r

/-! ## The hold table (R132, R133, R136) -/

/-- The lowest tag not in use (R132). -/
def freeTag (hs : List Hold) : Nat :=
  ((List.range Config.maxHolds).find? (fun t => hs.all (fun h => decide (h.tag ≠ t)))).getD 0

/-- The hold has this key (R132). -/
def hasKey (asker wave : Nat) (k : Chan) (h : Hold) : Bool :=
  decide (h.asker = asker) && decide (h.wave = wave) && decide (h.channel = k)

/-- An answer without a grant: count 0 and no tag, coded 255 (R133, section 12.1). -/
def noGrant (asker : Nat) (b : HoldAskBody) (result : Nat) : HoldAnswerBody :=
  { target := asker, wave := b.wave, channel := b.channel, result := result, count := 0, tag := 255 }

/-- An answer GRANTED (R133). -/
def granted (asker : Nat) (b : HoldAskBody) (count tag : Nat) : HoldAnswerBody :=
  { target := asker, wave := b.wave, channel := b.channel, result := 1, count := count, tag := tag }

/-- The duration an ask sets, in milliseconds: clamped into 60..1800 s (R133). -/
def askDuration (b : HoldAskBody) : Nat := clampNat 60 1800 b.duration * 1000

/-- The renewal of the hold `h` under an existing key (R133, case 2). -/
def renewHold (h : Hold) (asker : Nat) (b : HoldAskBody) (s : State) : State × HoldAnswerBody :=
  let others := heldCount s.stock h.channel - h.count
  let n := min (min 600 b.count) (readyCount s.profile s.stock h.channel - others)
  if n = 0 then
    (changeStock { s.stock with holds := s.stock.holds.filter (fun x => decide (x.tag ≠ h.tag)) } s, noGrant asker b 2)
  else
    (changeStock { s.stock with
      holds := s.stock.holds.map
        (fun x => if x.tag = h.tag then { x with count := n, remaining := askDuration b } else x) } s,
     granted asker b n h.tag)

/-- A hold under a new key (R133, case 4). -/
def createHold (k : Chan) (asker : Nat) (b : HoldAskBody) (s : State) : State × HoldAnswerBody :=
  let n := min (min 600 b.count) (availableCount s.profile s.stock k)
  if n = 0 then (s, noGrant asker b 2)
  else
    let tag := freeTag s.stock.holds
    (changeStock { s.stock with
      holds := s.stock.holds ++
        [{ tag := tag, asker := asker, wave := b.wave, channel := k, count := n, remaining := askDuration b }] } s,
     granted asker b n tag)

/-- A HOLD-ASK answered by the first case of R133 that applies. -/
def askHold (asker : Nat) (b : HoldAskBody) (s : State) : State × HoldAnswerBody :=
  if 7 < b.channel then (s, noGrant asker b 4)
  else
    let k := chanOf b.channel
    if s.profile.channels[k].kind ≠ .warmer then (s, noGrant asker b 4)
    else
      match s.stock.holds.find? (hasKey asker b.wave k) with
      | some h => renewHold h asker b s
      | none => if Config.maxHolds ≤ s.stock.holds.length then (s, noGrant asker b 3) else createHold k asker b s

/-- The hold that a HOLD-FREE names: its tag, with the sender as asker and the same wave and channel (R136). -/
def freeMatches (asker tag wave channel : Nat) (h : Hold) : Bool :=
  decide (h.tag = tag) && decide (h.asker = asker) && decide (h.wave = wave) && decide (h.channel.val = channel)

/-- A HOLD-FREE removes the hold it names (R136). -/
def freeHold (asker tag wave channel : Nat) (s : State) : State :=
  changeStock { s.stock with holds := s.stock.holds.filter (fun h => !freeMatches asker tag wave channel h) } s

/-- A HOLD-FREE goes to a source's station: handed over at the own station, offered as a frame otherwise (R151). -/
def sendFree (station tag wave channel : Nat) (s : State) : State :=
  if station = ownId s then freeHold station tag wave channel s
  else offer (.holdFree { target := station, tag := tag, wave := wave, channel := channel }) s

/-! ## Messages to the asker (R134, R135, R155, R156) -/

/-- The hold state an answer gives a source (R155); a result code the layouts do not list changes nothing. -/
def answeredHold (b : HoldAnswerBody) (h : HoldCopy) : HoldCopy :=
  match b.result with
  | 1 => if b.count = 0 then .none else .held b.count b.tag
  | 2 => .none
  | 3 => .none
  | 4 => .none
  | _ => h

/-- A HOLD-ANSWER from `sender` at the wave table (R155): the matching source follows it, NO-SUCH is reported, and a grant
that matches nothing is freed. -/
def takeAnswer (sender : Nat) (b : HoldAnswerBody) (s : State) : State :=
  match (findWave b.wave s).bind (fun w => (matchSource sender b.channel w).map (fun i => (w, i))) with
  | some (w, i) =>
    let t := updateWave w.number (changeSource i (fun r => { r with hold := answeredHold b r.hold })) s
    doWhen (decide (b.result = 4)) (pushReport (waveNote w (.sourceRefused sender b.channel))) t
  | none => doWhen (decide (b.result = 1)) (sendFree sender b.tag b.wave b.channel) s

/-- HELD with a count, or NONE when the count is 0 (R156). -/
def heldOrNone (count tag : Nat) : HoldCopy := if count = 0 then .none else .held count tag

/-- The effect of a HOLD-STATE on a source that is HELD with its tag (R156). DESIGN CHOICE: with a count above the held one,
which no warmer sends, TAKEN adds nothing to taken, and TAKEN and CUT hold the count they carry (log entry 49). -/
def followState (b : HoldStateBody) (r : Source) : Source :=
  match r.hold with
  | .held n tag =>
    if tag = b.tag then
      match b.cause with
      | 1 => { r with taken := r.taken + (n - b.count), hold := heldOrNone b.count tag }
      | 2 => { r with hold := heldOrNone b.count tag }
      | 3 => { r with hold := .none }
      | _ => r
    else r
  | _ => r

/-- A HOLD-STATE from `sender` at the wave table (R156). -/
def takeHoldState (sender : Nat) (b : HoldStateBody) (s : State) : State :=
  match (findWave b.wave s).bind (fun w => (matchSource sender b.channel w).map (fun i => (w, i))) with
  | some (w, i) => updateWave w.number (changeSource i (followState b)) s
  | none => s

/-- A HOLD-STATE of a hold goes to its asker: handed over within the station, offered as a frame otherwise (R135). -/
def tellAsker (h : Hold) (cause count : Nat) (s : State) : State :=
  let b : HoldStateBody :=
    { target := h.asker, tag := h.tag, wave := h.wave, channel := h.channel, cause := cause, count := count }
  if h.asker = ownId s then takeHoldState h.asker b s else offer (.holdState b) s

/-- A HOLD-ASK of a peer is answered by one HOLD-ANSWER frame (R134, R135). -/
def answerPeer (sender : Nat) (b : HoldAskBody) (s : State) : State :=
  let r := askHold sender b s
  offer (.holdAnswer r.2) r.1

/-! ## Gone notices (R62, R139, R157) -/

/-- The sources of a wave at a departed station are LOST (R157). -/
def loseSources (id : Nat) (w : Wave) : Wave :=
  let f (r : Source) : Source := if r.station = id then { r with hold := .lost } else r
  { w with src1 := f w.src1, src2 := w.src2.map f }

/-- A gone notice: the holds of the departed asker are removed, and the wave sources at it are LOST (R62). -/
def goneNotice (id : Nat) (s : State) : State :=
  let t := changeStock { s.stock with holds := s.stock.holds.filter (fun h => decide (h.asker ≠ id)) } s
  t.setWaves (t.waves.map (loseSources id))

end Sys2Proof.Machine
end

