-- ==== Sys2Proof/Machine/Dish.lean ====
section
/-! DEFINITION. The dish line (chapter 7): racks, sweep duties and the RINSE hold, entry and exit, the DOOR, IDLE and JAM
stops, and the commands and events of the family. -/

namespace Sys2Proof.Machine

/-! ## Shared operations -/

/-- Change the dish line's state. -/
def updateDish (f : Dish → Dish) (s : State) : State := s.setDish (f s.dish)

/-- Change the hold set. -/
def updateHolds (f : HoldSet → HoldSet) (s : State) : State := updateDish (fun d => { d with holds := f d.holds }) s

/-- The dish line works: a joined state with the dish line enabled (R98). -/
def dishWorks (s : State) : Bool := joined s && s.profile.dish.enable

/-- One event of the dish line, whole: a conveyor that the event starts begins with its jam timer at 0, and a
clean-awaiting count is published (R101, R116, R122). -/
def dishEvent (f : State → State) (s : State) : State :=
  let t := f s
  publishClean (doWhen (conveyorRuns t.dish && !conveyorRuns s.dish) (updateDish (fun d => { d with jamTimer := 0 })) t)

/-- The position of the newest rack, if the queue is not empty. -/
def newestPosition (d : Dish) : Option Nat := d.racks.getLast?.map (fun r => r.position)

/-- The newest rack stands closer than the minimum spacing (R107, case 1). -/
def tooClose (d : Dish) : Bool :=
  match newestPosition d with
  | some x => decide (x < Config.rackSpacing)
  | none => false

/-- A registration may take place (R100). -/
def mayRegister (d : Dish) : Bool := decide (d.racks.length < Config.rackCapacity) && !tooClose d

/-- The record of a rack at its registration (R100). -/
def newRack (s : State) : Rack :=
  { number := s.dish.nextNumber, entryClock := s.life.clock, position := 0,
    plates := s.dish.tag.getD s.profile.dish.defaultPlates, washMin := none, dwell := 0, rinseMin := none,
    interrupted := false, missed := false, verdict := .pending, trace := [] }

/-- A registration: the rack joins at the back, the tag is consumed, and the IDLE hold and idle time end (R100, R107). -/
def register (s : State) : State :=
  doWhen (mayRegister s.dish)
    (updateDish (fun d => { d with
      racks := d.racks ++ [newRack s]
      tag := none
      nextNumber := d.nextNumber % 65535 + 1
      holds := { d.holds with idle := false }
      idleTime := 0 })) s

/-! ## Sweep duties (R104 to R106) -/

/-- The smaller of a kept minimum and a reading; the reading when none is kept. -/
def keepMin (m : Option Temp) (t : Temp) : Option Temp :=
  match m with
  | some x => some (min x t)
  | none => some t

/-- The wash sample of one rack, with the tank reading and its fault flag (R104). -/
def washSample (p : DishProfile) (tank : Temp) (flag : Bool) (r : Rack) : Rack :=
  if inWash p r then if flag then { r with interrupted := true } else { r with washMin := keepMin r.washMin tank }
  else r

/-- The dwell after a rinse sample (R105). -/
def nextDwell (hot : Bool) (dwell : Nat) : Nat := if hot then min Config.maxDwell (dwell + Config.sweepMs) else dwell

/-- The trace after a rinse sample (R105). -/
def nextTrace (on : Bool) (t : Temp) (xs : List Temp) : List Temp :=
  if on && decide (xs.length < Config.traceLength) then xs ++ [t] else xs

/-- The rinse sample of one rack, with the booster reading and its fault flag (R105). -/
def rinseSample (p : DishProfile) (door : Bool) (booster : Temp) (flag : Bool) (r : Rack) : Rack :=
  if inRinse p r then
    { r with
      dwell := nextDwell (!door && !flag && decide ((p.tsan : Int) ≤ booster)) r.dwell
      rinseMin := if flag then r.rinseMin else keepMin r.rinseMin booster
      trace := nextTrace p.trace booster r.trace
      interrupted := r.interrupted || door || flag }
  else r

/-- Some rack's midpoint lies in the test span of the RINSE hold (R106). -/
def spanOccupied (p : DishProfile) (d : Dish) : Bool := d.racks.any (inTestSpan p)

/-- The RINSE hold becomes set (R106). -/
def rinseSets (p : DishProfile) (d : Dish) (booster : Temp) (flag : Bool) : Bool :=
  !d.holds.rinse && spanOccupied p d && (decide (booster < (p.tsan : Int)) || flag)

/-- The RINSE hold becomes clear (R106). -/
def rinseClears (p : DishProfile) (d : Dish) (booster : Temp) (flag : Bool) : Bool :=
  d.holds.rinse && (!spanOccupied p d || (decide ((p.tsan : Int) + 10 ≤ booster) && !flag))

/-- The RINSE hold ends: the time returns to 0 and its call is cancelled (R106). -/
def endRinse (s : State) : State :=
  cancelCall .rinseHold 0
    (updateDish (fun d => { d with holds := { d.holds with rinse := false }, rinseTime := 0, rinseCalled := false }) s)

/-- The judgement of the RINSE hold, in modes ON and JAM (R106). -/
def judgeRinse (booster : Temp) (flag : Bool) (s : State) : State :=
  if s.dish.mode = .off then s
  else if rinseSets s.profile.dish s.dish booster flag then updateHolds (fun h => { h with rinse := true }) s
  else if rinseClears s.profile.dish s.dish booster flag then endRinse s
  else s

/-- The samples of every rack (R104, R105). -/
def sampleRacks (tank booster : Temp) (tankFlag boosterFlag : Bool) (s : State) : State :=
  let p := s.profile.dish
  updateDish
    (fun d => { d with
      racks := d.racks.map
        (fun r => rinseSample p d.holds.door booster boosterFlag (washSample p tank tankFlag r)) }) s

/-- The sweep duties of the dish line (R104 to R106). -/
def sweepDish (s : State) : State :=
  match channelOfKind s.profile .tank, channelOfKind s.profile .booster with
  | some t, some b =>
    doWhen (dishWorks s)
      (dishEvent (fun s =>
        judgeRinse (reading s b) (flagged s b)
          (sampleRacks (reading s t) (reading s b) (flagged s t) (flagged s b) s))) s
  | _, _ => s

/-! ## Entry (R107, R108) -/

/-- An ACTIVE event on the entry line, in modes ON and JAM (R107). -/
def entryActive (s : State) : State :=
  if s.dish.mode = .off || tooClose s.dish then s
  else if Config.rackCapacity ≤ s.dish.racks.length then
    raiseCall .entryFull 0 (updateHolds (fun h => { h with entry := true }) s)
  else register s

/-- The ENTRY hold ends as a rack leaves the front, and a waiting rack is registered (R108). -/
def releaseEntry (s : State) : State :=
  doWhen s.dish.holds.entry
    (fun s =>
      let t := cancelCall .entryFull 0 (updateHolds (fun h => { h with entry := false }) s)
      doWhen (useActive t .dishEntry && decide (t.dish.mode ≠ .off)) register t) s

/-- The front rack leaves the queue as the record `r`, which becomes the last-rack record (R111, R113). -/
def removeFront (r : Rack) (s : State) : State :=
  releaseEntry (updateDish (fun d => { d with racks := d.racks.tail, atExit := false, lastRack := some r }) s)

/-! ## Exit (R109 to R113) -/

/-- The verdict of a rack (R110). -/
def verdictOf (p : DishProfile) (r : Rack) : Verdict :=
  match r.washMin with
  | some w =>
    if p.dwellMin * 1000 ≤ r.dwell ∧ (p.twash : Int) ≤ w ∧ r.interrupted = false then .clean else .rewash
  | none => .rewash

/-- Clean-awaiting after a verdict (R110). -/
def cleanAfter (clean : Nat) (r : Rack) : Nat :=
  if r.verdict = .clean then min Config.maxClean (clean + r.plates) else clean

/-- The content of a RACK or MISSED report (R110). -/
def rackReport (r : Rack) (clean : Nat) : RackReport :=
  { number := r.number, entryClock := r.entryClock, plates := r.plates, dwell := r.dwell, washMin := r.washMin,
    rinseMin := r.rinseMin, interrupted := r.interrupted, missed := r.missed, verdict := r.verdict, clean := clean }

/-- The front rack may become at exit: not at exit yet, and within the sensor tolerance (R109). -/
def exitFront (s : State) : Option Rack :=
  match s.dish.racks with
  | r :: _ => if s.dish.atExit = false ∧ ((s.profile.dish.e : Int) - 200) * 10 ≤ r.position then some r else none
  | [] => none

/-- The front rack `r` arrives at exit with its verdict and its RACK report (R109, R110). -/
def arriveAtExit (r : Rack) (s : State) : State :=
  let v := { r with verdict := verdictOf s.profile.dish r }
  let t := updateDish
    (fun d => { d with racks := v :: d.racks.tail, atExit := true, clean := cleanAfter d.clean v }) s
  pushReport (.rack (rackReport v t.dish.clean)) t

/-- An ACTIVE event on the exit line (R109). -/
def exitActive (s : State) : State :=
  match exitFront s with
  | some r => arriveAtExit r s
  | none => pushReport (.stray (s.dish.racks.head?.map (fun r => r.position))) s

/-- An INACTIVE event on the exit line (R111). -/
def exitInactive (s : State) : State :=
  match s.dish.racks with
  | r :: _ => doWhen s.dish.atExit (fun s => removeFront r (updateHolds (fun h => { h with exit := false }) s)) s
  | [] => s

/-- The front rack has passed the exit sensor without an activation (R113). -/
def missedFront (s : State) : Option Rack :=
  match s.dish.racks with
  | r :: _ => if s.dish.atExit = false ∧ (s.profile.dish.e + 200) * 10 ≤ r.position then some r else none
  | [] => none

/-- A missed exit (R113). -/
def missExit (r : Rack) (s : State) : State :=
  let v := { r with verdict := verdictOf s.profile.dish r, missed := true }
  let t := removeFront v (updateDish (fun d => { d with clean := cleanAfter d.clean v }) s)
  pushReport (.missed (rackReport v t.dish.clean)) t

/-- The test of the EXIT hold (R112). -/
def exitOverrun (s : State) : Bool :=
  s.dish.atExit && useActive s .dishExit &&
    (match s.dish.racks with
     | r :: _ => decide ((s.profile.dish.e + 300) * 10 ≤ r.position)
     | [] => false)

/-! ## Pulses (R103) -/

/-- A rack moved by one pulse (R103). -/
def advanceRack (step : Nat) (r : Rack) : Rack := { r with position := min Config.maxPosition (r.position + step) }

/-- The advance of every rack, with the jam timer to 0 (R103). -/
def advanceRacks (s : State) : State :=
  updateDish (fun d => { d with racks := d.racks.map (advanceRack s.profile.dish.perPulse), jamTimer := 0 }) s

/-- The test for a missed exit (R113). -/
def testMissed (s : State) : State :=
  match missedFront s with
  | some r => missExit r s
  | none => s

/-- One encoder pulse at the dish line (R103, R112, R113). -/
def dishPulse (s : State) : State :=
  let t := testMissed (advanceRacks s)
  doWhen (exitOverrun t) (updateHolds (fun h => { h with exit := true })) t

/-- A rising edge on E: the pulse age is 0, and the pulse reaches a dish line that works (R10). -/
def pulse (s : State) : State := doWhen (dishWorks s) (dishEvent dishPulse) (s.setPulseAge 0)

/-- The meaning of ENCODER_PULSE (R10). -/
def execEncoderPulse (s : State) : Out := event pulse s

/-! ## The dish door (R114) -/

/-- A rack in the rinse zone is marked INTERRUPTED (R114). -/
def interruptInRinse (p : DishProfile) (r : Rack) : Rack := { r with interrupted := r.interrupted || inRinse p r }

/-- An event of the dish door (R114). -/
def dishDoor (opened : Bool) (s : State) : State :=
  if opened then
    updateDish (fun d => { d with
      holds := { d.holds with door := true }
      racks := d.racks.map (interruptInRinse s.profile.dish) }) s
  else updateHolds (fun h => { h with door := false }) s

/-! ## Timers (R106, R115, R116) -/

/-- The jam timer stands at its end while the conveyor runs (R116). -/
def jamDue (s : State) : Bool := conveyorRuns s.dish && decide (Config.jamMs ≤ s.dish.jamTimer)

/-- A jam (R116). -/
def jam (s : State) : State :=
  raiseCall .jam 0 (updateDish (fun d => { d with mode := .jam, jamTimer := 0, idleTime := 0 }) s)

/-- The meaning of JAM_TIMER_EXPIRY (R116). -/
def execJamTimerExpiry (s : State) : Out := expiry (jamDue s) (dishEvent jam) s

/-- The RINSE hold has lasted 60 s and its call is not yet raised (R106). -/
def rinseDue (s : State) : Bool :=
  s.dish.holds.rinse && decide (Config.rinseCallMs ≤ s.dish.rinseTime) && !s.dish.rinseCalled

/-- The meaning of RINSE_HOLD_TIME_EXPIRY (R106). -/
def execRinseHoldTimeExpiry (s : State) : Out :=
  expiry (rinseDue s) (fun s => raiseCall .rinseHold 0 (updateDish (fun d => { d with rinseCalled := true }) s)) s

/-- The idle time stands at 30 s and the IDLE hold is not set (R115). -/
def idleDue (s : State) : Bool :=
  decide (s.dish.mode = .on) && s.dish.racks.isEmpty && decide (Config.idleMs ≤ s.dish.idleTime) && !s.dish.holds.idle

/-- The meaning of IDLE_TIME_EXPIRY (R115). -/
def execIdleTimeExpiry (s : State) : Out :=
  expiry (idleDue s) (dishEvent (updateHolds (fun h => { h with idle := true }))) s

/-! ## Commands (section 7.9) -/

/-- The check of every dish command: the dish line is enabled (R98). -/
def dishOnly (s : State) (owner : Except Reason Done) : Except Reason Done :=
  if s.profile.dish.enable then owner else .error .wrongKind

/-- Mode ON from OFF (R117). -/
def startDish (s : State) : State :=
  let t := updateDish (fun d => { d with mode := .on }) s
  let u := doWhen (useActive t .dishEntry) entryActive t
  doWhen u.dish.racks.isEmpty (updateHolds (fun h => { h with idle := true })) u

/-- DISH-ON (R117). -/
def dishOnCommand (p : List Word) (s : State) : Except Reason Done :=
  plain .joinedOnly p s (dishOnly s
    (match s.dish.mode with
     | .off => accepted (dishEvent startDish s) false
     | .on => accepted s false
     | .jam => .error .state))

/-- The meaning of DISH_ON (R117). -/
def execDishOn (p : List Word) (s : State) : Out := panel 32 (dishOnCommand p) s

/-- Mode OFF from ON or JAM (R118). DESIGN CHOICE: the calls are cancelled in the order RINSE-HOLD, ENTRY-FULL, JAM, which is
the order of their PAGE-CANCELs (log entry 51). -/
def stopDish (s : State) : State :=
  let t := updateDish (fun d => { d with
    mode := .off
    racks := d.racks.map (fun r => { r with interrupted := true })
    holds := { d.holds with rinse := false, entry := false, idle := false }
    rinseTime := 0
    idleTime := 0
    jamTimer := 0
    rinseCalled := false }) s
  cancelCall .jam 0 (cancelCall .entryFull 0 (cancelCall .rinseHold 0 t))

/-- DISH-OFF (R118). -/
def dishOffCommand (p : List Word) (s : State) : Except Reason Done :=
  plain .joinedOnly p s (dishOnly s
    (if s.dish.mode = .off then accepted s false else accepted (dishEvent stopDish s) false))

/-- The meaning of DISH_OFF (R118). -/
def execDishOff (p : List Word) (s : State) : Out := panel 33 (dishOffCommand p) s

/-- DISH-SPEED (R119). -/
def dishSpeedCommand (p : List Word) (s : State) : Except Reason Done :=
  oneNumber p s fun q =>
    let v := numeric 20 400 s.profile.dish.requestedDefault q
    dishOnly s (accepted (updateDish (fun d => { d with requested := v.1 }) s) v.2)

/-- The meaning of DISH_SPEED (R119). -/
def execDishSpeed (p : List Word) (s : State) : Out := panel 34 (dishSpeedCommand p) s

/-- Mode ON from JAM (R116). -/
def resumeDish (s : State) : State := cancelCall .jam 0 (updateDish (fun d => { d with mode := .on }) s)

/-- DISH-RESUME (R116). -/
def dishResumeCommand (p : List Word) (s : State) : Except Reason Done :=
  plain .joinedOnly p s (dishOnly s
    (if s.dish.mode = .jam then accepted (dishEvent resumeDish s) false else .error .state))

/-- The meaning of DISH_RESUME (R116). -/
def execDishResume (p : List Word) (s : State) : Out := panel 35 (dishResumeCommand p) s

/-- NEXT-RACK (R120). -/
def nextRackCommand (p : List Word) (s : State) : Except Reason Done :=
  oneNumber p s fun q =>
    let v := numeric 0 60 s.profile.dish.defaultPlates q
    dishOnly s (accepted (updateDish (fun d => { d with tag := some v.1 }) s) v.2)

/-- The meaning of NEXT_RACK (R120). -/
def execNextRack (p : List Word) (s : State) : Out := panel 36 (nextRackCommand p) s

/-- PICKUP (R121). -/
def pickupCommand (p : List Word) (s : State) : Except Reason Done :=
  oneNumber p s fun q =>
    let v := numeric 0 s.dish.clean s.profile.dish.defaultPlates q
    dishOnly s (accepted (dishEvent (updateDish (fun d => { d with clean := d.clean - v.1 })) s) v.2)

/-- The meaning of PICKUP (R121). -/
def execPickup (p : List Word) (s : State) : Out := panel 37 (pickupCommand p) s

end Sys2Proof.Machine
end

