-- ==== Sys2Proof/Machine/Stock.lean ====
section
/-! DEFINITION. Plate stock (chapter 8): loads and warm credit, the cooling reset, LOAD and TAKE, and the expiry of holds. -/

namespace Sys2Proof.Machine

/-- Replace what the plate stock unit keeps for channel `k`. -/
def setWarmer (k : Chan) (w : Warmer) (t : Stock) : Stock := { t with warmers := t.warmers.set k w }

/-! ## Sweep duties (R126, R128) -/

/-- The cold condition of the cooling timer: below Tready, flagged, or TRIPPED (R128). -/
def isCold (s : State) (k : Chan) : Bool :=
  decide (reading s k < (s.profile.warmers[k].tready : Int)) || flagged s k || isTripped s.heat.channels[k].state

/-- The channel is warm at this completion (R126). -/
def isWarm (s : State) (k : Chan) : Bool := !isCold s k && !s.stock.warmers[k].doorOpen

/-- One step of warm credit for a load, up to the warm time (R126). -/
def addCredit (full : Nat) (l : Load) : Load := { l with credit := min full (l.credit + Config.sweepMs) }

/-- The cooling timer and its reset mark after a completion (R128). -/
def coolStep (cold : Bool) (w : Warmer) : Warmer :=
  if cold then { w with cooling := min Config.coolingMs (w.cooling + Config.sweepMs) }
  else { w with cooling := 0, coolingDone := false }

/-- The sweep duties of one WARMER channel (R126, R128). -/
def sweepWarmer (k : Chan) (s : State) : State :=
  if s.profile.channels[k].kind = .warmer then
    let w := s.stock.warmers[k]
    let credited := if isWarm s k then { w with loads := w.loads.map (addCredit (readyCredit s.profile k)) } else w
    changeStock (setWarmer k (coolStep (isCold s k) credited) s.stock) s
  else s

/-- The sweep duties of the plate stock unit, by channel number (R126, R128). -/
def sweepStock (s : State) : State := (List.finRange 8).foldl (fun s k => sweepWarmer k s) s

/-! ## The cooling reset (R128, R138) -/

/-- Set the count of the hold with a tag; a hold at 0 is removed (R132). -/
def setHoldCount (tag count : Nat) (hs : List Hold) : List Hold :=
  if count = 0 then hs.filter (fun h => decide (h.tag ≠ tag))
  else hs.map (fun h => if h.tag = tag then { h with count := count } else h)

/-- The trim of holds, given newest first, by an excess: each hold reduced gets a HOLD-STATE CUT (R138). The number of
holds cut is counted. -/
def trimHolds : List Hold → Nat → Nat × State → Nat × State
  | [], _, r => r
  | h :: hs, excess, r =>
    let x := min h.count excess
    if x = 0 then trimHolds hs excess r
    else
      let t := changeStock { r.2.stock with holds := setHoldCount h.tag (h.count - x) r.2.stock.holds } r.2
      trimHolds hs (excess - x) (r.1 + 1, tellAsker h 2 (h.count - x) t)

/-- The holds of channel `k` are trimmed to its ready count, newest first (R138). -/
def trimChannel (k : Chan) (s : State) : Nat × State :=
  trimHolds (holdsOn s.stock k).reverse (heldCount s.stock k - readyCount s.profile s.stock k) (0, s)

/-- The cooling timer of warmer `k` stands at its end and this cold spell's reset has not taken place (R128). -/
def coolingDue (k : Chan) (s : State) : Bool :=
  decide (s.profile.channels[k].kind = .warmer) && decide (Config.coolingMs ≤ s.stock.warmers[k].cooling) &&
    !s.stock.warmers[k].coolingDone

/-- Every load of channel `k` loses its credit, and this spell's reset has taken place (R128). -/
def uncredit (k : Chan) (s : State) : State :=
  let w := s.stock.warmers[k]
  changeStock
    (setWarmer k { w with loads := w.loads.map (fun l => { l with credit := 0 }), coolingDone := true } s.stock) s

/-- A cooling reset: credits, trim and COOLED report (R128). -/
def coolingReset (k : Chan) (s : State) : State :=
  let loads := s.stock.warmers[k].loads.length
  let before := readyCount s.profile s.stock k
  let r := trimChannel k (uncredit k s)
  doWhen (decide (0 < loads)) (pushReport (.cooled k loads before r.1)) r.2

/-- The meaning of COOLING_RESET (R128). -/
def execCoolingReset (k : Chan) (s : State) : Out := expiry (coolingDue k s) (coolingReset k) s

/-! ## LOAD (R129) -/

/-- The checks of LOAD and TAKE on their channel (R129, R130). -/
def warmerOnly (k : Chan) (s : State) (owner : Except Reason Done) : Except Reason Done :=
  if s.profile.channels[k].kind = .warmer then owner else .error .wrongKind

/-- A new load of `n` plates at the back of the list (R129). -/
def newLoad (k : Chan) (n : Nat) (clamped : Bool) (s : State) : Except Reason Done :=
  let w := s.stock.warmers[k]
  let l : Load := { number := w.nextLoad, count := n, loadedClock := s.life.clock, credit := 0 }
  let t := changeStock (setWarmer k { w with loads := w.loads ++ [l], nextLoad := w.nextLoad % 255 + 1 } s.stock) s
  .ok { state := t, clamped := clamped, result := .loaded n w.nextLoad false }

/-- Plates merged into the newest load `l`, the last of the list (R129). -/
def mergeLoad (k : Chan) (l : Load) (n : Nat) (clamped : Bool) (s : State) : Except Reason Done :=
  let w := s.stock.warmers[k]
  let room := Config.maxLoadCount - l.count
  if Config.mergeCreditMs ≤ l.credit ∨ room = 0 then .error .full
  else
    let x := min n room
    let m : Load := { l with count := l.count + x, credit := 0, loadedClock := s.life.clock }
    .ok { state := changeStock (setWarmer k { w with loads := w.loads.dropLast ++ [m] } s.stock) s
          clamped := clamped || decide (x ≠ n), result := .loaded x l.number true }

/-- The plates of a LOAD, already clamped into 1..300, put into channel `k` (R129). -/
def putPlates (k : Chan) (n : Nat) (clamped : Bool) (s : State) : Except Reason Done :=
  let w := s.stock.warmers[k]
  let free := s.profile.warmers[k].capacity - loadedCount w.loads
  if free = 0 then .error .full
  else
    let m := min n free
    let c := clamped || decide (m ≠ n)
    if w.loads.length < Config.maxLoads then newLoad k m c s
    else
      match w.loads.getLast? with
      | some l => mergeLoad k l m c s
      | none => .error .full

/-- LOAD (R129). -/
def loadCommand (p : List Word) (s : State) : Except Reason Done :=
  match p with
  | [c, n] =>
    checked (stageOk .joinedOnly s.life.station) (hasValue (narrow c)) (idWithin 0 7 (narrow c))
      (let k := chanOf (idValue (narrow c))
       let count := numeric 1 300 s.profile.warmers[k].capacity (narrow n)
       warmerOnly k s (putPlates k count.1 count.2 s))
  | _ => .error .malformed

/-- The meaning of LOAD (R129). -/
def execLoad (p : List Word) (s : State) : Out := panel 48 (loadCommand p) s

/-! ## TAKE (R130, R131) -/

/-- Remove `n` plates from the ready loads of channel `k`, the oldest first; an emptied load leaves the list (R130). -/
def removePlates (p : Profile) (k : Chan) : Nat → List Load → List Load
  | _, [] => []
  | n, l :: ls =>
    if loadReady p k l then
      let x := min n l.count
      if l.count - x = 0 then removePlates p k (n - x) ls
      else { l with count := l.count - x } :: removePlates p k (n - x) ls
    else l :: removePlates p k n ls

/-- The stock after `n` ready plates have left channel `k` (R130). -/
def withoutPlates (p : Profile) (k : Chan) (n : Nat) (t : Stock) : Stock :=
  setWarmer k { t.warmers[k] with loads := removePlates p k n t.warmers[k].loads } t

/-- TAKE without a tag: bounded by the available count (R130). -/
def takeUntagged (k : Chan) (asked : Nat) (clamped : Bool) (s : State) : Except Reason Done :=
  let n := min asked (availableCount s.profile s.stock k)
  .ok { state := changeStock (withoutPlates s.profile k n s.stock) s
        clamped := clamped || decide (n < asked)
        result := .taken (readyCount s.profile s.stock k) n none }

/-- TAKE with a tag: plates of one hold, and the asker is told (R131). -/
def takeTagged (k : Chan) (asked : Nat) (clamped : Bool) (tag : Nat) (s : State) : Except Reason Done :=
  match s.stock.holds.find? (fun h => decide (h.tag = tag) && decide (h.channel = k)) with
  | none => .error .noSuch
  | some h =>
    let n := min asked h.count
    let left := h.count - n
    let u := withoutPlates s.profile k n s.stock
    .ok { state := tellAsker h 1 left (changeStock { u with holds := setHoldCount tag left u.holds } s)
          clamped := clamped || decide (n < asked)
          result := .taken (readyCount s.profile s.stock k) n (some left) }

/-- TAKE (R130, R131). -/
def takeCommand (p : List Word) (s : State) : Except Reason Done :=
  match p with
  | [c, n] =>
    checked (stageOk .joinedOnly s.life.station) (hasValue (narrow c)) (idWithin 0 7 (narrow c))
      (let k := chanOf (idValue (narrow c))
       let count := numeric 1 600 600 (narrow n)
       warmerOnly k s (takeUntagged k count.1 count.2 s))
  | [c, n, g] =>
    checked (stageOk .joinedOnly s.life.station) (hasValue (narrow c) && hasValue (narrow g))
      (idWithin 0 7 (narrow c) && idWithin 0 15 (narrow g))
      (let k := chanOf (idValue (narrow c))
       let count := numeric 1 600 600 (narrow n)
       warmerOnly k s (takeTagged k count.1 count.2 (idValue (narrow g)) s))
  | _ => .error .malformed

/-- The meaning of TAKE (R130). -/
def execTake (p : List Word) (s : State) : Out := panel 49 (takeCommand p) s

/-! ## The expiry of a hold (R137) -/

/-- The hold with this tag has no time left. -/
def holdOver (tag : Nat) (s : State) : Bool :=
  s.stock.holds.any (fun h => decide (h.tag = tag) && decide (h.remaining = 0))

/-- A hold expires: it is removed and its asker is told (R137). -/
def expireHold (tag : Nat) (s : State) : State :=
  match s.stock.holds.find? (fun h => decide (h.tag = tag)) with
  | none => s
  | some h =>
    tellAsker h 3 0 (changeStock { s.stock with holds := s.stock.holds.filter (fun x => decide (x.tag ≠ tag)) } s)

/-- The meaning of HOLD_EXPIRY (R137). -/
def execHoldExpiry (tag : Nat) (s : State) : Out := expiry (holdOver tag s) (expireHold tag) s

/-! ## Doors (R127) -/

/-- The door state of a WARMER channel follows its door line (R127). -/
def warmerDoorState (k : Chan) (opened : Bool) (s : State) : State :=
  s.setStock (setWarmer k { s.stock.warmers[k] with doorOpen := opened } s.stock)

end Sys2Proof.Machine
end

