-- ==== Sys2Proof/Machine/Inputs.lean ====
section
/-! DEFINITION. The sensor scanner and the switch lines (chapter 1): a sweep and what it hands to the blocks, debounces, and
the events and initial states a line delivers. -/

namespace Sys2Proof.Machine

/-! ## Temperature conversions (R2, R3) -/

/-- A raw temperature conversion: a value taken, clamped into −500..3500, or `none` for a bad one (R2). -/
def takeConversion (raw : Int) : Option Temp :=
  if -600 ≤ raw ∧ raw ≤ 3600 then some (clampInt (-500) 3500 raw) else none

/-- A good conversion of value `v` at one input (R2, R3). -/
def goodConversion (v : Temp) (t : TempInput) : TempInput :=
  let n := min 4 (t.goodCount + 1)
  if t.faulted && decide (n < 4) then { t with badCount := 0, goodCount := n }
  else { lastGood := v, faulted := false, badCount := 0, goodCount := n }

/-- A bad conversion at one input (R2, R3). -/
def badConversion (t : TempInput) : TempInput :=
  let n := min 2 (t.badCount + 1)
  { t with badCount := n, goodCount := 0, faulted := t.faulted || decide (n = 2) }

/-- One conversion at one input (R2, R3). -/
def convertInput (raw : Int) (t : TempInput) : TempInput :=
  match takeConversion raw with
  | some v => goodConversion v t
  | none => badConversion t

/-- A current conversion, taken into 0..2000 (R5). -/
def takeCurrent (raw : Int) : Nat := (clampInt 0 2000 raw).toNat

/-- The draw history with a newest value (R5). -/
def pushDraw (d : Nat) (h : Vector Nat 4) : Vector Nat 4 := #v[h[1], h[2], h[3], d]

/-- The scanner after a completion with these conversions (R1 to R5). -/
def convertAll (c : Conversions) (s : Scanner) : Scanner :=
  let i0 := takeCurrent c.i0
  let i1 := takeCurrent c.i1
  { inputs := Vector.ofFn (fun k : Chan => convertInput c.t[k] s.inputs[k])
    i0 := i0, i1 := i1, history := pushDraw (max i0 i1) s.history, phase := 0 }

/-- The inputs that have a fault entry between two completions (R4). -/
def faultEntries (old new : Scanner) : Vector Bool 8 :=
  Vector.ofFn (fun k : Chan => !old.inputs[k].faulted && new.inputs[k].faulted)

/-! ## The sweep (R1) -/

/-- What a completion hands to the heat channels, the dish line and the plate stock unit, in joined states (R1, R41). -/
def deliverSweep (entries : Vector Bool 8) (s : State) : State :=
  doWhen (joined s) (fun s => sweepStock (sweepDish (tripChecks entries s))) s

/-- A sweep completion, whole (R1). -/
def sweep (c : Conversions) (s : State) : State :=
  let n := convertAll c s.scan
  deliverSweep (faultEntries s.scan n) (s.setScan n)

/-- 250 ms have passed since the last completion, or since reset release (R1). -/
def sweepDue (s : State) : Bool := decide (Config.sweepMs ≤ s.scan.phase)

/-- The meaning of SWEEP_COMPLETION (R1): a completion 250 ms after the one before it. -/
def execSweepCompletion (c : Conversions) (s : State) : Out := expiry (sweepDue s) (sweep c) s

/-! ## Switch lines (R6 to R9) -/

/-- Change the record of line `l`. -/
def updateLine (l : LineNo) (f : Line → Line) (s : State) : State := s.setLines (s.lines.set l (f s.lines[l]))

/-- The pin of a line takes a level out of reset: its debounce starts, restarts or is abandoned (R6). -/
def linePin (high : Bool) (l : Line) : Line :=
  { l with pin := high, debounce := if high = l.taken then none else some Config.debounceMs }

/-- The meaning of LINE_PIN_CHANGE (R6). In reset only the level on the pin changes. -/
def execLinePinChange (l : LineNo) (high : Bool) (s : State) : Out :=
  .next (updateLine l (fun x => if awake s then linePin high x else { x with pin := high }) s)

/-- An ACTIVE or INACTIVE event at the recipient of a use (R8). -/
def deliverLine (u : LineUse) (on : Bool) (s : State) : State :=
  match u with
  | .ovenDoor k => ovenDoor k on s
  | .warmerDoor k => warmerDoorState k on (warmerDoorFlag k on s)
  | .dishEntry => if on then dishEvent entryActive s else s
  | .dishExit => dishEvent (if on then exitActive else exitInactive) s
  | .dishDoor => dishEvent (dishDoor on) s
  | .unused => s

/-- The debounce of line `l` has run out with its pin still differing. -/
def edgeDue (l : LineNo) (s : State) : Bool :=
  decide (s.lines[l].debounce = some 0) && decide (s.lines[l].pin ≠ s.lines[l].taken)

/-- The line's edge: the taken level changes, and the event is delivered in joined states (R6, R7, R9). -/
def lineEdge (l : LineNo) (s : State) : State :=
  let t := updateLine l (fun x => { x with taken := x.pin, debounce := none }) s
  doWhen (joined s) (deliverLine (resolvedUse s.profile l) (lineActive t l)) t

/-- The meaning of LINE_EDGE (R6). -/
def execLineEdge (l : LineNo) (s : State) : Out := expiry (edgeDue l s) (lineEdge l) s

/-- The initial state of a line at JOIN (R9, R99, R127). -/
def initialLine (u : LineUse) (on : Bool) (s : State) : State :=
  match u with
  | .ovenDoor k => doorInitially k on s
  | .warmerDoor k => warmerDoorState k on (doorInitially k on s)
  | .dishDoor => updateHolds (fun h => { h with door := on }) s
  | .dishEntry => s
  | .dishExit => s
  | .unused => s

/-- Every line with a recipient delivers its initial state at JOIN (R9). -/
def initialLines (s : State) : State :=
  (List.finRange 6).foldl (fun s l => initialLine (resolvedUse s.profile l) (lineActive s l) s) s

end Sys2Proof.Machine
end

