-- ==== Sys2Proof/Machine/Waves.lean ====
section
/-! DEFINITION. Service waves (chapter 9): planning, the timeline of a wave, its cook timer, its ask checks and its
shortage checks, and the commands and events of the family. -/

namespace Sys2Proof.Machine

/-- An effect on the wave that has a number, as its record stands now; without such a wave nothing happens. -/
def onWave (n : Nat) (f : Wave → State → State) (s : State) : State :=
  match findWave n s with
  | some w => f w s
  | none => s

/-- The pass instant less 600 s is reached (R158). -/
def shortageTime (w : Wave) (s : State) : Bool := reached s.life.clock (clockLess w.pass 600)

/-! ## Asking for plates (R154) -/

/-- Seconds until the pass instant: 0 once it is reached (R154). -/
def secondsToPass (w : Wave) (s : State) : Nat :=
  if reached s.life.clock w.pass then 0 else clockLess w.pass s.life.clock

/-- The duration an ask carries (R154). -/
def askSeconds (w : Wave) (s : State) : Nat := clampNat 60 1800 (secondsToPass w s + 600)

/-- The need of source 1 or source 2 (R154). -/
def needOf (second : Bool) (w : Wave) : Nat := if second then need2 w else need1 w

/-- A source with this need is asked at a check (R154). -/
def wantsAsk (need : Nat) : HoldCopy → Bool
  | .none => decide (0 < need)
  | .lost => decide (0 < need)
  | .held n _ => decide (n < need)
  | .asked _ _ => false

/-- The HOLD-ASK of a source (R154). -/
def askBody (w : Wave) (r : Source) (need : Nat) (s : State) : HoldAskBody :=
  { target := r.station, wave := w.number, channel := r.channel, count := need, duration := askSeconds w s }

/-- An ask goes to the source: handed to the own plate stock unit and answered at once, or offered as a frame, which makes
the source ASKED unless the queue refuses it (R154, R157). -/
def sendAsk (second : Bool) (w : Wave) (r : Source) (need : Nat) (s : State) : State :=
  let b := askBody w r need s
  if r.station = ownId s then
    let a := askHold (ownId s) b s
    takeAnswer (ownId s) a.2 a.1
  else if accepts (.holdAsk b) s then
    updateWave w.number (changeSource second (fun r => { r with hold := .asked Config.askMs (standing r.hold) }))
      (offer (.holdAsk b) s)
  else s

/-- A source 2 in HELD without need is given up (R154). -/
def giveUp (w : Wave) (r : Source) (tag : Nat) (s : State) : State :=
  updateWave w.number (changeSource true (fun r => { r with hold := .none }))
    (sendFree r.station tag w.number r.channel s)

/-- The check of one source of a wave (R154). -/
def checkSource (second : Bool) (w : Wave) (s : State) : State :=
  match sourceOf second w with
  | none => s
  | some r =>
    let need := needOf second w
    if wantsAsk need r.hold then sendAsk second w r need s
    else
      match r.hold with
      | .held _ tag => doWhen (second && decide (need = 0)) (giveUp w r tag) s
      | _ => s

/-- An ask check: source 1 and then source 2, each as the first has just left it (R154). -/
def askSources (n : Nat) (s : State) : State := onWave n (checkSource true) (onWave n (checkSource false) s)

/-! ## Shortage (R158) -/

/-- Some peer entry shows a clean-awaiting count of at least the shortfall (R63, R158). -/
def peerHasClean (shortfall : Nat) (s : State) : Bool :=
  s.peers.any (fun p => match p.stock.bind (fun t => t.clean) with
    | some n => decide (shortfall ≤ n)
    | none => false)

/-- Cancel the shortage call of a wave, of either reason. -/
def cancelShortage (n : Nat) (s : State) : State := cancelCall .platesShort n (cancelCall .platesFetch n s)

/-- A covered wave: the SHORT flag clears with its report, and the shortage call is cancelled (R158). -/
def waveCovered (w : Wave) (s : State) : State :=
  let t := cancelShortage w.number (updateWave w.number (fun w => { w with short := false }) s)
  doWhen w.short (pushReport (waveNote { w with short := false } .covered)) t

/-- The reason of the shortage call and the other one, which is cancelled (R158). -/
def shortageReasons (w : Wave) (s : State) : CallReason × CallReason :=
  if peerHasClean (w.covers - coverSum w) s then (.platesFetch, .platesShort) else (.platesShort, .platesFetch)

/-- A wave that is not covered: the SHORT flag, the call of the reason that fits, and a report when the flag becomes set
(R158). DESIGN CHOICE: the call is raised before the report is queued (log entry 41). -/
def waveShort (w : Wave) (s : State) : State :=
  let r := shortageReasons w s
  let t := raiseCall r.1 w.number
    (cancelCall r.2 w.number (updateWave w.number (fun w => { w with short := true }) s))
  doWhen (!w.short) (pushReport (waveNote { w with short := true } .short)) t

/-- A shortage check; from the first on, one follows each ask check (R158). -/
def shortageCheck (n : Nat) (s : State) : State :=
  onWave n (fun w => if covered w then waveCovered w else waveShort w)
    (updateWave n (fun w => { w with shortage := true }) s)

/-- The first shortage check, when its instant is reached (R158). -/
def firstShortage (n : Nat) (s : State) : State :=
  onWave n (fun w => doWhen (asking w.state && !w.shortage && shortageTime w s) (shortageCheck n)) s

/-! ## The timeline (R147 to R153) -/

/-- The wave writes its oven target; a refused write is reported (R147). -/
def writeOvenTarget (w : Wave) (s : State) : State :=
  let r := writeTarget w.oven w.target s
  if r.2 then r.1 else pushReport (waveNote w .targetRefused) r.1

/-- Entry to PREHEAT (R147). -/
def enterPreheat (n : Nat) (s : State) : State :=
  let t := updateWave n (fun w => { w with state := .preheat, check := some Config.askMs }) s
  firstShortage n
    (onWave n (fun w => pushReport (waveReport w (some .planned) (some .preheat) .preheat))
      (askSources n (onWave n writeOvenTarget t)))

/-- Entry to FIRE-DUE (R148). DESIGN CHOICE: the call is raised before the report is queued (log entry 41). -/
def enterFireDue (n : Nat) (s : State) : State :=
  onWave n (fun w => pushReport (waveReport w (some .preheat) (some .fireDue) .fireDue))
    (raiseCall .fireDue n (updateWave n (fun w => { w with state := .fireDue }) s))

/-- The wave is made late (R153). DESIGN CHOICE: the call is raised before the report is queued (log entry 41). -/
def makeLate (n : Nat) (s : State) : State :=
  onWave n (fun w => pushReport (waveNote w .late))
    (raiseCall .waveLate n (updateWave n (fun w => { w with late := true }) s))

/-- A wave's preheat instant is reached (R147). -/
def preheatTime (w : Wave) (s : State) : Bool := reached s.life.clock (clockLess w.fire s.profile.preheatLead)

/-- One wave judged at a clock second (R147, R148, R153, R158). -/
def judgeWave (n : Nat) (s : State) : State :=
  let s1 := onWave n (fun w => doWhen (decide (w.state = .planned) && preheatTime w s) (enterPreheat n)) s
  let s2 := onWave n (fun w => doWhen (decide (w.state = .preheat) && reached s1.life.clock w.fire) (enterFireDue n)) s1
  let s3 := onWave n
    (fun w => doWhen (decide (w.state ≠ .plating) && !w.late && reached s2.life.clock w.pass) (makeLate n)) s2
  firstShortage n s3

/-- Every wave judged at a clock second, by number. -/
def judgeWaves (s : State) : State := (s.waves.map (fun w => w.number)).foldl (fun s n => judgeWave n s) s

/-- A clock second: the clock advances and the waves are judged (R95). -/
def clockSecond (s : State) : State :=
  judgeWaves (s.setLife { s.life with
    clock := (s.life.clock + 1) % Config.day
    second := s.life.second.taken })

/-- The meaning of CLOCK_SECOND (R95). -/
def execClockSecond (s : State) : Out := expiry s.life.second.due clockSecond s

/-! ## The cook timer (R150) -/

/-- The oven lets this cook second count (R150). -/
def cookCounts (w : Wave) (s : State) : Bool :=
  !s.heat.channels[w.oven].doorFlag && heating s.heat.channels[w.oven].state && !flagged s w.oven &&
    decide ((w.target : Int) - 150 ≤ reading s w.oven)

/-- The cook timer of the wave comes due now. -/
def cookDue (n : Nat) (s : State) : Bool :=
  match findWave n s with
  | some w => decide (w.state = .cooking) && decide (w.cookMs = 0)
  | none => false

/-- The cook remaining reaches 0: DONE with its call and report (R150). DESIGN CHOICE: the call is raised before the report
is queued (log entry 41). -/
def cookEnds (n : Nat) (s : State) : State :=
  onWave n (fun w => pushReport (waveReport w (some .cooking) (some .done) .done))
    (raiseCall .waveDone n (updateWave n (fun w => { w with state := .done }) s))

/-- A cook-timer second (R150). -/
def cookSecond (n : Nat) (s : State) : State :=
  onWave n
    (fun w s =>
      let left := w.cookLeft.getD 0 - (if cookCounts w s then 1 else 0)
      let t := updateWave n (fun w => { w with cookLeft := some left, cookMs := Config.secondMs }) s
      doWhen (decide (left = 0)) (cookEnds n) t) s

/-- The meaning of COOK_TIMER (R150). -/
def execCookTimer (n : Nat) (s : State) : Out := expiry (cookDue n s) (cookSecond n) s

/-! ## Ask checks and answer timers (R154, R155) -/

/-- The check timer of the wave comes due now. -/
def checkDue (n : Nat) (s : State) : Bool :=
  match findWave n s with
  | some w => asking w.state && decide (w.check = some 0)
  | none => false

/-- An ask check and, once the shortage checks have begun, a shortage check after it (R154, R158). -/
def askCheck (n : Nat) (s : State) : State :=
  let t := askSources n (updateWave n (fun w => { w with check := some Config.askMs }) s)
  onWave n (fun w => doWhen w.shortage (shortageCheck n)) t

/-- The meaning of ASK_CHECK (R154). -/
def execAskCheck (n : Nat) (s : State) : Out := expiry (checkDue n s) (askCheck n) s

/-- The answer timer of a source has run out with the source ASKED. -/
def answerLate (n : Nat) (second : Bool) (s : State) : Bool :=
  match (findWave n s).bind (sourceOf second) with
  | some r =>
    match r.hold with
    | .asked n _ => decide (n = 0)
    | _ => false
  | none => false

/-- The unanswered source becomes NONE (R155). -/
def answerExpiry (n : Nat) (second : Bool) (s : State) : State :=
  updateWave n (changeSource second (fun r => { r with hold := .none })) s

/-- The meaning of ANSWER_TIMER_EXPIRY (R155). -/
def execAnswerTimerExpiry (n : Nat) (second : Bool) (s : State) : Out :=
  expiry (answerLate n second s) (answerExpiry n second) s

/-! ## Commands -/

/-- Put a wave into the table, in order of number (R145). -/
def insertWave (w : Wave) : List Wave → List Wave
  | [] => [w]
  | x :: xs => if w.number < x.number then w :: x :: xs else x :: insertWave w xs

/-- A source of a new wave (R146). -/
def newSource (station channel : Nat) : Source := { station := station, channel := channel, hold := .none, taken := 0 }

/-- The two sources of a wave name the same station and the same warmer channel (R146). -/
def sameSources (w : Wave) : Bool :=
  match w.src2 with
  | some r => decide (r.station = w.src1.station) && decide (r.channel = w.src1.channel)
  | none => false

/-- The checks of a new wave in their order, and its entry (R146). -/
def planWave (w : Wave) (clamped : Bool) (s : State) : Except Reason Done :=
  if (findWave w.number s).isSome then .error .state
  else if Config.maxWaves ≤ s.waves.length then .error .full
  else if s.profile.channels[w.oven].kind ≠ .oven then .error .wrongKind
  else if sameSources w then .error (.condition none)
  else accepted (pushReport (waveReport w none (some .planned) .planned) (s.setWaves (insertWave w s.waves))) clamped

/-- A source's two identifiers as they come in the command. -/
structure SourceWords where
  station : Word
  channel : Word

/-- The words of a WAVE-PLAN in their order (section 11.5). -/
structure PlanWords where
  wave : Word
  oven : Word
  fireHi : Word
  fireLo : Word
  passHi : Word
  passLo : Word
  cook : Word
  target : Word
  covers : Word
  src1 : SourceWords
  src2 : Option SourceWords

/-- A source's identifiers carry no token (R185, test 4). -/
def sourceHasValues (q : SourceWords) : Bool := hasValue (narrow q.station) && hasValue (narrow q.channel)

/-- A source's identifiers are in range (R185, test 5). -/
def sourceWithin (q : SourceWords) : Bool := idWithin 1 30 (narrow q.station) && idWithin 0 7 (narrow q.channel)

/-- The source that the identifiers name. -/
def sourceFrom (q : SourceWords) : Source := newSource (idValue (narrow q.station)) (idValue (narrow q.channel))

/-- The wave a WAVE-PLAN describes, with its numeric parameters clamped, and whether a clamp was needed (R146). -/
def plannedWave (q : PlanWords) (s : State) : Wave × Bool :=
  let k := chanOf (idValue (narrow q.oven))
  let fire := numeric 0 86399 s.life.clock (wide q.fireHi q.fireLo)
  let pass := numeric 0 86399 s.life.clock (wide q.passHi q.passLo)
  let cook := numeric 60 14400 1200 (narrow q.cook)
  let target := numeric 0 (topTarget s.profile k) 0 (narrow q.target)
  let covers := numeric 1 600 1 (narrow q.covers)
  ({ number := idValue (narrow q.wave), oven := k, fire := fire.1, pass := pass.1, cook := cook.1, target := target.1,
     covers := covers.1, src1 := sourceFrom q.src1, src2 := q.src2.map sourceFrom, state := .planned, cookLeft := none,
     late := false, short := false, check := none, cookMs := 0, shortage := false },
   fire.2 || pass.2 || cook.2 || target.2 || covers.2)

/-- Tests 3 to 6 of a WAVE-PLAN (R146, R185). -/
def planCommand (q : PlanWords) (s : State) : Except Reason Done :=
  checked (stageOk .joinedOnly s.life.station)
    (hasValue (narrow q.wave) && hasValue (narrow q.oven) && sourceHasValues q.src1 &&
      (q.src2.map sourceHasValues).getD true)
    (idWithin 1 255 (narrow q.wave) && idWithin 0 7 (narrow q.oven) && sourceWithin q.src1 &&
      (q.src2.map sourceWithin).getD true)
    (planWave (plannedWave q s).1 (plannedWave q s).2 s)

/-- WAVE-PLAN (R146). -/
def wavePlanCommand (p : List Word) (s : State) : Except Reason Done :=
  match p with
  | [n, o, fh, fl, ph, pl, c, t, v, a, b] => planCommand ⟨n, o, fh, fl, ph, pl, c, t, v, ⟨a, b⟩, none⟩ s
  | [n, o, fh, fl, ph, pl, c, t, v, a, b, d, e] => planCommand ⟨n, o, fh, fl, ph, pl, c, t, v, ⟨a, b⟩, some ⟨d, e⟩⟩ s
  | _ => .error .malformed

/-- The meaning of WAVE_PLAN (R146). -/
def execWavePlan (p : List Word) (s : State) : Out := panel 64 (wavePlanCommand p) s

/-- A command that names a wave: NO-SUCH without such a wave (R149, R151, R152). -/
def waveCommand (p : List Word) (s : State) (owner : Wave → Except Reason Done) : Except Reason Done :=
  oneId 1 255 p s fun n =>
    match findWave n s with
    | some w => owner w
    | none => .error .noSuch

/-- Another wave on the same oven is COOKING (R149). -/
def ovenBusy (w : Wave) (s : State) : Bool :=
  s.waves.any (fun x => decide (x.number ≠ w.number) && decide (x.oven = w.oven) && decide (x.state = .cooking))

/-- Entry to COOKING with the cook timer started (R149). -/
def startCooking (n : Nat) (s : State) : State :=
  updateWave n (fun w => { w with state := .cooking, cookLeft := some w.cook, cookMs := Config.secondMs }) s

/-- The FIRED report (R149). -/
def reportFired (n : Nat) (before : WaveState) (s : State) : State :=
  onWave n (fun w => pushReport (waveReport w (some before) (some .cooking) .fired)) s

/-- WAVE-FIRE from PLANNED: the target write, the first ask check and the first shortage check (R149, R158). DEDUCED:
the FIRED report is queued before the first shortage check's call and report (log entry 19). -/
def fireFromPlanned (w : Wave) (s : State) : State :=
  let t := updateWave w.number (fun w => { w with check := some Config.askMs })
    (startCooking w.number (writeOvenTarget w s))
  firstShortage w.number (reportFired w.number .planned (askSources w.number t))

/-- A WAVE-FIRE that its wave's state allows; the oven must not be cooking another wave (R149). -/
def fireWave (w : Wave) (s : State) (fired : State) : Except Reason Done :=
  if ovenBusy w s then .error .busy else accepted fired false

/-- WAVE-FIRE (R149). -/
def waveFireCommand (p : List Word) (s : State) : Except Reason Done :=
  waveCommand p s fun w =>
    match w.state with
    | .planned => fireWave w s (fireFromPlanned w s)
    | .preheat => fireWave w s (reportFired w.number .preheat (startCooking w.number s))
    | .fireDue => fireWave w s (reportFired w.number .fireDue (cancelCall .fireDue w.number (startCooking w.number s)))
    | _ => .error .state

/-- The meaning of WAVE_FIRE (R149). -/
def execWaveFire (p : List Word) (s : State) : Out := panel 65 (waveFireCommand p) s

/-- A DONE wave enters PLATING (R151). DESIGN CHOICE: the WAVE-DONE call is cancelled before the shortage call (log entry
51). -/
def plateWave (w : Wave) (s : State) : State :=
  pushReport (waveReport w (some .done) (some .plating) .plating)
    (cancelShortage w.number (cancelCall .waveDone w.number
      (updateWave w.number (fun w => { w with state := .plating }) s)))

/-- WAVE-PLATE (R151). -/
def wavePlateCommand (p : List Word) (s : State) : Except Reason Done :=
  waveCommand p s fun w => if w.state = .done then accepted (plateWave w s) false else .error .state

/-- The meaning of WAVE_PLATE (R151). -/
def execWavePlate (p : List Word) (s : State) : Out := panel 66 (wavePlateCommand p) s

/-- HOLD-FREE for a source in HELD (R151). -/
def freeSource (n : Nat) (r : Source) (s : State) : State :=
  match r.hold with
  | .held _ tag => sendFree r.station tag n r.channel s
  | _ => s

/-- HOLD-FREE for every source of a wave in HELD (R151). DESIGN CHOICE: source 1 before source 2 (log entry 51). -/
def freeSources (w : Wave) (s : State) : State :=
  let t := freeSource w.number w.src1 s
  match w.src2 with
  | some r => freeSource w.number r t
  | none => t

/-- Remove the wave with a number from the table. -/
def dropWave (n : Nat) (s : State) : State := s.setWaves (s.waves.filter (fun w => decide (w.number ≠ n)))

/-- The CLOSED report's cause (R151). -/
def closedCause (w : Wave) : WaveCause := .closed w.covers w.src1.taken (w.src2.map (fun r => r.taken))

/-- A wave is closed (R151). DESIGN CHOICE: its calls are cancelled in the order WAVE-DONE, WAVE-LATE, shortage, which is the
order of their PAGE-CANCELs (log entry 51). -/
def closeWave (w : Wave) (s : State) : State :=
  dropWave w.number
    (pushReport (waveReport w (some w.state) none (closedCause w))
      (cancelShortage w.number (cancelCall .waveLate w.number (cancelCall .waveDone w.number (freeSources w s)))))

/-- WAVE-CLOSE (R151). -/
def waveCloseCommand (p : List Word) (s : State) : Except Reason Done :=
  waveCommand p s fun w =>
    match w.state with
    | .done => accepted (closeWave w s) false
    | .plating => accepted (closeWave w s) false
    | _ => .error .state

/-- The meaning of WAVE_CLOSE (R151). -/
def execWaveClose (p : List Word) (s : State) : Out := panel 67 (waveCloseCommand p) s

/-- A wave is cancelled (R152). DESIGN CHOICE: its calls are cancelled in the order FIRE-DUE, WAVE-DONE, WAVE-LATE, shortage,
which is the order of their PAGE-CANCELs (log entry 51). -/
def cancelWave (w : Wave) (s : State) : State :=
  dropWave w.number
    (pushReport (waveReport w (some w.state) none .cancelled)
      (cancelShortage w.number (cancelCall .waveLate w.number (cancelCall .waveDone w.number
        (cancelCall .fireDue w.number (freeSources w s))))))

/-- WAVE-CANCEL (R152). -/
def waveCancelCommand (p : List Word) (s : State) : Except Reason Done :=
  waveCommand p s fun w => accepted (cancelWave w s) false

/-- The meaning of WAVE_CANCEL (R152). -/
def execWaveCancel (p : List Word) (s : State) : Out := panel 68 (waveCancelCommand p) s

end Sys2Proof.Machine
end

