-- ==== Sys2Proof/Machine/Passline.lean ====
section
/-! DEFINITION. The Passline controller (chapter 3): sending, the end of a frame, a stuck line, receiving, and the entry to
DUPLICATE (R52, R93). -/

namespace Sys2Proof.Machine

/-- Change the controller's state. -/
def updateBus (f : Bus → Bus) (s : State) : State := s.setBus (f s.bus)

/-! ## The end of a frame (R45, R46, R49, R53) -/

/-- The result of a frame goes to its originating block. Only the share unit acts on one (R49, R82); the others' results
change nothing (R135, R142, R157, R164). -/
def deliverResult (f : Frame) (acked : Bool) (s : State) : State :=
  match f with
  | .announce _ => announceResult acked s
  | _ => s

/-- The controller falls silent as the leaving ANNOUNCE ends: the stuck condition is cleared (R53). -/
def fallSilent (s : State) : State := updateBus (fun b => { b with stuck := false, leaveTimer := none }) s

/-- What the end of frame `e` with a result brings: the result delivered while joined, or the silence after a leaving
ANNOUNCE (R49, R53). -/
def frameEnded (e : TxEntry) (acked : Bool) (s : State) : State :=
  if isLeaving e.frame then fallSilent s
  else doWhen (e.deliver && joined s) (deliverResult e.frame acked) s

/-- The frame on the line ends with its result and frees its entry (R45). -/
def endOnLine (acked : Bool) (s : State) : State :=
  match s.bus.onLine with
  | some e => frameEnded e acked (updateBus (fun b => { b with onLine := none }) s)
  | none => s

/-- The meaning of FRAME_RESULT (R45). -/
def execFrameResult (acked : Bool) (s : State) : Out := event (endOnLine acked) s

/-- The meaning of BIT_FAULT (R46): the frame ends UNACKED. -/
def execBitFault (s : State) : Out := event (endOnLine false) s

/-- The meaning of ARBITRATION_LOST (R44, R46): the frame waits again. -/
def execArbitrationLost (s : State) : Out := event (updateBus requeue) s

/-! ## The start of a frame (R42, R46, R53) -/

/-- The controller may send: the station may, or a leaving ANNOUNCE waits in UNJOINED (R42, R53). -/
def sends (s : State) : Bool := maySend s || (!joined s && s.bus.waiting.any (fun e => isLeaving e.frame))

/-- The head frame of the queue comes to its turn: it goes on the line, or ends UNACKED at once on a stuck line (R42,
R46, R47). -/
def startHead (s : State) : State :=
  match s.bus.waiting, s.bus.onLine with
  | e :: rest, none =>
    if s.bus.stuck then frameEnded e false (updateBus (fun b => { b with waiting := rest }) s)
    else updateBus (fun b => { b with
      waiting := rest
      onLine := some e
      leaveTimer := if isLeaving e.frame then none else b.leaveTimer }) s
  | _, _ => s

/-- The meaning of FRAME_START (R42). -/
def execFrameStart (s : State) : Out := event (doWhen (sends s) startHead) s

/-! ## A stuck line (R46, R54) -/

/-- The controller judges the line: in joined states, and in UNJOINED for a leaving ANNOUNCE (R53). -/
def judgesLine (s : State) : Bool :=
  joined s || s.bus.waiting.any (fun e => isLeaving e.frame) || (s.bus.onLine.any (fun e => isLeaving e.frame))

/-- The line is found stuck; in UNJOINED no report is queued (R46, R53). -/
def findStuck (s : State) : State :=
  doWhen (joined s) (pushReport (.line true)) (updateBus (fun b => { b with stuck := true }) s)

/-- The meaning of LINE_STUCK (R46). -/
def execLineStuck (s : State) : Out := event (doWhen (judgesLine s && !s.bus.stuck) findStuck) s

/-- A stuck line is quiet again (R46). -/
def findClear (s : State) : State :=
  doWhen (joined s) (pushReport (.line false)) (updateBus (fun b => { b with stuck := false }) s)

/-- The meaning of LINE_CLEAR (R46). -/
def execLineClear (s : State) : Out := event (doWhen s.bus.stuck findClear) s

/-- The leaving ANNOUNCE has not begun within 500 ms of the LEAVE. -/
def leavingLate (s : State) : Bool :=
  match s.bus.leaveTimer with
  | some n => decide (Config.leavingMs ≤ n)
  | none => false

/-- The leaving ANNOUNCE is discarded unsent (R53). -/
def dropLeaving (s : State) : State :=
  fallSilent (updateBus (fun b => { b with waiting := b.waiting.filter (fun e => !isLeaving e.frame) }) s)

/-- The meaning of LEAVING_ANNOUNCE_TIMEOUT (R53). -/
def execLeavingAnnounceTimeout (s : State) : Out := expiry (leavingLate s) dropLeaving s

/-! ## DUPLICATE (R52, R93) -/

/-- A HOLD-ASK that comes back as not sent: the source it asked is as before the ask (R53, R157). -/
def askReturned (b : HoldAskBody) (s : State) : State :=
  onWave b.wave
    (fun w s =>
      match matchSource b.target b.channel w with
      | some i => updateWave w.number (changeSource i unask) s
      | none => s) s

/-- A frame that comes back as not sent counts as refused (R53): the wave table takes back its ask (R157), and a STOCK sets
the stock-changed flag (R141). To the other kinds a refusal changes nothing (R134, R135, R157, R164, R169). -/
def frameReturned (f : Frame) (s : State) : State :=
  match f with
  | .holdAsk b => askReturned b s
  | .stock _ => s.setStock { s.stock with changed := true }
  | _ => s

/-- Every waiting frame is discarded and returned as not sent, in queue order; a frame still on the line counts as lost
first (R53). -/
def returnFrames (s : State) : State :=
  let b := requeue s.bus
  b.waiting.foldl (fun s e => frameReturned e.frame s) (s.setBus { b with waiting := [] })

/-- Entry to DUPLICATE (R93). DESIGN CHOICE: the STATION report stands before the OVERDRAWN report that the grant may queue
(log entry 41), and calls of other stations stay in the page queue (log entry 53). -/
def enterDuplicate (kind : Nat) (s : State) : State :=
  let from' := s.life.station
  let t := returnFrames (changeStation .duplicate (.duplicateId kind) s)
  let u := doWhen (decide (from' = .isolated)) (cancelCall .isolated (ownId s)) t
  let v := u.setShare { u.share with unacked := 0 }
  deliverGrant (doWhen (decide (from' = .listening)) startClocks v)

/-- A DUPLICATE-ID event at the life cycle (R52, R93). -/
def duplicateEvent (kind : Nat) (s : State) : State :=
  doWhen (decide (s.life.station ≠ .duplicate)) (enterDuplicate kind) s

/-! ## Receiving (R43, R45, R50 to R52) -/

/-- Record how the acknowledge slot of a received frame was driven (R45). -/
def driveSlot (dominant : Bool) (s : State) : State := updateBus (fun b => { b with ackSlot := dominant }) s

/-- A frame of 0 or 31 as sender is discarded, like any number that is no identifier (R43). -/
def badSender (sender : Nat) : Bool := decide (sender = 0) || decide (30 < sender)

/-- A complete frame whose check passes, in a joined state: discarded for its sender, taken as a DUPLICATE-ID, or
acknowledged and handed on when it is delivered (R43, R45, R50, R52). -/
def receive (sender kind : Nat) (delivered : Bool) (f : State → State) (s : State) : State :=
  if joined s = false then s
  else if badSender sender then driveSlot false s
  else if sender = ownId s then duplicateEvent kind (driveSlot false s)
  else doWhen delivered f (driveSlot true s)

/-- A received frame that is delivered in ACTIVE and ISOLATED alone (R50). -/
def receiveWorking (sender kind : Nat) (f : State → State) (s : State) : Out :=
  event (fun s => receive sender kind (maySend s) f s) s

/-- The meaning of DUPLICATE_ID (R52). -/
def execDuplicateId (kind : Nat) (s : State) : Out :=
  event (doWhen (joined s) (fun s => duplicateEvent kind (driveSlot false s))) s

/-- The meaning of BAD_FRAME (R43): discarded without a trace, the slot left recessive. -/
def execBadFrame (_bytes : List Byte) (s : State) : Out := event (doWhen (joined s) (driveSlot false)) s

/-- The sender identifier of a frame's arbitration byte (section 3.1). -/
def senderOf (bytes : List Byte) : Nat := (bytes.headD 0).toNat % 32

/-- The kind byte of a frame (section 3.1). -/
def kindOf (bytes : List Byte) : Nat := ((bytes.drop 1).headD 0).toNat

/-- The meaning of FRAME_MISMATCH (R50): acknowledged and discarded. -/
def execFrameMismatch (bytes : List Byte) (s : State) : Out :=
  event (receive (senderOf bytes) (kindOf bytes) false id) s

/-! ## Hold frames (R51, R133, R136, R155, R156) -/

/-- An addressed frame reaches its recipient when its target is this station (R51). -/
def addressed (target : Nat) (f : State → State) (s : State) : State := doWhen (decide (target = ownId s)) f s

/-- The meaning of HOLD_ASK (R133). -/
def execHoldAsk (sender : Nat) (b : HoldAskBody) (s : State) : Out :=
  receiveWorking sender 5 (addressed b.target (answerPeer sender b)) s

/-- The meaning of HOLD_ANSWER (R155). -/
def execHoldAnswer (sender : Nat) (b : HoldAnswerBody) (s : State) : Out :=
  receiveWorking sender 6 (addressed b.target (takeAnswer sender b)) s

/-- The meaning of HOLD_STATE (R156). -/
def execHoldState (sender : Nat) (b : HoldStateBody) (s : State) : Out :=
  receiveWorking sender 7 (addressed b.target (takeHoldState sender b)) s

/-- The meaning of HOLD_FREE (R136). -/
def execHoldFree (sender : Nat) (b : HoldFreeBody) (s : State) : Out :=
  receiveWorking sender 8 (addressed b.target (freeHold sender b.tag b.wave b.channel)) s

/-! ## Paging frames (R165, R168, R177) -/

/-- The meaning of PAGE_CALL (R168). -/
def execPageCall (sender : Nat) (b : PageCallBody) (s : State) : Out := receiveWorking sender 2 (serveCall sender b) s

/-- A PAGE-STATE reaches the call it names when its origin is this station (R165). -/
def takePageState (b : PageStateBody) (s : State) : State := doWhen (decide (b.origin = ownId s)) (pageStateAtOrigin b) s

/-- The meaning of PAGE_STATE (R165). -/
def execPageState (sender : Nat) (b : PageStateBody) (s : State) : Out := receiveWorking sender 3 (takePageState b) s

/-- The meaning of PAGE_CANCEL (R177). -/
def execPageCancel (sender number : Nat) (s : State) : Out := receiveWorking sender 4 (serveCancel sender number) s

end Sys2Proof.Machine
end

