-- ==== Sys2Proof/Machine/Peers.lean ====
section
/-! DEFINITION. The peer table (chapter 4): ANNOUNCE and STOCK frames of other stations, silence and stock ages. -/

namespace Sys2Proof.Machine

/-! ## The table (R55) -/

/-- The entry of an identifier. -/
def findPeer (id : Nat) (s : State) : Option Peer := s.peers.find? (fun p => decide (p.id = id))

/-- Change the entry of an identifier. -/
def updatePeer (id : Nat) (f : Peer → Peer) (s : State) : State :=
  s.setPeers (s.peers.map (fun p => if p.id = id then f p else p))

/-- Remove the entry of an identifier. -/
def dropPeer (id : Nat) (s : State) : State := s.setPeers (s.peers.filter (fun p => decide (p.id ≠ id)))

/-- Put an entry into the table, in order of identifier (R55). -/
def insertPeer (p : Peer) : List Peer → List Peer
  | [] => [p]
  | x :: xs => if p.id < x.id then p :: x :: xs else x :: insertPeer p xs

/-! ## ANNOUNCE (R56 to R59) -/

/-- The entry a first ANNOUNCE creates (R56). -/
def newPeer (id : Nat) (b : AnnounceBody) : Peer :=
  { id := id, stale := false, epoch := b.epoch, sequence := b.sequence, silence := 0, asks := b.asks,
    drawing := b.drawing, stock := none }

/-- An update of an entry (R57). -/
def updated (b : AnnounceBody) (p : Peer) : Peer :=
  { p with stale := false, sequence := b.sequence, silence := 0, asks := b.asks, drawing := b.drawing }

/-- The forward distance from the last sequence to a new one (section 4.2). -/
def forwardDistance (last new : Nat) : Nat := (new + 256 - last % 256) % 256

/-- The sequence test: a forward distance within 1..16 (R57). -/
def sequenceRuns (last new : Nat) : Bool :=
  decide (1 ≤ forwardDistance last new) && decide (forwardDistance last new ≤ Config.maxDistance)

/-- The peer of an entry has restarted (R57). -/
def restarted (b : AnnounceBody) (p : Peer) : Bool := decide (b.epoch ≠ p.epoch) || !sequenceRuns p.sequence b.sequence

/-- The cause of a PEER report of a restart (R58, R66). -/
def restartCause (b : AnnounceBody) (p : Peer) : PeerCause := .restarted b.epoch (decide (b.epoch ≠ p.epoch))

/-- A restart of a known peer (R58). -/
def restartPeer (b : AnnounceBody) (p : Peer) (s : State) : State :=
  pushReport (.peer p.id p.epoch (restartCause b p))
    (goneNotice p.id (updatePeer p.id (fun p => newPeer p.id b) s))

/-- A leaving ANNOUNCE (R59). -/
def peerLeaves (id : Nat) (s : State) : State :=
  match findPeer id s with
  | some p => pushReport (.peer id p.epoch (.left p.sequence)) (goneNotice id (dropPeer id s))
  | none => goneNotice id s

/-- An ANNOUNCE at the peer table (R56 to R59). -/
def announceAtTable (sender : Nat) (b : AnnounceBody) (s : State) : State :=
  if b.leaving then peerLeaves sender s
  else
    match findPeer sender s with
    | none => s.setPeers (insertPeer (newPeer sender b) s.peers)
    | some p => if restarted b p then restartPeer b p s else updatePeer sender (updated b) s

/-- The meaning of ANNOUNCE (R57): the peer table takes the frame, and then the share unit forms and delivers the grant
(R50, R78). -/
def execAnnounce (sender : Nat) (b : AnnounceBody) (s : State) : Out :=
  event (receive sender 1 true (fun s => deliverGrant (announceAtTable sender b s))) s

/-! ## Silence (R60, R61) -/

/-- The silence timer of a LIVE entry has reached 3,000 ms. -/
def staleDue (id : Nat) (s : State) : Bool :=
  match findPeer id s with
  | some p => decide (Config.staleMs ≤ p.silence) && !p.stale
  | none => false

/-- The meaning of SILENCE_STALE (R60). -/
def execSilenceStale (id : Nat) (s : State) : Out :=
  expiry (staleDue id s) (updatePeer id (fun p => { p with stale := true })) s

/-- The silence timer of an entry has reached 10,000 ms. -/
def removeDue (id : Nat) (s : State) : Bool :=
  match findPeer id s with
  | some p => decide (Config.removeMs ≤ p.silence)
  | none => false

/-- A removal for silence (R61). -/
def removeSilent (id : Nat) (s : State) : State :=
  match findPeer id s with
  | some p => pushReport (.peer id p.epoch (.silent p.sequence)) (goneNotice id (dropPeer id s))
  | none => s

/-- The meaning of SILENCE_REMOVE (R61). -/
def execSilenceRemove (id : Nat) (s : State) : Out := expiry (removeDue id s) (removeSilent id) s

/-! ## Stock parts (R64, R65) -/

/-- The length of a STOCK matches its first two body bytes: at most eight warmer entries (R50). -/
def stockFits (b : StockBody) : Bool := decide (b.warmers.length ≤ 8)

/-- The channels of a warmer list differ from one another. -/
def distinctChannels : List StockEntry → Bool
  | [] => true
  | e :: es => es.all (fun x => decide (x.channel ≠ e.channel)) && distinctChannels es

/-- The body of a STOCK is valid (R64). -/
def stockValid (b : StockBody) : Bool :=
  b.warmers.all (fun e => decide (e.channel ≤ 7)) && distinctChannels b.warmers &&
    (!b.warmers.isEmpty || b.clean.isSome)

/-- Put a warmer entry into a list in channel order. -/
def insertEntryByChannel (e : StockEntry) : List StockEntry → List StockEntry
  | [] => [e]
  | x :: xs => if e.channel < x.channel then e :: x :: xs else x :: insertEntryByChannel e xs

/-- The stock part a STOCK gives (R64). -/
def stockPart (b : StockBody) : StockPart :=
  { warmers := b.warmers.foldr insertEntryByChannel [], clean := b.clean, age := 0 }

/-- A STOCK at the peer table (R64). -/
def stockAtTable (sender : Nat) (b : StockBody) (s : State) : State :=
  doWhen (stockValid b) (updatePeer sender (fun p => { p with stock := some (stockPart b) })) s

/-- The meaning of STOCK (R64). -/
def execStock (sender : Nat) (b : StockBody) (s : State) : Out :=
  event (receive sender 9 (stockFits b) (stockAtTable sender b)) s

/-- The stock age of an entry has reached 20 s. -/
def stockAgeDue (id : Nat) (s : State) : Bool :=
  match (findPeer id s).bind (fun p => p.stock) with
  | some t => decide (Config.stockAgeMs ≤ t.age)
  | none => false

/-- The meaning of STOCK_AGE_EXPIRY (R65). -/
def execStockAgeExpiry (id : Nat) (s : State) : Out :=
  expiry (stockAgeDue id s) (updatePeer id (fun p => { p with stock := none })) s

end Sys2Proof.Machine
end

