-- ==== Sys2Proof/Machine/Life.lean ====
section
/-! DEFINITION. The station life cycle (chapter 6): reset and RESTART, the checks and effects of JOIN, LEAVE and
SET-CLOCK. -/

namespace Sys2Proof.Machine

/-! ## Reset (R87) -/

/-- A transaction that a reset meets is discarded whole (R182). -/
def caughtTransaction (t : Transaction) : Transaction := if t = .none then .none else .dead

/-- A line at a reset: the taken level is the level on its pin, and no debounce runs (R6). -/
def resetLine (l : Line) : Line := { l with taken := l.pin, debounce := none }

/-- Every block at its reset values; the pins keep their levels and waiting commands wait on (R87). -/
def resetBlocks (r : Resetting) (s : State) : State :=
  { State.reset with
    pending := s.pending
    resetting := r
    lines := s.lines.map resetLine
    port := { Port.initial with transaction := caughtTransaction s.port.transaction } }

/-- The meaning of RESET_ASSERT (R87). -/
def execResetAssert (s : State) : Out := .next (resetBlocks .pin s)

/-- The meaning of RESET_RELEASE (R87): without an asserted pin there is nothing to release. -/
def execResetRelease (s : State) : Out := .next (doWhen (decide (s.resetting = .pin)) (resetBlocks .no) s)

/-- RESTART, taken as a command record: 10 ms of reset, and NONE in the reply slot (R87). -/
def restartCommand (p : List Word) (s : State) : State :=
  match p with
  | [] => resetBlocks (.restart Config.restartMs) s
  | _ => setReply (.refused 1 .malformed) s

/-- The meaning of RESTART (R87). -/
def execRestart (p : List Word) (s : State) : Out :=
  .next (if portDeaf s then endTransaction s else restartCommand p (endTransaction s))

/-- The meaning of RESTART_RELEASE (R87). -/
def execRestartRelease (s : State) : Out := .next (doWhen (decide (s.resetting = .restart 0)) (resetBlocks .no) s)

/-! ## The checks of JOIN (R89) -/

/-- The channels of a kind, by number. -/
def channelsOf (p : Profile) (k : Kind) : List Chan := (List.finRange 8).filter (fun i => decide (p.channels[i].kind = k))

/-- The lowest-numbered channel that is a second BOOSTER or a second TANK (R89, check 2). -/
def secondChannel (p : Profile) : Option Chan :=
  (List.finRange 8).find? (fun i =>
    ((channelsOf p .booster).drop 1).contains i || ((channelsOf p .tank).drop 1).contains i)

/-- The lowest-numbered channel of kind BOOSTER or TANK (R89, check 4). -/
def dishChannel (p : Profile) : Option Chan :=
  (List.finRange 8).find? (fun i => decide (p.channels[i].kind = .booster) || decide (p.channels[i].kind = .tank))

/-- The first edge out of order with the edge before it (R89, check 5). -/
def edgeOutOfOrder (p : DishProfile) : Option Nat :=
  if p.b ≤ p.a then some 1
  else if p.c < p.b then some 2
  else if p.d ≤ p.c then some 3
  else if p.e ≤ p.d then some 4
  else none

/-- The lowest roster entry in use without a group (R89, check 6). -/
def groupless (p : Profile) : Option (Fin 32) :=
  (List.finRange 32).find? (fun i => decide (p.roster[i].address ≠ 0) && p.roster[i].group.isNone)

/-- The lowest roster entry whose address appears at a lower index (R89, check 7). -/
def sharedAddress (p : Profile) : Option (Fin 32) :=
  (List.finRange 32).find? (fun i => decide (p.roster[i].address ≠ 0) &&
    (List.finRange 32).any (fun j => decide (j < i) && decide (p.roster[j].address = p.roster[i].address)))

/-- Checks 2, 3 and 5, with the dish line enabled (R89). -/
def dishChecks (p : Profile) : Option (Nat × Nat) :=
  match secondChannel p with
  | some k => some (4, k)
  | none =>
    if channelsOf p .booster = [] ∨ channelsOf p .tank = [] then some (16, 0)
    else (edgeOutOfOrder p.dish).map (fun e => (17, e))

/-- Checks 6 and 7, with a radio (R89). -/
def rosterChecks (p : Profile) : Option (Nat × Nat) :=
  match groupless p with
  | some i => some (32, i)
  | none => (sharedAddress p).map (fun i => (31, i.val))

/-- The checks of JOIN in their order: the item and element named by the first that fails (R89). -/
def joinCheck (p : Profile) : Option (Nat × Nat) :=
  if p.stationId = 0 ∨ 30 < p.stationId then some (1, 0)
  else
    match (if p.dish.enable then dishChecks p else (dishChannel p).map (fun k => (4, k.val))) with
    | some x => some x
    | none => if p.radio then rosterChecks p else none

/-! ## JOIN (R90) -/

/-- Every block at the values it begins with at JOIN (R53, R55, R69, R99, R143, R145, R161, R167). -/
def joinBlocks (s : State) : State :=
  (((((((s.setHeat (Heat.initial s.profile)).setBus Bus.initial).setPeers []).setShare
    { Share.initial with listen := some Config.listenMs }).setDish (Dish.initial s.profile.dish)).setStock
      Stock.initial).setWaves []).setPaging (Paging.initial s.profile)

/-- An accepted JOIN: the join number, LISTENING with its report, the blocks' beginnings, the initial states of the lines,
and the trips of channels whose input is FAULTED (R90). -/
def joinStation (s : State) : State :=
  let t := joinBlocks (s.setLife { s.life with joinNumber := s.life.joinNumber % 255 + 1 })
  deliverGrant (tripsAtJoin (initialLines (changeStation .listening .joined t)))

/-- JOIN (R89). -/
def joinCommand (p : List Word) (s : State) : Except Reason Done :=
  plain .unjoinedOnly p s
    (match joinCheck s.profile with
     | some x => .error (.condition (some x))
     | none => accepted (joinStation s) false)

/-- The meaning of JOIN (R89). -/
def execJoin (p : List Word) (s : State) : Out := panel 3 (joinCommand p) s

/-! ## LEAVE (R94) -/

/-- The body of a leaving ANNOUNCE (R81). -/
def leavingBody (s : State) : AnnounceBody :=
  { epoch := s.life.joinNumber, sequence := s.share.nextSequence, asks := .zero, drawing := 0, leaving := true }

/-- The controller at a LEAVE: the leaving ANNOUNCE is the one waiting frame, a frame on the line runs to its end for no
block, and nothing is left from a state that does not send (R53). -/
def leaveBus (s : State) : Bus :=
  if maySend s then
    { s.bus with
      waiting := [{ frame := .announce (leavingBody s), sender := ownId s, age := s.bus.nextAge, deliver := false }]
      onLine := s.bus.onLine.map (fun e => { e with deliver := false })
      nextAge := s.bus.nextAge + 1
      leaveTimer := some 0 }
  else { s.bus with waiting := [], onLine := none, stuck := false, leaveTimer := none }

/-- Every runtime table cleared at a LEAVE (R94, step 3). -/
def leaveBlocks (s : State) : State :=
  ((((((((s.setBus (leaveBus s)).setHeat (Heat.initial s.profile)).setPeers []).setShare Share.initial).setDish
    (Dish.initial s.profile.dish)).setStock Stock.initial).setWaves []).setPaging (Paging.initial s.profile)).setPort
      { s.port with reports := [], gap := s.port.gap || !s.port.reports.isEmpty }

/-- LEAVE (R94). -/
def leaveCommand (p : List Word) (s : State) : Except Reason Done :=
  plain .joinedOnly p s (accepted (changeStation .unjoined .left (leaveBlocks s)) false)

/-- The meaning of LEAVE (R94). -/
def execLeave (p : List Word) (s : State) : Out := panel 4 (leaveCommand p) s

/-! ## SET-CLOCK (R95) -/

/-- SET-CLOCK (R95). -/
def setClockCommand (p : List Word) (s : State) : Except Reason Done :=
  match p with
  | [hi, lo] =>
    let v := numeric 0 86399 0 (wide hi lo)
    checked (stageOk .joinedOnly s.life.station) true true
      (accepted (s.setLife { s.life with clock := v.1, second := s.life.second.taken }) v.2)
  | _ => .error .malformed

/-- The meaning of SET_CLOCK (R95). -/
def execSetClock (p : List Word) (s : State) : Out := panel 5 (setClockCommand p) s

end Sys2Proof.Machine
end

