-- ==== Sys2Proof/Machine/Profile.lean ====
section
/-! DEFINITION. The station profile (sections 6.6 and 12.2): the items with their ranges, defaults and choice values,
reading and writing them, and PROFILE-PUT. -/

namespace Sys2Proof.Machine

/-! ## Choice values (section 12.2) -/

/-- The code of a kind. -/
def kindNumber : Kind → Nat
  | .unused => 0
  | .oven => 1
  | .warmer => 2
  | .booster => 3
  | .tank => 4

/-- The kind of a code. -/
def kindFrom : Nat → Kind
  | 1 => .oven
  | 2 => .warmer
  | 3 => .booster
  | 4 => .tank
  | _ => .unused

/-- The code of a line use. -/
def useNumber : LineUse → Nat
  | .ovenDoor k => k
  | .warmerDoor k => 8 + k
  | .dishEntry => 16
  | .dishExit => 17
  | .dishDoor => 18
  | .unused => 19

/-- The line use of a code. -/
def useFrom (n : Nat) : LineUse :=
  if n < 8 then .ovenDoor (chanOf n)
  else if n < 16 then .warmerDoor (chanOf (n - 8))
  else if n = 16 then .dishEntry
  else if n = 17 then .dishExit
  else if n = 18 then .dishDoor
  else .unused

/-- The code of a group or NONE. -/
def groupNumber (g : Option Nat) : Nat := g.getD 8

/-- The group of a code; 8 is NONE. -/
def groupFrom (n : Nat) : Option Nat := if n < 8 then some n else none

/-! ## Items (section 12.2, profile table of section 6.6) -/

/-- How an item's value is taken: a number with its range and default, or a choice with its greatest code and its default
(R88, R186). -/
inductive ItemSort where
  | number (lo hi dflt : Nat)
  | choice (top dflt : Nat)
deriving DecidableEq, Repr

/-- The default of a zone edge (section 7.1). -/
def edgeDefault : Nat → Nat
  | 0 => 300
  | 1 => 1800
  | 2 => 2000
  | 3 => 3000
  | _ => 3800

/-- The sort of an item, with a range that depends on another item taken against the stored profile; `none` names no
item. -/
def itemSort (p : Profile) (item element : Nat) : Option ItemSort :=
  match item with
  | 1 => some (.number 0 30 0)
  | 2 => some (.choice 1 0)
  | 3 => some (.choice 19 19)
  | 4 => some (.choice 4 0)
  | 5 => some (.number 0 7 element)
  | 6 => some (.number 1 400 100)
  | 7 => some (.number 0 2 0)
  | 8 => some (.number 50 1000 200)
  | 9 => some (.number 0 60 10)
  | 10 => some (.number 0 500 0)
  | 11 => some (.number 400 3500 2500)
  | 12 => some (.number 100 20000 4000)
  | 13 => some (.number 0 (p.feeder.limit / 2) 200)
  | 14 => some (.number 10 p.feeder.limit 1500)
  | 15 => some (.number 0 p.feeder.ceiling 300)
  | 16 => some (.choice 1 0)
  | 17 => some (.number 0 6000 (edgeDefault element))
  | 18 => some (.number 5 200 20)
  | 19 => some (.number 100 600 300)
  | 20 => some (.number 20 400 150)
  | 21 => some (.number 700 950 820)
  | 22 => some (.number 500 800 660)
  | 23 => some (.number 4 30 8)
  | 24 => some (.number 0 60 20)
  | 25 => some (.choice 1 0)
  | 26 => some (.number 1 600 120)
  | 27 => some (.number 300 1200 600)
  | 28 => some (.number 300 3600 1200)
  | 29 => some (.number 300 3600 900)
  | 30 => some (.choice 1 0)
  | 31 => some (.number 0 65535 0)
  | 32 => some (.choice 8 8)
  | 33 => some (.choice 1 1)
  | 34 => some (.choice 8 8)
  | 35 => some (.number 15 300 45)
  | 36 => some (.choice 8 8)
  | _ => none

/-- The range of an item's element; `none` where the element is ignored, for a station-wide item (section 12.2). -/
def elementRange (item : Nat) : Option (Nat × Nat) :=
  if item = 2 ∨ item = 3 then some (0, 5)
  else if (4 ≤ item ∧ item ≤ 11) ∨ (26 ≤ item ∧ item ≤ 28) then some (0, 7)
  else if item = 17 then some (0, 4)
  else if 31 ≤ item ∧ item ≤ 33 then some (0, 31)
  else if item = 34 then some (0, 7)
  else if item = 36 then some (1, 11)
  else none

/-- The item number names an item. -/
def isItem (item : Nat) : Bool := decide (1 ≤ item) && decide (item ≤ 36)

/-- Test 4 of R185 on an element: a station-wide item ignores it. -/
def elementHasValue (item : Nat) (e : Param) : Bool :=
  if isItem item ∧ elementRange item = none then true else hasValue e

/-- Test 5 of R185 on an element. -/
def elementWithin (item : Nat) (e : Param) : Bool :=
  match elementRange item with
  | some r => idWithin r.1 r.2 e
  | none => true

/-! ## Reading and writing (R68, R88) -/

/-- The stored value of an item (R88). -/
def readItem (p : Profile) (item element : Nat) : Nat :=
  let k := chanOf element
  let l : LineNo := Fin.ofNat 6 element
  let i : Fin 32 := Fin.ofNat 32 element
  match item with
  | 1 => p.stationId
  | 2 => bit p.lines[l].activeHigh
  | 3 => useNumber p.lines[l].use
  | 4 => kindNumber p.channels[k].kind
  | 5 => p.channels[k].sensor
  | 6 => p.channels[k].load
  | 7 => p.channels[k].baseClass
  | 8 => p.channels[k].band
  | 9 => p.channels[k].integralWindows
  | 10 => p.channels[k].rampStep
  | 11 => p.channels[k].highLimit
  | 12 => p.feeder.limit
  | 13 => p.feeder.margin
  | 14 => p.feeder.ceiling
  | 15 => p.feeder.allowance
  | 16 => bit p.dish.enable
  | 17 =>
    match element with
    | 0 => p.dish.a
    | 1 => p.dish.b
    | 2 => p.dish.c
    | 3 => p.dish.d
    | _ => p.dish.e
  | 18 => p.dish.perPulse
  | 19 => p.dish.topSpeed
  | 20 => p.dish.requestedDefault
  | 21 => p.dish.tsan
  | 22 => p.dish.twash
  | 23 => p.dish.dwellMin
  | 24 => p.dish.defaultPlates
  | 25 => bit p.dish.trace
  | 26 => p.warmers[k].capacity
  | 27 => p.warmers[k].tready
  | 28 => p.warmers[k].warmTime
  | 29 => p.preheatLead
  | 30 => bit p.radio
  | 31 => p.roster[i].address
  | 32 => groupNumber p.roster[i].group
  | 33 => bit p.roster[i].defaultDuty
  | 34 => groupNumber p.escalation[Fin.ofNat 8 element]
  | 35 => p.ackTime
  | 36 => groupNumber p.callMap[Fin.ofNat 11 (element - 1)]
  | _ => 0

/-- A write of C re-clamps A (R68). -/
def setCeiling (c : Nat) (f : FeederProfile) : FeederProfile :=
  { f with ceiling := c, allowance := clampNat 0 c f.allowance }

/-- A write of F re-clamps M, C and then A (R68). -/
def setLimit (n : Nat) (f : FeederProfile) : FeederProfile :=
  setCeiling (clampNat 10 n f.ceiling) { f with limit := n, margin := clampNat 0 (n / 2) f.margin }

/-- Change the items of one line. -/
def putLine (l : LineNo) (f : LineProfile → LineProfile) (p : Profile) : Profile :=
  { p with lines := p.lines.set l (f p.lines[l]) }

/-- Change the items of one heat channel. -/
def putChannel (k : Chan) (f : ChanProfile → ChanProfile) (p : Profile) : Profile :=
  { p with channels := p.channels.set k (f p.channels[k]) }

/-- Change the plate stock items of one channel. -/
def putWarmer (k : Chan) (f : WarmerProfile → WarmerProfile) (p : Profile) : Profile :=
  { p with warmers := p.warmers.set k (f p.warmers[k]) }

/-- Change one roster entry. -/
def putRoster (i : Fin 32) (f : RosterEntry → RosterEntry) (p : Profile) : Profile :=
  { p with roster := p.roster.set i (f p.roster[i]) }

/-- Change the dish line items. -/
def putDish (f : DishProfile → DishProfile) (p : Profile) : Profile := { p with dish := f p.dish }

/-- Store a zone edge (section 12.2). -/
def putEdge (element v : Nat) (d : DishProfile) : DishProfile :=
  match element with
  | 0 => { d with a := v }
  | 1 => { d with b := v }
  | 2 => { d with c := v }
  | 3 => { d with d := v }
  | _ => { d with e := v }

/-- Store the value `v` of an item, already clamped or chosen, with the re-clamping it brings (R68, R88). -/
def writeItem (item element v : Nat) (p : Profile) : Profile :=
  let k := chanOf element
  let l : LineNo := Fin.ofNat 6 element
  let i : Fin 32 := Fin.ofNat 32 element
  let on := decide (v = 1)
  match item with
  | 1 => { p with stationId := v }
  | 2 => putLine l (fun x => { x with activeHigh := on }) p
  | 3 => putLine l (fun x => { x with use := useFrom v }) p
  | 4 => putChannel k (fun x => { x with kind := kindFrom v }) p
  | 5 => putChannel k (fun x => { x with sensor := chanOf v }) p
  | 6 => putChannel k (fun x => { x with load := v }) p
  | 7 => putChannel k (fun x => { x with baseClass := v }) p
  | 8 => putChannel k (fun x => { x with band := v }) p
  | 9 => putChannel k (fun x => { x with integralWindows := v }) p
  | 10 => putChannel k (fun x => { x with rampStep := v }) p
  | 11 => putChannel k (fun x => { x with highLimit := v }) p
  | 12 => { p with feeder := setLimit v p.feeder }
  | 13 => { p with feeder := { p.feeder with margin := v } }
  | 14 => { p with feeder := setCeiling v p.feeder }
  | 15 => { p with feeder := { p.feeder with allowance := v } }
  | 16 => putDish (fun x => { x with enable := on }) p
  | 17 => putDish (putEdge element v) p
  | 18 => putDish (fun x => { x with perPulse := v }) p
  | 19 => putDish (fun x => { x with topSpeed := v }) p
  | 20 => putDish (fun x => { x with requestedDefault := v }) p
  | 21 => putDish (fun x => { x with tsan := v }) p
  | 22 => putDish (fun x => { x with twash := v }) p
  | 23 => putDish (fun x => { x with dwellMin := v }) p
  | 24 => putDish (fun x => { x with defaultPlates := v }) p
  | 25 => putDish (fun x => { x with trace := on }) p
  | 26 => putWarmer k (fun x => { x with capacity := v }) p
  | 27 => putWarmer k (fun x => { x with tready := v }) p
  | 28 => putWarmer k (fun x => { x with warmTime := v }) p
  | 29 => { p with preheatLead := v }
  | 30 => { p with radio := on }
  | 31 => putRoster i (fun x => { x with address := v }) p
  | 32 => putRoster i (fun x => { x with group := groupFrom v }) p
  | 33 => putRoster i (fun x => { x with defaultDuty := on }) p
  | 34 => { p with escalation := p.escalation.set (Fin.ofNat 8 element) (groupFrom v) }
  | 35 => { p with ackTime := v }
  | 36 => { p with callMap := p.callMap.set (Fin.ofNat 11 (element - 1)) (groupFrom v) }
  | _ => p

/-! ## PROFILE-PUT (R88) -/

/-- The value a PROFILE-PUT stores and whether it was clamped; `none` names no choice (R88, R186). -/
def itemValue (q : ItemSort) (v : Param) : Option (Nat × Bool) :=
  match q with
  | .number lo hi d => some (numeric lo hi d v)
  | .choice top d => (choice top d v).map (fun n => (n, false))

/-- The base class stored in UNJOINED is the effective class shown (R17). -/
def showBaseClass (k : Chan) (s : State) : State :=
  s.setHeat { s.heat with
    channels := s.heat.channels.set k { s.heat.channels[k] with effClass := s.profile.channels[k].baseClass } }

/-- An item stored in the profile (R88). -/
def storeItem (item element v : Nat) (s : State) : State :=
  doWhen (decide (item = 7)) (showBaseClass (chanOf element)) (s.setProfile (writeItem item element v s.profile))

/-- The value's part of tests 4 to 6 (R185): an item number that names no item has no choice to check. -/
def putValue (item : Nat) (e v : Param) (s : State) : Option (Nat × Bool) :=
  match itemSort s.profile item (idValue e) with
  | some q => itemValue q v
  | none => some (0, false)

/-- PROFILE-PUT (R88). -/
def profilePutCommand (p : List Word) (s : State) : Except Reason Done :=
  match p with
  | [i, e, vh, vl] =>
    let item := idValue (narrow i)
    let r := putValue item (narrow e) (wide vh vl) s
    checked (stageOk .unjoinedOnly s.life.station)
      (hasValue (narrow i) && elementHasValue item (narrow e) && r.isSome)
      (isItem item && elementWithin item (narrow e))
      (accepted (storeItem item (idValue (narrow e)) (r.getD (0, false)).1 s) (r.getD (0, false)).2)
  | _ => .error .malformed

/-- The meaning of PROFILE_PUT (R88). -/
def execProfilePut (p : List Word) (s : State) : Out := panel 2 (profilePutCommand p) s

end Sys2Proof.Machine
end

