-- ==== Sys2Proof/Machine/Port.lean ====
section
/-! DEFINITION. The panel port (chapter 11): transactions, records that are not carried out, NOTHING, the snapshots of
QUERY and READ-REPORT. -/

namespace Sys2Proof.Machine

/-! ## Transactions (R182, R183) -/

/-- Change the transaction on the port. -/
def setTransaction (t : Transaction) (s : State) : State := s.setPort { s.port with transaction := t }

/-- The meaning of TRANSACTION_START (R183): the status byte is formed now; in reset the transaction is discarded whole. -/
def execTransactionStart (s : State) : Out :=
  .next (setTransaction (if awake s then .running (statusByte s) else .dead) s)

/-- A transaction ends, and `f` is the reply of what it carried unless the port discards it (R182). -/
def endWith (f : State → State) (s : State) : Out :=
  .next (if portDeaf s then endTransaction s else f (endTransaction s))

/-- The meaning of INCOMPLETE_COMMAND (R182). -/
def execIncompleteCommand (code : Option Byte) (s : State) : Out :=
  endWith (setReply (.refused ((code.map (fun c => c.toNat)).getD 0) .malformed)) s

/-- The meaning of STATUS_ONLY_END (R182). -/
def execStatusOnlyEnd (s : State) : Out := .next (endTransaction s)

/-- The meaning of UNKNOWN_COMMAND (R185). -/
def execUnknownCommand (code : Byte) (s : State) : Out := endWith (setReply (.refused code.toNat .unknown)) s

/-- NOTHING puts NONE in the reply slot (R184). -/
def nothingCommand (p : List Word) (s : State) : State :=
  match p with
  | [] => setReply .none s
  | _ => setReply (.refused 0 .malformed) s

/-- The meaning of NOTHING (R184). -/
def execNothing (p : List Word) (s : State) : Out := endWith (nothingCommand p) s

/-! ## Snapshots (R189 and the owning chapters) -/

/-- The number of STALE or of LIVE entries (R67). -/
def countPeers (stale : Bool) (ps : List Peer) : Nat := (ps.filter (fun p => decide (p.stale = stale))).length

/-- The STATION snapshot (R189). -/
def stationSnapshot (s : State) : StationSnapshot :=
  { station := s.life.station, joinNumber := s.life.joinNumber, clock := s.life.clock, stationId := ownId s,
    listenLeft := s.share.listen.getD 0, grant := s.share.grant, asks := s.share.asks, ceilingCut := s.share.ceilingCut,
    drawing := s.share.drawing, shares := s.share.shares, limit := s.share.limit, epoch := s.life.joinNumber,
    nextSequence := s.share.nextSequence, unacked := s.share.unacked, chargesSum := chargesSum s.heat.channels,
    windowPhase := s.heat.window.phase, queued := occupied s.bus, onLine := s.bus.onLine.isSome,
    live := countPeers false s.peers, stale := countPeers true s.peers, holds := s.stock.holds.length,
    stockChanged := s.stock.changed, waves := s.waves.length, calls := s.paging.calls.length,
    radioUp := if s.profile.radio then some s.paging.radioUp else none, failures := s.paging.failures,
    paged := s.paging.queue.length, modemWaits := s.paging.modem.isSome,
    allCall := s.paging.allCall.map allCallSeconds, reports := s.port.reports.length, gap := s.port.gap }

/-- The CHANNEL snapshot (R40). -/
def channelSnapshot (s : State) (k : Chan) : ChannelSnapshot :=
  let c := s.heat.channels[k]
  { channel := k, kind := s.profile.channels[k].kind, state := c.state, integral := c.integral, demand := c.demand,
    duty := c.duty, charge := c.charge, onTime := c.onTime, served := c.served, doorFlag := c.doorFlag,
    effClass := c.effClass, want := c.want, sensor := s.profile.channels[k].sensor, reading := reading s k,
    faulted := flagged s k }

/-- The stock part as a PEER snapshot shows it (R67). -/
def stockView (t : StockPart) : StockView := { warmers := t.warmers, clean := t.clean, age := t.age / 1000 }

/-- An entry as a PEER snapshot shows it (R67); its silent time is 0..9 (R55). -/
def peerView (p : Peer) : PeerView :=
  { stale := p.stale, epoch := p.epoch, sequence := p.sequence, silent := min 9 (p.silence / 1000), asks := p.asks,
    drawing := p.drawing, stock := p.stock.map stockView }

/-- The dish part of a dish snapshot (R123). -/
def dishView (s : State) : DishView :=
  let p := s.profile.dish
  let d := s.dish
  { enable := p.enable, mode := d.mode, holds := d.holds, racks := d.racks.length, atExit := d.atExit, tag := d.tag,
    clean := d.clean, requested := d.requested, effective := effectiveSpeed p d.requested,
    level := speedLevel p d.requested, running := convRun s, pulseAge := s.pulseAge, rinseTime := d.rinseTime / 1000,
    idleTime := d.idleTime / 1000, jamTimer := d.jamTimer, nextNumber := d.nextNumber }

/-- A rack with its midpoint (R123). -/
def rackView (r : Rack) : RackView := { rack := r, midpoint := midpoint r }

/-- The rack of a TRACE index: a queue position, or the last-rack record at 12 (R123). -/
def traceRack (d : Dish) (i : Nat) : Option Rack := if i = 12 then d.lastRack else d.racks[i]?

/-- The stock of a WARMER channel (R144). -/
def warmerView (s : State) (k : Chan) : WarmerView :=
  let w := s.stock.warmers[k]
  { profile := s.profile.warmers[k], doorOpen := w.doorOpen, cooling := w.cooling,
    loads := w.loads.map (fun l => { load := l, ready := loadReady s.profile k l }), loaded := loadedCount w.loads,
    ready := readyCount s.profile s.stock k, held := heldCount s.stock k,
    available := availableCount s.profile s.stock k, tags := (holdsOn s.stock k).map (fun h => h.tag) }

/-- A hold with its place in the grant order, 1 for the oldest (R144). -/
def holdView (hs : List Hold) (tag : Nat) : Option HoldView :=
  (hs.find? (fun h => decide (h.tag = tag))).map (fun h =>
    { asker := h.asker, wave := h.wave, channel := h.channel, count := h.count, remaining := ceilDiv h.remaining 1000,
      place := hs.findIdx (fun x => decide (x.tag = tag)) + 1 })

/-- A wave with the needs its sources would have, and whether it is covered (R160). -/
def waveView (w : Wave) : WaveView :=
  { wave := w, need1 := need1 w, need2 := w.src2.map (fun _ => need2 w), covered := covered w }

/-- A roster entry (R180); a station without a radio shows it as profiled (R188). -/
def pagerView (s : State) (i : Fin 32) : PagerView :=
  let r := s.profile.roster[i]
  { address := r.address, group := r.group, duty := if s.profile.radio then s.paging.duty[i] else r.defaultDuty,
    isPointer := match r.group with
      | some g => decide (s.paging.pointer.toList.getD g none = some i)
      | none => false }

/-- The snapshot of a kind at an index and element that have passed test 5 (R188). -/
def snapshotOf (kind index element : Nat) (s : State) : Snapshot :=
  let k := chanOf index
  match kind with
  | 0 => .station (stationSnapshot s)
  | 1 => .channel (channelSnapshot s k)
  | 2 => .peer index ((s.peers.find? (fun p => decide (p.id = index))).map peerView)
  | 3 => .rack (dishView s) index (s.dish.racks[index]?.map rackView)
  | 4 => .lastRack (dishView s) (s.dish.lastRack.map rackView)
  | 5 => .trace (dishView s) index ((traceRack s.dish index).map (fun r => r.trace))
  | 6 => .stock k s.profile.channels[k].kind
      (if s.profile.channels[k].kind = .warmer then some (warmerView s k) else none)
  | 7 => .hold index (holdView s.stock.holds index)
  | 8 => .wave index ((s.waves.find? (fun w => decide (w.number = index))).map waveView)
  | 9 => .call index s.paging.calls[index]?
  | 10 => .paged index s.paging.queue[index]?
  | 11 => .pager index (pagerView s (Fin.ofNat 32 index))
  | _ => .profile index element (readItem s.profile index element)

/-! ## QUERY (R188) -/

/-- The range of the index of a kind; `none` where the index is ignored (R188). -/
def indexRange : Nat → Option (Nat × Nat)
  | 1 => some (0, 7)
  | 2 => some (1, 30)
  | 3 => some (0, 11)
  | 5 => some (0, 12)
  | 6 => some (0, 7)
  | 7 => some (0, 15)
  | 8 => some (1, 255)
  | 9 => some (0, 15)
  | 10 => some (0, 23)
  | 11 => some (0, 31)
  | 12 => some (1, 36)
  | _ => none

/-- Test 4 of R185 on the index and element of a QUERY: what the kind ignores is not examined (R188). Of a kind that names
no snapshot the index is seen as an identifier and the element is not examined (DEDUCED, log entry 15). -/
def queryTokens (kind : Nat) (i e : Param) : Bool :=
  if kind = 0 ∨ kind = 4 then true
  else if kind = 12 then hasValue i && elementHasValue (idValue i) e
  else hasValue i

/-- Test 5 of R185 on a QUERY (R188). -/
def queryRanges (kind : Nat) (i e : Param) : Bool :=
  decide (kind ≤ 12) &&
    (match indexRange kind with
     | some r => idWithin r.1 r.2 i
     | none => true) &&
    (decide (kind ≠ 12) || elementWithin (idValue i) e)

/-- QUERY (R188). -/
def queryCommand (p : List Word) (s : State) : Except Reason Done :=
  match p with
  | [k, i, e] =>
    let kind := idValue (narrow k)
    checked (stageOk .any s.life.station) (hasValue (narrow k) && queryTokens kind (narrow i) (narrow e))
      (queryRanges kind (narrow i) (narrow e))
      (.ok { state := s, clamped := false,
             result := .snapshot (snapshotOf kind (idValue (narrow i)) (idValue (narrow e)) s) })
  | _ => .error .malformed

/-- The meaning of QUERY (R188). -/
def execQuery (p : List Word) (s : State) : Out := panel 6 (queryCommand p) s

/-! ## READ-REPORT (R191) -/

/-- The oldest report leaves the queue with GAP as it stands; an empty queue answers EMPTY (R191). -/
def takeReport (s : State) : Except Reason Done :=
  match s.port.reports with
  | r :: rs =>
    .ok { state := s.setPort { s.port with reports := rs, gap := false }, clamped := false,
          result := .report s.port.gap (some r) }
  | [] => .ok { state := s, clamped := false, result := .report false none }

/-- READ-REPORT (R191). -/
def readReportCommand (p : List Word) (s : State) : Except Reason Done := plain .any p s (takeReport s)

/-- The meaning of READ_REPORT (R191). -/
def execReadReport (p : List Word) (s : State) : Out := panel 7 (readReportCommand p) s

end Sys2Proof.Machine
end

