-- ==== Sys2Proof/Machine/Clock.lean ====
section
/-! DEFINITION. Time. With no command waiting the station lets its clocks run: one millisecond passes when no event of a
clock or timer stands to be taken, and otherwise the first such event becomes the waiting command (log entry 1). A sweep
completion brings its conversions from outside, so the station waits for it (log entry 47). -/

namespace Sys2Proof.Machine

/-! ## One millisecond of each block -/

/-- A periodic clock of this period, in milliseconds: at its moment it is due, and its event starts the phase afresh
(R40). -/
def PeriodClock.tickOf (period : Nat) (c : PeriodClock) : PeriodClock :=
  if c.running = false then c
  else if period ≤ c.phase + 1 then { c with due := true }
  else { c with phase := c.phase + 1 }

/-- A timer that counts down while it runs. -/
def countDown (t : Option Nat) : Option Nat := t.map (fun n => n - 1)

/-- The debounce of a line (R6). -/
def tickLine (l : Line) : Line := { l with debounce := countDown l.debounce }

/-- The served time of a channel counts while its heater is on, up to its on-time (R30). -/
def tickChannel (c : Channel) : Channel := if c.heater && decide (c.served < c.onTime) then { c with served := c.served + 1 } else c

/-- The heat channels and the window clock (R23, R30). -/
def tickHeat (h : Heat) : Heat :=
  { h with channels := h.channels.map tickChannel, window := h.window.tickOf Config.windowMs }

/-- The silence timer and the stock age of a peer entry (R60, R65). -/
def tickPeer (p : Peer) : Peer :=
  { p with
    silence := min Config.removeMs (p.silence + 1)
    stock := p.stock.map (fun t => { t with age := min Config.stockAgeMs (t.age + 1) }) }

/-- The tick clock and the listening timer (R70, R79). -/
def tickShare (u : Share) : Share := { u with tick := u.tick.tickOf Config.tickMs, listen := countDown u.listen }

/-- The times of the dish line: of the RINSE hold, of an empty queue in mode ON, and of a conveyor that runs (R106, R115,
R116). -/
def tickDish (d : Dish) : Dish :=
  { d with
    rinseTime := if d.holds.rinse then min Config.rinseMaxMs (d.rinseTime + 1) else d.rinseTime
    idleTime := if d.mode = .on ∧ d.racks = [] then min Config.idleMs (d.idleTime + 1) else d.idleTime
    jamTimer := if conveyorRuns d then min Config.jamMs (d.jamTimer + 1) else d.jamTimer }

/-- The stock tick and the remaining times of the holds (R137, R141). -/
def tickStock (t : Stock) : Stock :=
  { t with
    tick := t.tick.tickOf Config.stockTickMs
    holds := t.holds.map (fun h => { h with remaining := h.remaining - 1 }) }

/-- The answer timer of a source (R154). -/
def tickSource (r : Source) : Source :=
  match r.hold with
  | .asked n b => { r with hold := .asked (n - 1) b }
  | _ => r

/-- The answer, check and cook timers of a wave (R150, R154). -/
def tickWave (w : Wave) : Wave :=
  { w with
    src1 := tickSource w.src1
    src2 := w.src2.map tickSource
    check := if asking w.state then countDown w.check else w.check
    cookMs := if w.state = .cooking then w.cookMs - 1 else w.cookMs }

/-- The busy and ack timers of a queued call (R170, R174). -/
def tickPaged (c : Paged) : Paged := { c with busyTimer := countDown c.busyTimer, ackTimer := countDown c.ackTimer }

/-- The all-call's time and the time to its next record (R178, R179). -/
def tickAll (a : AllCall) : AllCall := { a with left := a.left - 1, timer := a.timer - 1 }

/-- The timers of the paging unit (R164, R170, R178). -/
def tickPaging (g : Paging) : Paging :=
  { g with
    calls := g.calls.map (fun c => { c with timer := countDown c.timer })
    queue := g.queue.map tickPaged
    modem := g.modem.map (fun m => { m with timer := countDown m.timer })
    allCall := g.allCall.map tickAll }

/-- One millisecond out of reset, for every block. -/
def passTime (s : State) : State :=
  { s with
    life := { s.life with second := s.life.second.tickOf Config.secondMs }
    scan := { s.scan with phase := min Config.sweepMs (s.scan.phase + 1) }
    lines := s.lines.map tickLine
    pulseAge := min Config.pulseAgeMax (s.pulseAge + 1)
    heat := tickHeat s.heat
    bus := { s.bus with leaveTimer := s.bus.leaveTimer.map (fun n => n + 1) }
    peers := s.peers.map tickPeer
    share := tickShare s.share
    dish := tickDish s.dish
    stock := tickStock s.stock
    waves := s.waves.map tickWave
    paging := tickPaging s.paging }

/-- One millisecond: in reset only the 10 ms of RESTART run (R87). -/
def advance (s : State) : State :=
  match s.resetting with
  | .no => passTime s
  | .pin => s
  | .restart n => s.setResetting (.restart (n - 1))

/-! ## Events that stand to be taken -/

/-- A command when its event stands to be taken. -/
def dueOf (b : Bool) (i : Instr) : List Instr := if b then [i] else []

/-- The clocks and timers of the heat channels and the share unit. -/
def dueSharing (s : State) : List Instr :=
  dueOf s.heat.window.due .windowStart ++
    ((List.finRange 8).filter (fun k => onTimeOver k s)).map Instr.onTimeEnd ++
    dueOf (listenOver s) .listeningTimerExpiry ++ dueOf s.share.tick.due .announceTick

/-- The timers of the peer table. -/
def duePeers (s : State) : List Instr :=
  ((s.peers.map (fun p => p.id)).filter (fun n => removeDue n s)).map Instr.silenceRemove ++
    ((s.peers.map (fun p => p.id)).filter (fun n => staleDue n s)).map Instr.silenceStale ++
    ((s.peers.map (fun p => p.id)).filter (fun n => stockAgeDue n s)).map Instr.stockAgeExpiry

/-- The timers of the dish line. -/
def dueDish (s : State) : List Instr :=
  dueOf (jamDue s) .jamTimerExpiry ++ dueOf (rinseDue s) .rinseHoldTimeExpiry ++ dueOf (idleDue s) .idleTimeExpiry

/-- The clock and timers of the plate stock unit. -/
def dueStock (s : State) : List Instr :=
  dueOf s.stock.tick.due .stockTick ++
    ((List.finRange 8).filter (fun k => coolingDue k s)).map Instr.coolingReset ++
    ((s.stock.holds.map (fun h => h.tag)).filter (fun n => holdOver n s)).map Instr.holdExpiry

/-- The service clock and the timers of the waves. -/
def dueWaves (s : State) : List Instr :=
  dueOf s.life.second.due .clockSecond ++
    (s.waves.map (fun w => w.number)).flatMap (fun n =>
      dueOf (cookDue n s) (.cookTimer n) ++ dueOf (answerLate n false s) (.answerTimerExpiry n false) ++
        dueOf (answerLate n true s) (.answerTimerExpiry n true) ++ dueOf (checkDue n s) (.askCheck n))

/-- The timers of the paging unit. -/
def duePaging (s : State) : List Instr :=
  dueOf (allCallOver s) .allCallExpiry ++ dueOf (resultLate s) .resultTimeout ++
    ((s.paging.calls.map (fun c => c.number)).filter (fun n => broadcastDue n s)).map Instr.broadcastTimerExpiry ++
    ((s.paging.queue.map (fun c => c.tag)).filter (fun n => busyDue n s)).map Instr.busyTimerExpiry ++
    ((s.paging.queue.map (fun c => c.tag)).filter (fun n => ackDue n s)).map Instr.ackTimerExpiry ++
    dueOf (allDue s) .allRecordDue

/-- A head frame that a stuck line ends at once (R46). -/
def stuckHead (s : State) : Bool := sends s && s.bus.stuck && s.bus.onLine.isNone && !s.bus.waiting.isEmpty

/-- Every event that stands to be taken out of reset, in the order in which the model takes them. -/
def dueEvents (s : State) : List Instr :=
  ((List.finRange 6).filter (fun l => edgeDue l s)).map Instr.lineEdge ++ dueSharing s ++ duePeers s ++ dueDish s ++
    dueStock s ++ dueWaves s ++ duePaging s ++ dueOf (stuckHead s) .frameStart ++
    dueOf (leavingLate s) .leavingAnnounceTimeout

/-- The event to be taken next, if one stands (log entry 1). -/
def nextDue (s : State) : Option Instr :=
  match s.resetting with
  | .no => (dueEvents s).head?
  | .pin => none
  | .restart n => if n = 0 then some .restartRelease else none

/-- A sweep completion stands to be taken: its conversions come from outside, and no time passes before it (R1, log entry
47). -/
def waitsForSweep (s : State) : Bool := awake s && sweepDue s

/-- What the station does with no command waiting (log entries 1 and 47). -/
def idle (s : State) : State :=
  match nextDue s with
  | some i => s.setPending [i]
  | none => if waitsForSweep s then s else advance s

end Sys2Proof.Machine
end

