-- ==== Sys2Proof/Machine/Layouts.lean ====
section
/-! DEFINITION. The byte layouts of chapter 12: Passline frames with their check word and the outcome of a received frame
(R43, R50, R193), command, reply and report records of the panel port, and the records of the modem line (R194). -/

namespace Sys2Proof.Machine

/-! ## Bytes -/

/-- A one-byte field. -/
def byteOf (n : Nat) : Byte := BitVec.ofNat 8 n

/-- A two-byte field, most significant byte first. -/
def twoBytes (n : Nat) : List Byte := [byteOf (n / 256), byteOf n]

/-- The number of two bytes, most significant first. -/
def joinBytes (hi lo : Byte) : Nat := hi.toNat * 256 + lo.toNat

/-- The sum of bytes mod 65,536 (R193, R194). -/
def checkSum (bs : List Byte) : Nat := (bs.map (fun b => b.toNat)).sum % 65536

/-- Bytes followed by their check word, upper byte first (R193). -/
def withCheck (bs : List Byte) : List Byte := bs ++ twoBytes (checkSum bs)

/-! ## Passline frames (section 12.1) -/

/-- One warmer entry of a STOCK body. -/
def entryBytes (e : StockEntry) : List Byte := byteOf e.channel :: (twoBytes e.ready ++ twoBytes e.available)

/-- The clean-awaiting field of a STOCK body, if it is present. -/
def cleanBytes (c : Option Nat) : List Byte :=
  match c with
  | some n => twoBytes n
  | none => []

/-- The body of a frame (section 12.1). -/
def bodyBytes : Frame → List Byte
  | .announce b =>
    [byteOf b.epoch, byteOf b.sequence] ++ twoBytes b.asks.c3 ++ twoBytes b.asks.c2 ++ twoBytes b.asks.c1 ++
      twoBytes b.asks.c0 ++ twoBytes b.drawing ++ [byteOf (bit b.leaving)]
  | .pageCall b => [byteOf b.number, byteOf b.reason] ++ twoBytes b.subject ++ [byteOf b.group, byteOf b.urgency]
  | .pageState b =>
    [byteOf b.origin, byteOf b.number, byteOf b.reason] ++ twoBytes b.subject ++ [byteOf b.outcome] ++
      twoBytes b.detail
  | .pageCancel n => [byteOf n]
  | .holdAsk b => [byteOf b.target, byteOf b.wave, byteOf b.channel] ++ twoBytes b.count ++ twoBytes b.duration
  | .holdAnswer b =>
    [byteOf b.target, byteOf b.wave, byteOf b.channel, byteOf b.result] ++ twoBytes b.count ++ [byteOf b.tag]
  | .holdState b =>
    [byteOf b.target, byteOf b.tag, byteOf b.wave, byteOf b.channel, byteOf b.cause] ++ twoBytes b.count
  | .holdFree b => [byteOf b.target, byteOf b.tag, byteOf b.wave, byteOf b.channel]
  | .stock b =>
    [byteOf b.warmers.length, byteOf (bit b.clean.isSome)] ++ cleanBytes b.clean ++ b.warmers.flatMap entryBytes

/-- The arbitration byte (section 3.1). -/
def arbitration (sender : Nat) (f : Frame) : Nat := priority f * 32 + sender

/-- The header of a frame: arbitration, kind and length (section 3.1). -/
def headerBytes (sender : Nat) (f : Frame) : List Byte :=
  [byteOf (arbitration sender f), byteOf (kindCode f), byteOf (bodyBytes f).length]

/-- A whole frame, up to its acknowledge slot (section 3.1, R193). -/
def frameBytes (sender : Nat) (f : Frame) : List Byte := withCheck (headerBytes sender f ++ bodyBytes f)

/-- What the station sends: the bytes of its frame on the line (R42, R47). -/
def lineBytes (s : State) : Option (List Byte) := s.bus.onLine.map (fun e => frameBytes e.sender e.frame)

/-- The warmer entries of a STOCK body. -/
def readEntries : List Byte → List StockEntry
  | c :: r1 :: r0 :: a1 :: a0 :: rest => ⟨c.toNat, joinBytes r1 r0, joinBytes a1 a0⟩ :: readEntries rest
  | _ => []

/-- A STOCK body, when its length matches its first two bytes and it lists at most eight warmers (R50). -/
def readStock (n flags : Byte) (rest : List Byte) : Option Frame :=
  if 8 < n.toNat then none
  else if flags.toNat % 2 = 1 then
    match rest with
    | h :: l :: es =>
      if es.length = 5 * n.toNat then some (.stock { clean := some (joinBytes h l), warmers := readEntries es })
      else none
    | _ => none
  else if rest.length = 5 * n.toNat then some (.stock { clean := none, warmers := readEntries rest })
  else none

/-- The frame of a kind code and a body; `none` for an unknown kind and for a length that is not the kind's (R50,
section 12.1). -/
def readBody (kind : Nat) (body : List Byte) : Option Frame :=
  match kind, body with
  | 1, [e, q, a1, a0, b1, b0, c1, c0, d1, d0, w1, w0, fl] =>
    some (.announce { epoch := e.toNat, sequence := q.toNat, asks := ⟨joinBytes a1 a0, joinBytes b1 b0, joinBytes c1 c0, joinBytes d1 d0⟩, drawing := joinBytes w1 w0, leaving := decide (fl.toNat % 2 = 1) })
  | 2, [n, r, s1, s0, g, u] =>
    some (.pageCall { number := n.toNat, reason := r.toNat, subject := joinBytes s1 s0, group := g.toNat, urgency := u.toNat })
  | 3, [o, n, r, s1, s0, t, d1, d0] =>
    some (.pageState { origin := o.toNat, number := n.toNat, reason := r.toNat, subject := joinBytes s1 s0, outcome := t.toNat, detail := joinBytes d1 d0 })
  | 4, [n] => some (.pageCancel n.toNat)
  | 5, [t, w, c, n1, n0, d1, d0] =>
    some (.holdAsk { target := t.toNat, wave := w.toNat, channel := c.toNat, count := joinBytes n1 n0, duration := joinBytes d1 d0 })
  | 6, [t, w, c, r, n1, n0, g] =>
    some (.holdAnswer { target := t.toNat, wave := w.toNat, channel := c.toNat, result := r.toNat, count := joinBytes n1 n0, tag := g.toNat })
  | 7, [t, g, w, c, z, n1, n0] =>
    some (.holdState { target := t.toNat, tag := g.toNat, wave := w.toNat, channel := c.toNat, cause := z.toNat, count := joinBytes n1 n0 })
  | 8, [t, g, w, c] =>
    some (.holdFree { target := t.toNat, tag := g.toNat, wave := w.toNat, channel := c.toNat })
  | 9, n :: fl :: rest => readStock n fl rest
  | _, _ => none

/-- The command a received frame of a known kind is. -/
def frameCommand (sender : Nat) : Frame → Instr
  | .announce b => .announce sender b
  | .pageCall b => .pageCall sender b
  | .pageState b => .pageState sender b
  | .pageCancel n => .pageCancel sender n
  | .holdAsk b => .holdAsk sender b
  | .holdAnswer b => .holdAnswer sender b
  | .holdState b => .holdState sender b
  | .holdFree b => .holdFree sender b
  | .stock b => .stock sender b

/-- The command that a frame's bytes are at a receiver whose identifier is `own`, by the outcomes of R43 in their order
and then R52 and R50. -/
def receivedCommand (own : Nat) (bytes : List Byte) : Instr :=
  match bytes with
  | arb :: kind :: len :: rest =>
    if Config.maxBody < len.toNat ∨ rest.length < len.toNat + 2 then .badFrame bytes
    else
      let body := rest.take len.toNat
      if (rest.drop len.toNat).take 2 ≠ twoBytes (checkSum (arb :: kind :: len :: body)) then .badFrame bytes
      else
        let sender := arb.toNat % 32
        if badSender sender then .badFrame bytes
        else if sender = own then .duplicateId kind.toNat
        else
          match readBody kind.toNat body with
          | some f => frameCommand sender f
          | none => .frameMismatch bytes
  | _ => .badFrame bytes

/-! ## Command records of the panel port (sections 11.5 and 12.2) -/

/-- The parameter words of a command record. -/
def readWords : List Byte → List Word
  | h :: l :: rest => BitVec.ofNat 16 (joinBytes h l) :: readWords rest
  | _ => []

/-- The command of a code of the catalogue (section 11.5); any other code is UNKNOWN (R185). -/
def codeCommand (code : Byte) (p : List Word) : Instr :=
  match code.toNat with
  | 0 => .nothing p
  | 1 => .restart p
  | 2 => .profilePut p
  | 3 => .join p
  | 4 => .leave p
  | 5 => .setClock p
  | 6 => .query p
  | 7 => .readReport p
  | 16 => .heat p
  | 17 => .heatOff p
  | 18 => .channelClear p
  | 32 => .dishOn p
  | 33 => .dishOff p
  | 34 => .dishSpeed p
  | 35 => .dishResume p
  | 36 => .nextRack p
  | 37 => .pickup p
  | 48 => .load p
  | 49 => .take p
  | 64 => .wavePlan p
  | 65 => .waveFire p
  | 66 => .wavePlate p
  | 67 => .waveClose p
  | 68 => .waveCancel p
  | 80 => .page p
  | 81 => .callEnd p
  | 82 => .duty p
  | 83 => .allCall p
  | 84 => .allCallEnd p
  | _ => .unknownCommand code

/-- The command that ends a transaction in which these bytes followed the first (R182). -/
def transactionCommand (bytes : List Byte) : Instr :=
  match bytes with
  | [] => .statusOnlyEnd
  | [c] => .incompleteCommand (some c)
  | c :: n :: rest =>
    if rest.length < 2 * n.toNat then .incompleteCommand (some c)
    else codeCommand c (readWords (rest.take (2 * n.toNat)))

/-! ## Reply and report records (section 12.2) -/

/-- The code of a refusal reason. -/
def refusalCode : Reason → Nat
  | .unknown => 1
  | .malformed => 2
  | .stage => 3
  | .noSuch => 4
  | .wrongKind => 5
  | .busy => 6
  | .full => 7
  | .state => 8
  | .condition _ => 9

/-- Bytes 0 to 2 of a reply record. -/
def replyHeader : Reply → List Byte
  | .none => [byteOf 255, byteOf 0, byteOf 0]
  | .done code clamped _ => [byteOf code, byteOf (if clamped then 2 else 1), byteOf 0]
  | .refused code r => [byteOf code, byteOf 3, byteOf (refusalCode r)]

/-- The code of a report kind. -/
def reportKind : ReportBody → Nat
  | .station .. => 1
  | .trip .. => 2
  | .overdrawn .. => 3
  | .line _ => 4
  | .peer .. => 5
  | .rack _ => 6
  | .missed _ => 7
  | .stray _ => 8
  | .cooled .. => 9
  | .wave .. => 10
  | .call .. => 11
  | .radio _ => 12
  | .allCallEnded _ => 13

/-- Bytes 0 to 4 of a report record: kind, flags and service clock. -/
def reportHeader (gap : Bool) (r : Option Report) : List Byte :=
  match r with
  | some x =>
    [byteOf (reportKind x.body), byteOf (bit gap), byteOf (x.clock / 65536), byteOf (x.clock / 256), byteOf x.clock]
  | none => [byteOf 0, byteOf (bit gap + 2), byteOf 0, byteOf 0, byteOf 0]

/-- The body of a report record: its layout is the free value of log entry 42, its length stays within the result's. -/
def reportBytes (r : Option Report) : List Byte :=
  match r with
  | some x => (Config.layoutOf x.body).take (Config.maxResult - 6)
  | none => []

/-- A whole report record: its header, the body length and the body (section 12.2). -/
def reportRecord (gap : Bool) (r : Option Report) : List Byte :=
  reportHeader gap r ++ byteOf (reportBytes r).length :: reportBytes r

/-- The result bytes of a reply: a report record as section 12.2 gives it, nothing where there is no result, and any other
content in the layout of log entry 42, within 200 bytes. -/
def resultBytes : Reply → List Byte
  | .done _ _ .none => []
  | .done _ _ (.report gap r) => reportRecord gap r
  | .done _ _ r => (Config.layoutOf r).take Config.maxResult
  | .refused _ (.condition (some x)) => (Config.layoutOf x).take Config.maxResult
  | _ => []

/-- A whole reply record: code, form, reason, result length and result (section 12.2). -/
def replyRecord (r : Reply) : List Byte := replyHeader r ++ byteOf (resultBytes r).length :: resultBytes r

/-- Byte `n` that the port clocks out, counted from 0 at the start of the transaction: first the status byte, then the reply
record of the reply slot byte by byte, then 0; and 0 for every byte during reset (R182, R183). DESIGN CHOICE: 0 as well,
after reset release, for the rest of a transaction that the reset has caught (log entry 55). -/
def byteOut (s : State) (n : Nat) : Byte :=
  match s.port.transaction with
  | .running b =>
    if awake s then
      match n with
      | 0 => b
      | k + 1 => (replyRecord s.port.reply).getD k 0
    else 0
  | _ => 0

/-! ## The modem line (R194, section 12.3) -/

/-- Type and fields of an outbound record. -/
def recordFields : OutRecord → List Byte
  | .send tag address reason subject urgency =>
    [byteOf 1, byteOf tag] ++ twoBytes address ++ [byteOf reason] ++ twoBytes subject ++ [byteOf urgency]
  | .all mask seconds => [byteOf 2, byteOf mask, byteOf seconds]

/-- A whole outbound record (R194). -/
def recordBytes (r : OutRecord) : List Byte :=
  byteOf 126 :: withCheck (byteOf (recordFields r).length :: recordFields r)

/-- The length that an inbound record of a type has; `none` for an unknown type (section 12.3). -/
def inboundLength : Nat → Option Nat
  | 3 => some 3
  | 4 => some 4
  | 5 => some 4
  | 6 => some 1
  | _ => none

/-- The command of an inbound record's type and fields; a RESULT or DUTY code that the layout does not list is discarded
(log entry 30). -/
def inboundCommand (type : Nat) (fields : List Byte) : Instr :=
  match type, fields with
  | 3, [t, r] =>
    match r.toNat with
    | 0 => .result t.toNat .sent
    | 1 => .result t.toNat .busy
    | 2 => .result t.toNat .fault
    | _ => .modemRecordDiscarded .unknownType
  | 4, [a1, a0, t] => .ack (joinBytes a1 a0) t.toNat
  | 5, [a1, a0, d] =>
    match d.toNat with
    | 0 => .dutyRecord (joinBytes a1 a0) false
    | 1 => .dutyRecord (joinBytes a1 a0) true
    | _ => .modemRecordDiscarded .unknownType
  | 6, [] => .ready
  | _, _ => .modemRecordDiscarded .wrongLength

/-- The command that the bytes collected after a start byte are, from the length byte on (R194). -/
def recordCommand (bytes : List Byte) : Instr :=
  match bytes with
  | len :: type :: rest =>
    match inboundLength type.toNat with
    | none => .modemRecordDiscarded .unknownType
    | some n =>
      if len.toNat ≠ n then .modemRecordDiscarded .wrongLength
      else if (rest.drop (n - 1)).take 2 ≠ twoBytes (checkSum (len :: type :: rest.take (n - 1))) then
        .modemRecordDiscarded .checkDiffers
      else inboundCommand type.toNat (rest.take (n - 1))
  | _ => .modemRecordDiscarded .wrongLength

end Sys2Proof.Machine
end

