-- ==== Sys2Proof/Machine/Dispatch.lean ====
section
/-! DEFINITION. One arm for each command: what it does to everything but the queue. -/

namespace Sys2Proof.Machine

/-- The effect of a command on the station. -/
def exec (i : Instr) (s : State) : Host.Outcome State Fault Refusal :=
  match i with
  | .resetAssert => Sys2Proof.Machine.execResetAssert s
  | .resetRelease => Sys2Proof.Machine.execResetRelease s
  | .restart p => Sys2Proof.Machine.execRestart p s
  | .restartRelease => Sys2Proof.Machine.execRestartRelease s
  | .sweepCompletion c => Sys2Proof.Machine.execSweepCompletion c s
  | .linePinChange l high => Sys2Proof.Machine.execLinePinChange l high s
  | .lineEdge l => Sys2Proof.Machine.execLineEdge l s
  | .encoderPulse => Sys2Proof.Machine.execEncoderPulse s
  | .windowStart => Sys2Proof.Machine.execWindowStart s
  | .onTimeEnd k => Sys2Proof.Machine.execOnTimeEnd k s
  | .heat p => Sys2Proof.Machine.execHeat p s
  | .heatOff p => Sys2Proof.Machine.execHeatOff p s
  | .channelClear p => Sys2Proof.Machine.execChannelClear p s
  | .frameStart => Sys2Proof.Machine.execFrameStart s
  | .arbitrationLost => Sys2Proof.Machine.execArbitrationLost s
  | .bitFault => Sys2Proof.Machine.execBitFault s
  | .frameResult acked => Sys2Proof.Machine.execFrameResult acked s
  | .lineStuck => Sys2Proof.Machine.execLineStuck s
  | .lineClear => Sys2Proof.Machine.execLineClear s
  | .badFrame bytes => Sys2Proof.Machine.execBadFrame bytes s
  | .frameMismatch bytes => Sys2Proof.Machine.execFrameMismatch bytes s
  | .duplicateId kind => Sys2Proof.Machine.execDuplicateId kind s
  | .leavingAnnounceTimeout => Sys2Proof.Machine.execLeavingAnnounceTimeout s
  | .announce sender b => Sys2Proof.Machine.execAnnounce sender b s
  | .silenceStale peer => Sys2Proof.Machine.execSilenceStale peer s
  | .silenceRemove peer => Sys2Proof.Machine.execSilenceRemove peer s
  | .stock sender b => Sys2Proof.Machine.execStock sender b s
  | .stockAgeExpiry peer => Sys2Proof.Machine.execStockAgeExpiry peer s
  | .announceTick => Sys2Proof.Machine.execAnnounceTick s
  | .listeningTimerExpiry => Sys2Proof.Machine.execListeningTimerExpiry s
  | .profilePut p => Sys2Proof.Machine.execProfilePut p s
  | .join p => Sys2Proof.Machine.execJoin p s
  | .leave p => Sys2Proof.Machine.execLeave p s
  | .setClock p => Sys2Proof.Machine.execSetClock p s
  | .clockSecond => Sys2Proof.Machine.execClockSecond s
  | .dishOn p => Sys2Proof.Machine.execDishOn p s
  | .dishOff p => Sys2Proof.Machine.execDishOff p s
  | .dishSpeed p => Sys2Proof.Machine.execDishSpeed p s
  | .dishResume p => Sys2Proof.Machine.execDishResume p s
  | .nextRack p => Sys2Proof.Machine.execNextRack p s
  | .pickup p => Sys2Proof.Machine.execPickup p s
  | .jamTimerExpiry => Sys2Proof.Machine.execJamTimerExpiry s
  | .rinseHoldTimeExpiry => Sys2Proof.Machine.execRinseHoldTimeExpiry s
  | .idleTimeExpiry => Sys2Proof.Machine.execIdleTimeExpiry s
  | .load p => Sys2Proof.Machine.execLoad p s
  | .take p => Sys2Proof.Machine.execTake p s
  | .coolingReset k => Sys2Proof.Machine.execCoolingReset k s
  | .holdAsk sender b => Sys2Proof.Machine.execHoldAsk sender b s
  | .holdFree sender b => Sys2Proof.Machine.execHoldFree sender b s
  | .holdExpiry tag => Sys2Proof.Machine.execHoldExpiry tag s
  | .stockTick => Sys2Proof.Machine.execStockTick s
  | .wavePlan p => Sys2Proof.Machine.execWavePlan p s
  | .waveFire p => Sys2Proof.Machine.execWaveFire p s
  | .wavePlate p => Sys2Proof.Machine.execWavePlate p s
  | .waveClose p => Sys2Proof.Machine.execWaveClose p s
  | .waveCancel p => Sys2Proof.Machine.execWaveCancel p s
  | .cookTimer wave => Sys2Proof.Machine.execCookTimer wave s
  | .askCheck wave => Sys2Proof.Machine.execAskCheck wave s
  | .answerTimerExpiry wave second => Sys2Proof.Machine.execAnswerTimerExpiry wave second s
  | .holdAnswer sender b => Sys2Proof.Machine.execHoldAnswer sender b s
  | .holdState sender b => Sys2Proof.Machine.execHoldState sender b s
  | .page p => Sys2Proof.Machine.execPage p s
  | .callEnd p => Sys2Proof.Machine.execCallEnd p s
  | .duty p => Sys2Proof.Machine.execDuty p s
  | .allCall p => Sys2Proof.Machine.execAllCall p s
  | .allCallEnd p => Sys2Proof.Machine.execAllCallEnd p s
  | .broadcastTimerExpiry number => Sys2Proof.Machine.execBroadcastTimerExpiry number s
  | .pageCall sender b => Sys2Proof.Machine.execPageCall sender b s
  | .pageState sender b => Sys2Proof.Machine.execPageState sender b s
  | .pageCancel sender number => Sys2Proof.Machine.execPageCancel sender number s
  | .modemRecordSent => Sys2Proof.Machine.execModemRecordSent s
  | .result tag r => Sys2Proof.Machine.execResult tag r s
  | .resultTimeout => Sys2Proof.Machine.execResultTimeout s
  | .ack address tag => Sys2Proof.Machine.execAck address tag s
  | .dutyRecord address on => Sys2Proof.Machine.execDutyRecord address on s
  | .ready => Sys2Proof.Machine.execReady s
  | .modemInterbyteTimeout => Sys2Proof.Machine.execModemInterbyteTimeout s
  | .busyTimerExpiry tag => Sys2Proof.Machine.execBusyTimerExpiry tag s
  | .ackTimerExpiry tag => Sys2Proof.Machine.execAckTimerExpiry tag s
  | .allRecordDue => Sys2Proof.Machine.execAllRecordDue s
  | .allCallExpiry => Sys2Proof.Machine.execAllCallExpiry s
  | .transactionStart => Sys2Proof.Machine.execTransactionStart s
  | .incompleteCommand code => Sys2Proof.Machine.execIncompleteCommand code s
  | .statusOnlyEnd => Sys2Proof.Machine.execStatusOnlyEnd s
  | .unknownCommand code => Sys2Proof.Machine.execUnknownCommand code s
  | .nothing p => Sys2Proof.Machine.execNothing p s
  | .query p => Sys2Proof.Machine.execQuery p s
  | .readReport p => Sys2Proof.Machine.execReadReport p s
  | .startByte => Sys2Proof.Machine.execStartByte s
  | .modemRecordDiscarded c => Sys2Proof.Machine.execModemRecordDiscarded c s

end Sys2Proof.Machine
end

