-- ==== Sys2Proof/Safety.lean ====
section
/-! DEFINITION. What counts as a safe run, in the terms the statements use: the blocks of the state and what a command leaves
unchanged, a completed step, and the laws of the manual that every step keeps. -/

namespace Sys2Proof.Machine

/-! ## Blocks and frames -/

/-- The blocks of the state. -/
inductive Block where
  | pending
  | resetting
  | life
  | profile
  | scan
  | lines
  | pulseAge
  | heat
  | bus
  | peers
  | share
  | dish
  | stock
  | waves
  | paging
  | port
deriving DecidableEq, Repr

/-- Two states hold the same block. -/
def Block.agree (b : Block) (s t : State) : Prop :=
  match b with
  | .pending => t.pending = s.pending
  | .resetting => t.resetting = s.resetting
  | .life => t.life = s.life
  | .profile => t.profile = s.profile
  | .scan => t.scan = s.scan
  | .lines => t.lines = s.lines
  | .pulseAge => t.pulseAge = s.pulseAge
  | .heat => t.heat = s.heat
  | .bus => t.bus = s.bus
  | .peers => t.peers = s.peers
  | .share => t.share = s.share
  | .dish => t.dish = s.dish
  | .stock => t.stock = s.stock
  | .waves => t.waves = s.waves
  | .paging => t.paging = s.paging
  | .port => t.port = s.port

/-- `t` holds every block of `s` but those named. -/
def SameExcept (bs : List Block) (s t : State) : Prop := ∀ b : Block, b ∉ bs → b.agree s t

/-! ## Outcomes -/

/-- A step that completes: it answers a next state. -/
def Completes (o : Out) : Prop := ∃ t, o = .next t

/-- The port after an accepted command that queued no report: the reply, and the transaction at its end (R184). -/
def Answered (code : Nat) (clamped : Bool) (r : Result) (s t : State) : Prop :=
  t.port = { s.port with reply := .done code clamped r, transaction := .none }

/-- What a numeric parameter in `lo..hi` with default `d` stands for, given its first word and the number its words spell: a
number takes the nearest bound and counts as clamped when that changed it; 65,533 is LEAST, 65,534 MOST and 65,535 DEFAULT,
of which only a default that had to be clamped counts as clamped (R186, R187, section 12.2). -/
abbrev ParamTakes (lo hi d first number v : Nat) (clamped : Bool) : Prop :=
  (first < 65533 → v = max lo (min hi number) ∧ clamped = decide (v ≠ number)) ∧
    (first = 65533 → v = lo ∧ clamped = false) ∧ (first = 65534 → v = hi ∧ clamped = false) ∧
    (first = 65535 → v = max lo (min hi d) ∧ clamped = decide (v ≠ d))

/-- What a narrow numeric parameter stands for (R186, R187). -/
abbrev Takes (lo hi d : Nat) (w : Word) (v : Nat) (clamped : Bool) : Prop :=
  ParamTakes lo hi d w.toNat w.toNat v clamped

/-- What a wide numeric parameter, upper word first, stands for (R186, R187). -/
abbrev TakesWide (lo hi d : Nat) (upper lower : Word) (v : Nat) (clamped : Bool) : Prop :=
  ParamTakes lo hi d upper.toNat (upper.toNat * 65536 + lower.toNat) v clamped

/-- The record of a rack that is registered in `s` (R100). -/
def rackAtEntry (s : State) : Rack :=
  { number := s.dish.nextNumber, entryClock := s.life.clock, position := 0,
    plates := s.dish.tag.getD s.profile.dish.defaultPlates, washMin := none, dwell := 0, rinseMin := none,
    interrupted := false, missed := false, verdict := .pending, trace := [] }

/-- The racks `rest` after the ENTRY hold has ended over them: the waiting rack stands behind them when the entry line is
ACTIVE, the mode is not OFF and there is room and spacing for it (R100, R108). -/
def entersBehind (s : State) (rest : List Rack) : List Rack :=
  if useActive s .dishEntry = true ∧ s.dish.mode ≠ .off ∧ rest.length < 12 ∧
      rest.getLast?.all (fun r => decide (5500 ≤ r.position)) = true then rest ++ [rackAtEntry s]
  else rest

/-- In `t` the dish line's clean-awaiting count is published to the plate stock unit, whose stock-changed flag is set if the
published count changed (R122, R141). -/
def CleanPublished (s t : State) : Prop :=
  t.stock = { s.stock with
    clean := t.dish.clean
    changed := s.stock.changed || decide (s.stock.clean ≠ t.dish.clean) }

/-- The jam timer once the hold set has become `h` in an unchanged mode: 0 where the conveyor starts (R101, R116). -/
def jamTimerAfter (d : Dish) (h : HoldSet) : Nat :=
  if d.mode = .on ∧ anyHold d.holds = true ∧ anyHold h = false then 0 else d.jamTimer

/-- `t` stands at the reset values after a reset met `s`: every block is that of the reset state, each line has taken the
level on its pin, the reply is NONE and no report is queued (R87). -/
def AtReset (s t : State) : Prop :=
  SameExcept [.pending, .resetting, .lines, .port] State.reset t ∧
    (∀ l : LineNo, t.lines[l] = { pin := s.lines[l].pin, taken := s.lines[l].pin, debounce := none }) ∧
    t.port.reply = .none ∧ t.port.reports = [] ∧ t.port.gap = false

/-- What is left of the load at place `i` of the list `ls` of channel `k` when `n` plates leave its ready loads, the oldest
first (R130): a ready load gives what the ready loads ahead of it have not given, keeps its record with the rest of its
count, and is gone at 0; a load that is not ready stands. -/
def loadLeft (p : Profile) (k : Chan) (n : Nat) (ls : List Load) (i : Nat) : Option Load :=
  ls[i]?.bind fun l =>
    if loadReady p k l then
      let left := l.count - (n - loadedCount ((ls.take i).filter (loadReady p k)))
      if left = 0 then none else some { l with count := left }
    else some l

/-- From `a` to `b` exactly `n` plates have left the ready loads of channel `k`, the oldest first, and nothing else of the
channel's record and no other channel's changed (R130). -/
def TakenOldestFirst (p : Profile) (k : Chan) (n : Nat) (a b : Stock) : Prop :=
  readyCount p b k = readyCount p a k - n ∧
    b.warmers[k] = { a.warmers[k] with
      loads := (List.range a.warmers[k].loads.length).filterMap (loadLeft p k n a.warmers[k].loads) } ∧
    ∀ j : Chan, j ≠ k → b.warmers[j] = a.warmers[j]

/-- The sources of a wave, source 1 first (section 9.1). -/
def sourcesOf (w : Wave) : List Source := w.src1 :: w.src2.toList

/-- The hold `h` of this station is one that the wave `w` of this station has HELD here (R136, R151). -/
def heldHere (w : Wave) (s : State) (h : Hold) : Bool :=
  (sourcesOf w).any fun r =>
    match r.hold with
    | .held _ tag => decide (r.station = s.profile.stationId ∧ h.asker = s.profile.stationId ∧ h.tag = tag ∧
        h.wave = w.number ∧ h.channel.val = r.channel)
    | _ => false

/-- From `s` to `t` the holds that the wave `w` has HELD at this station are gone, and every other hold stands (R136,
R151). -/
def HoldsGiven (w : Wave) (s t : State) : Prop := t.stock.holds = s.stock.holds.filter (fun h => !heldHere w s h)

/-- The HOLD-FREE frames that free the holds which the wave `w` has HELD at peers (R151). -/
def freesOf (w : Wave) (s : State) : List Frame :=
  (sourcesOf w).filterMap fun r =>
    match r.hold with
    | .held _ tag =>
      if r.station = s.profile.stationId then none else some (.holdFree ⟨r.station, tag, w.number, r.channel⟩)
    | _ => none

/-- The frame `f` waits in `t`, if the station of `s` may send and has a free entry (R49). -/
def FrameWaits (f : Frame) (s t : State) : Prop :=
  maySend s = true → occupied s.bus < 8 → ∃ e ∈ t.bus.waiting, e.frame = f

/-- All the frames `fs` wait in `t`, if the station of `s` may send and has a free entry for each (R49). -/
def FramesWait (fs : List Frame) (s t : State) : Prop :=
  maySend s = true → occupied s.bus + fs.length ≤ 8 → ∀ f ∈ fs, ∃ e ∈ t.bus.waiting, e.frame = f

/-- The wave `w` after this station's own plate stock unit told it a cause (1 TAKEN, 2 CUT, 3 EXPIRED) and the count left of
the hold `tag` on channel `k`: a source here that was HELD with that tag holds what is left, NONE at 0, and TAKEN adds what
went to its taken count (R135, R156). -/
def afterNotice (station : Nat) (k : Chan) (tag cause count : Nat) (w : Wave) : Wave :=
  match matchSource station k.val w with
  | none => w
  | some second => changeSource second (fun r => match r.hold with
      | .held n g =>
        if g = tag then { r with
          taken := if cause = 1 then r.taken + (n - count) else r.taken
          hold := if count = 0 then .none else .held count g }
        else r
      | _ => r) w

/-- From `s` to `t` the asker of the hold `h` is told a cause and the count left: a peer by a HOLD-STATE that the queue is
offered, and this station's wave table in the same step, with every other wave as it was (R135, R156). -/
def AskerTold (h : Hold) (cause count : Nat) (s t : State) : Prop :=
  (h.asker ≠ s.profile.stationId → t.waves = s.waves ∧
    FrameWaits (.holdState ⟨h.asker, h.tag, h.wave, h.channel.val, cause, count⟩) s t ∧
    t.bus = (offer (.holdState ⟨h.asker, h.tag, h.wave, h.channel.val, cause, count⟩) s).bus) ∧
  (h.asker = s.profile.stationId → t.bus = s.bus ∧ (∀ m, m ≠ h.wave → findWave m t = findWave m s) ∧
    findWave h.wave t =
      (findWave h.wave s).map (afterNotice s.profile.stationId h.channel h.tag cause count))

/-- The HOLD-STATE frames by which the whole hold of each peer on channel `k` is cut, the newest hold first (R138). -/
def cutNotices (k : Chan) (s : State) : List Frame :=
  ((holdsOn s.stock k).reverse.filter (fun h => decide (h.asker ≠ s.profile.stationId))).map
    (fun h => .holdState ⟨h.asker, h.tag, h.wave, k.val, 2, 0⟩)

/-- From `s` to `t` every hold on channel `k` has been cut to 0 and its asker told, newest first: the peers by their frames,
and each wave of this station that had one in its record (R138, R156). -/
def AllCut (k : Chan) (s t : State) : Prop :=
  t.bus = ((cutNotices k s).foldl (fun u f => offer f u) s).bus ∧ FramesWait (cutNotices k s) s t ∧
    (∀ h ∈ holdsOn s.stock k, h.asker = s.profile.stationId →
      findWave h.wave t = (findWave h.wave s).map (afterNotice s.profile.stationId k h.tag 2 0)) ∧
    ∀ n, (∀ h ∈ holdsOn s.stock k, h.asker = s.profile.stationId → h.wave ≠ n) → findWave n t = findWave n s

/-- The port of `t` is that of `u`, with an OVERDRAWN report behind its reports exactly where the grant delivered last made the
window of `s` OVERDRAWN, which it does not while the charges stand within it. The report carries the grant, the sum of the
charges after the walk and the excess that remained (R33, R34; the place is the model's, log entry 41). -/
def ReportsThenCut (s u t : State) : Prop :=
  (chargesSum s.heat.channels ≤ t.heat.grant → t.port = u.port) ∧
    t.port = if s.heat.overdrawn = false ∧ t.heat.overdrawn = true
      then (pushReport (.overdrawn t.heat.grant (chargesSum t.heat.channels)
        (chargesSum t.heat.channels - t.heat.grant)) u).port
      else u.port

/-- `n` is the class that the owning block publishes for channel `k`: the dish line 3 for the BOOSTER in ON and 2 for the TANK
in ON or JAM, the wave table 2 or 1 for an OVEN by the states of its waves, the plate stock unit 2 for a WARMER with a hold,
and otherwise none, which counts as 0 (R28, R122, R140, R159). -/
def PublishedClass (s : State) (k : Chan) (n : Nat) : Prop :=
  match s.profile.channels[k].kind with
  | .booster => n = if s.dish.mode = .on then 3 else 0
  | .tank => n = if s.dish.mode = .on ∨ s.dish.mode = .jam then 2 else 0
  | .oven => ∀ hot warm : Prop,
      (hot ↔ ∃ w ∈ s.waves, w.oven = k ∧ (w.state = .preheat ∨ w.state = .fireDue ∨ w.state = .cooking)) →
      (warm ↔ ∃ w ∈ s.waves, w.oven = k ∧ (w.state = .done ∨ w.state = .plating)) →
      (hot → n = 2) ∧ (¬ hot → warm → n = 1) ∧ (¬ hot → ¬ warm → n = 0)
  | .warmer => ((∃ h ∈ s.stock.holds, h.channel = k) → n = 2) ∧ ((∀ h ∈ s.stock.holds, h.channel ≠ k) → n = 0)
  | .unused => n = 0

/-- The STOCK body `b` lists channel, ready and available count of each WARMER channel of `s` in channel order and nothing
else, and exactly with the dish line enabled the clean-awaiting count (R142). -/
def ShowsStock (s : State) (b : StockBody) : Prop :=
  b.clean = (if s.profile.dish.enable = true then some s.stock.clean else none) ∧
    b.warmers.Pairwise (fun x y => x.channel < y.channel) ∧
    (∀ k : Chan, s.profile.channels[k].kind = .warmer ↔
      (⟨k.val, readyCount s.profile s.stock k, availableCount s.profile s.stock k⟩ : StockEntry) ∈ b.warmers) ∧
    ∀ x ∈ b.warmers, ∃ k : Chan, s.profile.channels[k].kind = .warmer ∧
      x = ⟨k.val, readyCount s.profile s.stock k, availableCount s.profile s.stock k⟩

/-! ## A wave at a clock second (R147, R148, R153, R158) -/

/-- From `s` to `t` wave `n` had an event of its timeline if its record says so, and otherwise nothing happened. -/
def WaveEvent (n : Nat) (due : Wave → Bool) (happens : Wave → State → State → Prop) (s t : State) : Prop :=
  ∃ w, findWave n s = some w ∧ if due w then happens w s t else t = s

/-- The first shortage check of wave `w`: its checks have begun; covered, its SHORT flag is clear, its shortage calls are
cancelled and COVERED is reported if it was SHORT; else it is SHORT, the call of the other reason is cancelled and its own
raised, PLATES-FETCH exactly if some peer shows the shortfall as clean, and SHORT is reported if it was not (R158). -/
def ShortageBegun (w : Wave) (s t : State) : Prop :=
  ∃ (shortfall : Nat) (u : State),
    shortfall = w.covers - (heldFigure w.src1.hold + (w.src2.map (fun r => heldFigure r.hold)).getD 0 +
      w.src1.taken + (w.src2.map (fun r => r.taken)).getD 0) ∧
    u = updateWave w.number (fun x => { x with shortage := true, short := decide (0 < shortfall) }) s ∧
    (shortfall = 0 → ∀ v, v = cancelCall .platesShort w.number (cancelCall .platesFetch w.number u) →
      t = if w.short = true
        then pushReport (.wave w.number (some w.state) (some w.state) w.late false .covered) v else v) ∧
    (0 < shortfall → ∃ own other : CallReason,
      ((∃ x ∈ s.peers, ∃ q n, x.stock = some q ∧ q.clean = some n ∧ shortfall ≤ n) →
        own = .platesFetch ∧ other = .platesShort) ∧
      ((¬ ∃ x ∈ s.peers, ∃ q n, x.stock = some q ∧ q.clean = some n ∧ shortfall ≤ n) →
        own = .platesShort ∧ other = .platesFetch) ∧
      ∀ v, v = raiseCall own w.number (cancelCall other w.number u) →
        t = if w.short = true then v
          else pushReport (.wave w.number (some w.state) (some w.state) w.late true .short) v)

/-- The oven of wave `w` has its target, clamped into the oven's range, with a ramp of 0: from IDLE in RAMP with the working
setpoint at the reading, in RAMP or REGULATE with the rest kept (R19, R21, R147). -/
def OvenTargetWritten (w : Wave) (s t : State) : Prop :=
  ∃ (top target : Nat) (c : Channel), top = topTarget s.profile w.oven ∧ target = max 0 (min top w.target) ∧
    t = s.setHeat { s.heat with channels := s.heat.channels.set w.oven c } ∧
    c = { s.heat.channels[w.oven] with state := match s.heat.channels[w.oven].state with
      | .idle => .ramp { target := target, ramp := 0, w := clampInt 0 top (reading s w.oven) }
      | .ramp p => .ramp { p with target := target, ramp := 0 }
      | .regulate p => .regulate { p with target := target, ramp := 0 }
      | .tripped x => .tripped x }

/-- The one target write of wave `w`, now in state `st`: taken, or TARGET-REFUSED at a TRIPPED oven (R147, R149). -/
def TargetWrite (w : Wave) (st : WaveState) (s t : State) : Prop :=
  (isTripped s.heat.channels[w.oven].state = true →
    t = pushReport (.wave w.number (some st) (some st) w.late w.short .targetRefused) s) ∧
  (isTripped s.heat.channels[w.oven].state = false → OvenTargetWritten w s t)

/-- Wave `w` enters PREHEAT: its check timer at 5,000 ms, its target written or TARGET-REFUSED at a TRIPPED oven, its first
ask check, its PREHEAT report, and its first shortage check if that instant is reached (R147, R154, R158). -/
def PreheatEntered (reachedAt : Nat → Bool) (w : Wave) (s t : State) : Prop :=
  ∃ a b c : State,
    a = updateWave w.number (fun x => { x with state := .preheat, check := some 5000 }) s ∧
    TargetWrite w .preheat a b ∧
    c = pushReport (.wave w.number (some .planned) (some .preheat) w.late w.short .preheat)
      (askSources w.number b) ∧
    WaveEvent w.number (fun x => !x.shortage && reachedAt ((x.pass + 85800) % 86400)) ShortageBegun c t

/-- Wave `w` is fired from PLANNED: its target written or TARGET-REFUSED, COOKING with its cook remaining, its next second and
its check timer at their beginnings, its first ask check, its FIRED report, and its first shortage check if that instant is
reached (R149, R154, R158). -/
def FiredFromPlanned (reachedAt : Nat → Bool) (w : Wave) (s t : State) : Prop :=
  ∃ a b : State,
    TargetWrite w .planned s a ∧
    b = pushReport (.wave w.number (some .planned) (some .cooking) w.late w.short .fired)
      (askSources w.number (updateWave w.number
        (fun x => { x with state := .cooking, cookLeft := some x.cook, cookMs := 1000, check := some 5000 }) a)) ∧
    WaveEvent w.number (fun x => !x.shortage && reachedAt ((x.pass + 85800) % 86400)) ShortageBegun b t

/-- Wave `w` enters FIRE-DUE: its call is raised, and then its report queued (R148). -/
def FireDueEntered (w : Wave) (s t : State) : Prop :=
  t = pushReport (.wave w.number (some .preheat) (some .fireDue) w.late w.short .fireDue)
    (raiseCall .fireDue w.number (updateWave w.number (fun x => { x with state := .fireDue }) s))

/-- Wave `w` is made late: its call is raised, and then its report queued (R153). -/
def MadeLate (w : Wave) (s t : State) : Prop :=
  t = pushReport (.wave w.number (some w.state) (some w.state) true w.short .late)
    (raiseCall .waveLate w.number (updateWave w.number (fun x => { x with late := true }) s))

/-- From `s` to `t` wave `n` has been judged at a clock second: PREHEAT, FIRE-DUE, LATE and the first shortage check, each
where its instant is reached (R147, R148, R153, R158). -/
def WaveJudged (reachedAt : Nat → Bool) (n : Nat) (s t : State) : Prop :=
  ∃ a b c : State,
    WaveEvent n (fun w => decide (w.state = .planned) &&
      reachedAt ((w.fire + 86400 - s.profile.preheatLead % 86400) % 86400)) (PreheatEntered reachedAt) s a ∧
    WaveEvent n (fun w => decide (w.state = .preheat) && reachedAt w.fire) FireDueEntered a b ∧
    WaveEvent n (fun w => decide (w.state ≠ .plating) && !w.late && reachedAt w.pass) MadeLate b c ∧
    WaveEvent n (fun w => asking w.state && !w.shortage && reachedAt ((w.pass + 85800) % 86400)) ShortageBegun c t

/-- The waves with these numbers judged one after the other at a clock second. -/
def WavesJudged (reachedAt : Nat → Bool) : List Nat → State → State → Prop
  | [], s, t => t = s
  | n :: ns, s, t => ∃ u, WaveJudged reachedAt n s u ∧ WavesJudged reachedAt ns u t

/-- The PAGE-STATE of a queued call with an outcome and a detail (section 12.1). -/
def pageStateOf (c : Paged) (outcome detail : Nat) : Frame :=
  .pageState ⟨c.origin, c.number, c.reason, c.subject, outcome, detail⟩

/-- The place of roster index `j` in the order in which a call looks through group `g`: from index 0 for a sweep and from
START, otherwise from the index after the rotation pointer, which comes last (R171, R172). -/
def memberPlace (s : State) (urgency g : Nat) (j : Fin 32) : Nat :=
  match s.paging.pointer.toList.getD g none with
  | some q => if 3 ≤ urgency then j.val else (j.val + 31 - q.val) % 32
  | none => j.val

/-- Roster index `i` is the first on-duty member of group `g` outside `tried`, in the order of R171 and R172. -/
def FirstMember (s : State) (urgency g : Nat) (tried : List (Fin 32)) (i : Fin 32) : Prop :=
  (isMember s.profile g i = true ∧ s.paging.duty[i] = true ∧ i ∉ tried) ∧
    ∀ j : Fin 32, isMember s.profile g j = true → s.paging.duty[j] = true → j ∉ tried →
      memberPlace s urgency g i ≤ memberPlace s urgency g j

/-- In `t` a new call `n` with this reason, subject, group and urgency stands behind the calls `cs` of `s`, under a number
that none of them has, the next one if it is free: LOCAL with its report without a group, and otherwise CALLING with its
first broadcast made (R161, R162, R164). -/
def CallEntered (n : Nat) (r : CallReason) (subject : Nat) (group : Option Nat) (urgency : Nat) (cs : List Call)
    (s t : State) : Prop :=
  (1 ≤ n ∧ n ≤ 255 ∧ (∀ c ∈ cs, c.number ≠ n) ∧
    ((∀ c ∈ cs, c.number ≠ s.paging.nextNumber) → n = s.paging.nextNumber) ∧ t.paging.nextNumber = n % 255 + 1) ∧
  (group = none → t.paging.calls = cs ++ [⟨n, r, subject, none, urgency, .local, 0, none, none⟩] ∧
    t.port.reports.getLast? = some ⟨s.life.clock, .call (some n) r subject none urgency .local⟩) ∧
  ∀ g, group = some g → t.paging.calls = cs ++ [⟨n, r, subject, some g, urgency, .calling, 1, some 10000, none⟩] ∧
    FrameWaits (.pageCall ⟨n, reasonCode r, subject, g, urgency⟩) s t

/-- In `t` the paging unit, the controller and the port stand as after a block of `s` raised this call (R162); statement
PageEntersACallAndCallEndRemovesIt says what raising does. -/
def CallRaised (r : CallReason) (subject : Nat) (s t : State) : Prop :=
  t.paging = (raiseCall r subject s).paging ∧ t.bus = (raiseCall r subject s).bus ∧ t.port = (raiseCall r subject s).port

/-- In `t` the open call of this reason and subject is cancelled: gone from the call list, with its PAGE-CANCEL waiting
unless it was LOCAL; where none was open nothing of paging or controller changes (R166). -/
def CallCancelled (r : CallReason) (subject : Nat) (s t : State) : Prop :=
  (openCall r subject s = none → t.paging = s.paging ∧ t.bus = s.bus) ∧
    ∀ c, openCall r subject s = some c →
      t.paging.calls = s.paging.calls.filter (fun x => decide (x.number ≠ c.number)) ∧
      (c.state ≠ .local → FrameWaits (.pageCancel c.number) s t)

/-- The PAGE-CANCEL frames that cancelling the calls of these reasons and this subject offers: one for each that is open
and not LOCAL (R166). -/
def cancelsOf (rs : List CallReason) (subject : Nat) (s : State) : List Frame :=
  rs.filterMap fun r => (openCall r subject s).bind fun c =>
    if c.state = .local then none else some (.pageCancel c.number)

/-- From `s` to `t` the open calls of these reasons and this subject have left the call list, every other call stands, and
their PAGE-CANCELs wait behind the frames `ahead` of the same step (R166). That no two calls share a number is assumed, as
the naming law gives it. -/
def CallsEnded (rs : List CallReason) (subject : Nat) (ahead : List Frame) (s t : State) : Prop :=
  s.paging.calls.Pairwise (fun a b => a.number ≠ b.number) →
    t.paging.calls = s.paging.calls.filter (fun c => rs.all (fun r => decide (openCall r subject s ≠ some c))) ∧
      FramesWait (ahead ++ cancelsOf rs subject s) s t

/-- The modem of `t` awaits the result of the SEND of call `c` to roster index `i` (R170). -/
def SendWritten (c : Paged) (i : Fin 32) (t : State) : Prop :=
  t.paging.modem = some ⟨.send c.tag t.profile.roster[i].address c.reason c.subject c.urgency, none⟩

/-- The modem of `t` awaits the result of an ALL record of `seconds`, whose mask names exactly the groups with a member
(R178). -/
def AllWritten (seconds : Nat) (t : State) : Prop :=
  ∃ mask, t.paging.modem = some ⟨.all mask seconds, none⟩ ∧ mask < 256 ∧
    ∀ g < 8, mask.testBit g = hasMember t.profile g

/-! ## Laws of the manual (invariants) -/

/-- The capacities the manual gives its lists (R49, R100, R132, R145, R161, R168, R190). -/
structure WithinCapacity (s : State) : Prop where
  reports : s.port.reports.length ≤ 32
  frames : occupied s.bus ≤ 8
  racks : s.dish.racks.length ≤ 12
  holds : s.stock.holds.length ≤ 16
  loads : ∀ k : Chan, s.stock.warmers[k].loads.length ≤ 6
  waves : s.waves.length ≤ 16
  calls : s.paging.calls.length ≤ 16
  paged : s.paging.queue.length ≤ 24

/-- The heater law of one channel (R26, R29, R30): its terms stay in their ranges, its allowed duty never exceeds its
demand, its served time never passes its on-time, demand belongs to RAMP and REGULATE, and its heater is on only in those,
with an on-time and, for an OVEN, a shut door. -/
structure ChannelLaw (k : Kind) (c : Channel) : Prop where
  demand : c.demand ≤ 1000
  duty : c.duty ≤ c.demand
  served : c.served ≤ c.onTime
  integral : -1000 ≤ c.integral ∧ c.integral ≤ 1000
  idle : heating c.state = false → c.demand = 0
  heater : c.heater = true → heating c.state = true ∧ 0 < c.onTime
  door : c.heater = true → k = .oven → c.doorFlag = false

/-- The heater law of the station (R23, R30): every channel's law, and outside ACTIVE, ISOLATED and DUPLICATE no window
runs, no heater is on and no on-time or served time stands. -/
structure HeaterLaw (s : State) : Prop where
  channels : ∀ k : Chan, ChannelLaw s.profile.channels[k].kind s.heat.channels[k]
  clock : s.heat.window.running = true ∨ s.heat.window.due = true → clocksRun s = true
  stopped : clocksRun s = false → ∀ k : Chan,
    s.heat.channels[k].heater = false ∧ s.heat.channels[k].onTime = 0 ∧ s.heat.channels[k].served = 0

/-- The charge law (R29, R32): the charges of a window stay within the grant in force unless the window is OVERDRAWN, and
without a running window clock none stands and no window start is due. -/
structure ChargeLaw (s : State) : Prop where
  within : s.heat.overdrawn = false → chargesSum s.heat.channels ≤ s.heat.grant
  stopped : s.heat.window.running = false → chargesSum s.heat.channels = 0
  clock : s.heat.window.due = true → s.heat.window.running = true

/-- The feeder items stand in their ranges (R68). -/
structure FeederLaw (f : FeederProfile) : Prop where
  limit : 100 ≤ f.limit ∧ f.limit ≤ 20000
  margin : f.margin ≤ f.limit / 2
  ceiling : 10 ≤ f.ceiling ∧ f.ceiling ≤ f.limit
  allowance : f.allowance ≤ f.ceiling

/-- Each rack stands at least the minimum spacing behind the one ahead of it, or the one ahead has stopped at the end of the
scale (R100, R103). -/
def spacedRacks : List Rack → Prop
  | r :: q :: rest =>
    (q.position + Config.rackSpacing ≤ r.position ∨ r.position = Config.maxPosition) ∧ spacedRacks (q :: rest)
  | _ => True

/-- The peer table is in strictly rising order of identifier, so no identifier has two entries (R55). -/
def risingPeers (ps : List Peer) : Prop := ps.Pairwise (fun a b => a.id < b.id)

/-- The wave table is in strictly rising order of number (R145). -/
def risingWaves (ws : List Wave) : Prop := ws.Pairwise (fun a b => a.number < b.number)

/-- No two holds share a tag or a key, and each holds at least one plate (R132). -/
structure HoldLaw (hs : List Hold) : Prop where
  tags : hs.Pairwise (fun a b => a.tag ≠ b.tag)
  keys : hs.Pairwise (fun a b => ¬ (a.asker = b.asker ∧ a.wave = b.wave ∧ a.channel = b.channel))
  counts : ∀ h ∈ hs, 1 ≤ h.count

/-- The stock law (R124, R125, R129, R132, R138): the hold law; the loads of a channel hold at least one plate each and
together no more than its capacity; no channel has more plates held than ready; the warm time is in its range; and in
UNJOINED no load and no hold stands. -/
structure StockLaw (s : State) : Prop where
  holds : HoldLaw s.stock.holds
  plates : ∀ k : Chan, ∀ l ∈ s.stock.warmers[k].loads, 1 ≤ l.count
  capacity : ∀ k : Chan, loadedCount s.stock.warmers[k].loads ≤ s.profile.warmers[k].capacity
  ready : ∀ k : Chan, heldCount s.stock k ≤ readyCount s.profile s.stock k
  warm : ∀ k : Chan, 300 ≤ s.profile.warmers[k].warmTime ∧ s.profile.warmers[k].warmTime ≤ 3600
  unjoined : joined s = false → s.stock.holds = [] ∧ ∀ k : Chan, s.stock.warmers[k].loads = []

/-- The naming law: no two open calls share a number, and no two queued calls a tag or a call identifier (R161, R168,
R169). -/
structure NamesLaw (g : Paging) : Prop where
  calls : g.calls.Pairwise (fun a b => a.number ≠ b.number)
  paged : g.queue.Pairwise (fun a b => a.tag ≠ b.tag ∧ ¬ (a.origin = b.origin ∧ a.number = b.number))

/-! ## The checks of JOIN (R89) -/

/-- `k` is the lowest index with a property. -/
def Lowest {n : Nat} (q : Fin n → Prop) (k : Fin n) : Prop := q k ∧ ∀ j, j < k → ¬ q j

/-- The channel is of kind BOOSTER or TANK. -/
def OfDishKind (p : Profile) (k : Chan) : Prop := p.channels[k].kind = .booster ∨ p.channels[k].kind = .tank

/-- The channel is a second BOOSTER or a second TANK (R89, check 2). -/
def SecondOfKind (p : Profile) (k : Chan) : Prop :=
  OfDishKind p k ∧ ∃ j : Chan, j < k ∧ p.channels[j].kind = p.channels[k].kind

/-- Checks 2 to 5 of R89 pass: with the dish line enabled one BOOSTER, one TANK and edges that run a < b ≤ c < d < e;
without it neither kind. -/
def DishStands (p : Profile) : Prop :=
  (p.dish.enable = true → (channelsOf p .booster).length = 1 ∧ (channelsOf p .tank).length = 1 ∧
    p.dish.a < p.dish.b ∧ p.dish.b ≤ p.dish.c ∧ p.dish.c < p.dish.d ∧ p.dish.d < p.dish.e) ∧
  (p.dish.enable = false → channelsOf p .booster = [] ∧ channelsOf p .tank = [])

/-- The roster entry is in use without a group (R89, check 6). -/
def Groupless (p : Profile) (i : Fin 32) : Prop := p.roster[i].address ≠ 0 ∧ p.roster[i].group = none

/-- The roster entry is in use with an address that appears at a lower index (R89, check 7). -/
def SharesAddress (p : Profile) (i : Fin 32) : Prop :=
  p.roster[i].address ≠ 0 ∧ ∃ j : Fin 32, j < i ∧ p.roster[j].address = p.roster[i].address

/-! ## The command catalogue (section 11.5) -/

/-- The lengths in parameter words that the catalogue allows for a code. -/
def catalogueLengths : Nat → List Nat
  | 0 | 1 | 3 | 4 | 7 | 32 | 33 | 35 | 84 => [0]
  | 17 | 18 | 34 | 36 | 37 | 65 | 66 | 67 | 68 | 81 | 83 => [1]
  | 5 | 48 | 82 => [2]
  | 6 | 16 => [3]
  | 2 | 80 => [4]
  | 49 => [2, 3]
  | 64 => [11, 13]
  | _ => []

/-- The station states in which the command of a code is taken (R185, test 3). -/
def catalogueStage (code : Nat) : Stage :=
  if code = 0 ∨ code = 1 ∨ code = 6 ∨ code = 7 then .any
  else if code = 2 ∨ code = 3 then .unjoinedOnly
  else .joinedOnly

/-- The state after a refused command: the REFUSED reply is its only trace (R184). -/
def refusedWith (code : Nat) (r : Reason) (s : State) : State :=
  s.setPort { s.port with reply := .refused code r, transaction := .none }

end Sys2Proof.Machine
end

