-- ==== Sys2Proof/Laws/State.lean ====
section
/-! SUPPORT. One lemma for each field under each named update of State, true by rfl; and the frames of the updates. -/

namespace Sys2Proof.Machine

/-! ## Fields under updates -/

section
variable (s : State)

@[simp] theorem State.setPending_pending (x : List Instr) : (s.setPending x).pending = x := rfl
@[simp] theorem State.setPending_resetting (x : List Instr) : (s.setPending x).resetting = s.resetting := rfl
@[simp] theorem State.setPending_life (x : List Instr) : (s.setPending x).life = s.life := rfl
@[simp] theorem State.setPending_profile (x : List Instr) : (s.setPending x).profile = s.profile := rfl
@[simp] theorem State.setPending_scan (x : List Instr) : (s.setPending x).scan = s.scan := rfl
@[simp] theorem State.setPending_lines (x : List Instr) : (s.setPending x).lines = s.lines := rfl
@[simp] theorem State.setPending_pulseAge (x : List Instr) : (s.setPending x).pulseAge = s.pulseAge := rfl
@[simp] theorem State.setPending_heat (x : List Instr) : (s.setPending x).heat = s.heat := rfl
@[simp] theorem State.setPending_bus (x : List Instr) : (s.setPending x).bus = s.bus := rfl
@[simp] theorem State.setPending_peers (x : List Instr) : (s.setPending x).peers = s.peers := rfl
@[simp] theorem State.setPending_share (x : List Instr) : (s.setPending x).share = s.share := rfl
@[simp] theorem State.setPending_dish (x : List Instr) : (s.setPending x).dish = s.dish := rfl
@[simp] theorem State.setPending_stock (x : List Instr) : (s.setPending x).stock = s.stock := rfl
@[simp] theorem State.setPending_waves (x : List Instr) : (s.setPending x).waves = s.waves := rfl
@[simp] theorem State.setPending_paging (x : List Instr) : (s.setPending x).paging = s.paging := rfl
@[simp] theorem State.setPending_port (x : List Instr) : (s.setPending x).port = s.port := rfl

@[simp] theorem State.setResetting_pending (x : Resetting) : (s.setResetting x).pending = s.pending := rfl
@[simp] theorem State.setResetting_resetting (x : Resetting) : (s.setResetting x).resetting = x := rfl
@[simp] theorem State.setResetting_life (x : Resetting) : (s.setResetting x).life = s.life := rfl
@[simp] theorem State.setResetting_profile (x : Resetting) : (s.setResetting x).profile = s.profile := rfl
@[simp] theorem State.setResetting_scan (x : Resetting) : (s.setResetting x).scan = s.scan := rfl
@[simp] theorem State.setResetting_lines (x : Resetting) : (s.setResetting x).lines = s.lines := rfl
@[simp] theorem State.setResetting_pulseAge (x : Resetting) : (s.setResetting x).pulseAge = s.pulseAge := rfl
@[simp] theorem State.setResetting_heat (x : Resetting) : (s.setResetting x).heat = s.heat := rfl
@[simp] theorem State.setResetting_bus (x : Resetting) : (s.setResetting x).bus = s.bus := rfl
@[simp] theorem State.setResetting_peers (x : Resetting) : (s.setResetting x).peers = s.peers := rfl
@[simp] theorem State.setResetting_share (x : Resetting) : (s.setResetting x).share = s.share := rfl
@[simp] theorem State.setResetting_dish (x : Resetting) : (s.setResetting x).dish = s.dish := rfl
@[simp] theorem State.setResetting_stock (x : Resetting) : (s.setResetting x).stock = s.stock := rfl
@[simp] theorem State.setResetting_waves (x : Resetting) : (s.setResetting x).waves = s.waves := rfl
@[simp] theorem State.setResetting_paging (x : Resetting) : (s.setResetting x).paging = s.paging := rfl
@[simp] theorem State.setResetting_port (x : Resetting) : (s.setResetting x).port = s.port := rfl

@[simp] theorem State.setLife_pending (x : Life) : (s.setLife x).pending = s.pending := rfl
@[simp] theorem State.setLife_resetting (x : Life) : (s.setLife x).resetting = s.resetting := rfl
@[simp] theorem State.setLife_life (x : Life) : (s.setLife x).life = x := rfl
@[simp] theorem State.setLife_profile (x : Life) : (s.setLife x).profile = s.profile := rfl
@[simp] theorem State.setLife_scan (x : Life) : (s.setLife x).scan = s.scan := rfl
@[simp] theorem State.setLife_lines (x : Life) : (s.setLife x).lines = s.lines := rfl
@[simp] theorem State.setLife_pulseAge (x : Life) : (s.setLife x).pulseAge = s.pulseAge := rfl
@[simp] theorem State.setLife_heat (x : Life) : (s.setLife x).heat = s.heat := rfl
@[simp] theorem State.setLife_bus (x : Life) : (s.setLife x).bus = s.bus := rfl
@[simp] theorem State.setLife_peers (x : Life) : (s.setLife x).peers = s.peers := rfl
@[simp] theorem State.setLife_share (x : Life) : (s.setLife x).share = s.share := rfl
@[simp] theorem State.setLife_dish (x : Life) : (s.setLife x).dish = s.dish := rfl
@[simp] theorem State.setLife_stock (x : Life) : (s.setLife x).stock = s.stock := rfl
@[simp] theorem State.setLife_waves (x : Life) : (s.setLife x).waves = s.waves := rfl
@[simp] theorem State.setLife_paging (x : Life) : (s.setLife x).paging = s.paging := rfl
@[simp] theorem State.setLife_port (x : Life) : (s.setLife x).port = s.port := rfl

@[simp] theorem State.setProfile_pending (x : Profile) : (s.setProfile x).pending = s.pending := rfl
@[simp] theorem State.setProfile_resetting (x : Profile) : (s.setProfile x).resetting = s.resetting := rfl
@[simp] theorem State.setProfile_life (x : Profile) : (s.setProfile x).life = s.life := rfl
@[simp] theorem State.setProfile_profile (x : Profile) : (s.setProfile x).profile = x := rfl
@[simp] theorem State.setProfile_scan (x : Profile) : (s.setProfile x).scan = s.scan := rfl
@[simp] theorem State.setProfile_lines (x : Profile) : (s.setProfile x).lines = s.lines := rfl
@[simp] theorem State.setProfile_pulseAge (x : Profile) : (s.setProfile x).pulseAge = s.pulseAge := rfl
@[simp] theorem State.setProfile_heat (x : Profile) : (s.setProfile x).heat = s.heat := rfl
@[simp] theorem State.setProfile_bus (x : Profile) : (s.setProfile x).bus = s.bus := rfl
@[simp] theorem State.setProfile_peers (x : Profile) : (s.setProfile x).peers = s.peers := rfl
@[simp] theorem State.setProfile_share (x : Profile) : (s.setProfile x).share = s.share := rfl
@[simp] theorem State.setProfile_dish (x : Profile) : (s.setProfile x).dish = s.dish := rfl
@[simp] theorem State.setProfile_stock (x : Profile) : (s.setProfile x).stock = s.stock := rfl
@[simp] theorem State.setProfile_waves (x : Profile) : (s.setProfile x).waves = s.waves := rfl
@[simp] theorem State.setProfile_paging (x : Profile) : (s.setProfile x).paging = s.paging := rfl
@[simp] theorem State.setProfile_port (x : Profile) : (s.setProfile x).port = s.port := rfl

@[simp] theorem State.setScan_pending (x : Scanner) : (s.setScan x).pending = s.pending := rfl
@[simp] theorem State.setScan_resetting (x : Scanner) : (s.setScan x).resetting = s.resetting := rfl
@[simp] theorem State.setScan_life (x : Scanner) : (s.setScan x).life = s.life := rfl
@[simp] theorem State.setScan_profile (x : Scanner) : (s.setScan x).profile = s.profile := rfl
@[simp] theorem State.setScan_scan (x : Scanner) : (s.setScan x).scan = x := rfl
@[simp] theorem State.setScan_lines (x : Scanner) : (s.setScan x).lines = s.lines := rfl
@[simp] theorem State.setScan_pulseAge (x : Scanner) : (s.setScan x).pulseAge = s.pulseAge := rfl
@[simp] theorem State.setScan_heat (x : Scanner) : (s.setScan x).heat = s.heat := rfl
@[simp] theorem State.setScan_bus (x : Scanner) : (s.setScan x).bus = s.bus := rfl
@[simp] theorem State.setScan_peers (x : Scanner) : (s.setScan x).peers = s.peers := rfl
@[simp] theorem State.setScan_share (x : Scanner) : (s.setScan x).share = s.share := rfl
@[simp] theorem State.setScan_dish (x : Scanner) : (s.setScan x).dish = s.dish := rfl
@[simp] theorem State.setScan_stock (x : Scanner) : (s.setScan x).stock = s.stock := rfl
@[simp] theorem State.setScan_waves (x : Scanner) : (s.setScan x).waves = s.waves := rfl
@[simp] theorem State.setScan_paging (x : Scanner) : (s.setScan x).paging = s.paging := rfl
@[simp] theorem State.setScan_port (x : Scanner) : (s.setScan x).port = s.port := rfl

@[simp] theorem State.setLines_pending (x : Vector Line 6) : (s.setLines x).pending = s.pending := rfl
@[simp] theorem State.setLines_resetting (x : Vector Line 6) : (s.setLines x).resetting = s.resetting := rfl
@[simp] theorem State.setLines_life (x : Vector Line 6) : (s.setLines x).life = s.life := rfl
@[simp] theorem State.setLines_profile (x : Vector Line 6) : (s.setLines x).profile = s.profile := rfl
@[simp] theorem State.setLines_scan (x : Vector Line 6) : (s.setLines x).scan = s.scan := rfl
@[simp] theorem State.setLines_lines (x : Vector Line 6) : (s.setLines x).lines = x := rfl
@[simp] theorem State.setLines_pulseAge (x : Vector Line 6) : (s.setLines x).pulseAge = s.pulseAge := rfl
@[simp] theorem State.setLines_heat (x : Vector Line 6) : (s.setLines x).heat = s.heat := rfl
@[simp] theorem State.setLines_bus (x : Vector Line 6) : (s.setLines x).bus = s.bus := rfl
@[simp] theorem State.setLines_peers (x : Vector Line 6) : (s.setLines x).peers = s.peers := rfl
@[simp] theorem State.setLines_share (x : Vector Line 6) : (s.setLines x).share = s.share := rfl
@[simp] theorem State.setLines_dish (x : Vector Line 6) : (s.setLines x).dish = s.dish := rfl
@[simp] theorem State.setLines_stock (x : Vector Line 6) : (s.setLines x).stock = s.stock := rfl
@[simp] theorem State.setLines_waves (x : Vector Line 6) : (s.setLines x).waves = s.waves := rfl
@[simp] theorem State.setLines_paging (x : Vector Line 6) : (s.setLines x).paging = s.paging := rfl
@[simp] theorem State.setLines_port (x : Vector Line 6) : (s.setLines x).port = s.port := rfl

@[simp] theorem State.setPulseAge_pending (x : Nat) : (s.setPulseAge x).pending = s.pending := rfl
@[simp] theorem State.setPulseAge_resetting (x : Nat) : (s.setPulseAge x).resetting = s.resetting := rfl
@[simp] theorem State.setPulseAge_life (x : Nat) : (s.setPulseAge x).life = s.life := rfl
@[simp] theorem State.setPulseAge_profile (x : Nat) : (s.setPulseAge x).profile = s.profile := rfl
@[simp] theorem State.setPulseAge_scan (x : Nat) : (s.setPulseAge x).scan = s.scan := rfl
@[simp] theorem State.setPulseAge_lines (x : Nat) : (s.setPulseAge x).lines = s.lines := rfl
@[simp] theorem State.setPulseAge_pulseAge (x : Nat) : (s.setPulseAge x).pulseAge = x := rfl
@[simp] theorem State.setPulseAge_heat (x : Nat) : (s.setPulseAge x).heat = s.heat := rfl
@[simp] theorem State.setPulseAge_bus (x : Nat) : (s.setPulseAge x).bus = s.bus := rfl
@[simp] theorem State.setPulseAge_peers (x : Nat) : (s.setPulseAge x).peers = s.peers := rfl
@[simp] theorem State.setPulseAge_share (x : Nat) : (s.setPulseAge x).share = s.share := rfl
@[simp] theorem State.setPulseAge_dish (x : Nat) : (s.setPulseAge x).dish = s.dish := rfl
@[simp] theorem State.setPulseAge_stock (x : Nat) : (s.setPulseAge x).stock = s.stock := rfl
@[simp] theorem State.setPulseAge_waves (x : Nat) : (s.setPulseAge x).waves = s.waves := rfl
@[simp] theorem State.setPulseAge_paging (x : Nat) : (s.setPulseAge x).paging = s.paging := rfl
@[simp] theorem State.setPulseAge_port (x : Nat) : (s.setPulseAge x).port = s.port := rfl

@[simp] theorem State.setHeat_pending (x : Heat) : (s.setHeat x).pending = s.pending := rfl
@[simp] theorem State.setHeat_resetting (x : Heat) : (s.setHeat x).resetting = s.resetting := rfl
@[simp] theorem State.setHeat_life (x : Heat) : (s.setHeat x).life = s.life := rfl
@[simp] theorem State.setHeat_profile (x : Heat) : (s.setHeat x).profile = s.profile := rfl
@[simp] theorem State.setHeat_scan (x : Heat) : (s.setHeat x).scan = s.scan := rfl
@[simp] theorem State.setHeat_lines (x : Heat) : (s.setHeat x).lines = s.lines := rfl
@[simp] theorem State.setHeat_pulseAge (x : Heat) : (s.setHeat x).pulseAge = s.pulseAge := rfl
@[simp] theorem State.setHeat_heat (x : Heat) : (s.setHeat x).heat = x := rfl
@[simp] theorem State.setHeat_bus (x : Heat) : (s.setHeat x).bus = s.bus := rfl
@[simp] theorem State.setHeat_peers (x : Heat) : (s.setHeat x).peers = s.peers := rfl
@[simp] theorem State.setHeat_share (x : Heat) : (s.setHeat x).share = s.share := rfl
@[simp] theorem State.setHeat_dish (x : Heat) : (s.setHeat x).dish = s.dish := rfl
@[simp] theorem State.setHeat_stock (x : Heat) : (s.setHeat x).stock = s.stock := rfl
@[simp] theorem State.setHeat_waves (x : Heat) : (s.setHeat x).waves = s.waves := rfl
@[simp] theorem State.setHeat_paging (x : Heat) : (s.setHeat x).paging = s.paging := rfl
@[simp] theorem State.setHeat_port (x : Heat) : (s.setHeat x).port = s.port := rfl

@[simp] theorem State.setBus_pending (x : Bus) : (s.setBus x).pending = s.pending := rfl
@[simp] theorem State.setBus_resetting (x : Bus) : (s.setBus x).resetting = s.resetting := rfl
@[simp] theorem State.setBus_life (x : Bus) : (s.setBus x).life = s.life := rfl
@[simp] theorem State.setBus_profile (x : Bus) : (s.setBus x).profile = s.profile := rfl
@[simp] theorem State.setBus_scan (x : Bus) : (s.setBus x).scan = s.scan := rfl
@[simp] theorem State.setBus_lines (x : Bus) : (s.setBus x).lines = s.lines := rfl
@[simp] theorem State.setBus_pulseAge (x : Bus) : (s.setBus x).pulseAge = s.pulseAge := rfl
@[simp] theorem State.setBus_heat (x : Bus) : (s.setBus x).heat = s.heat := rfl
@[simp] theorem State.setBus_bus (x : Bus) : (s.setBus x).bus = x := rfl
@[simp] theorem State.setBus_peers (x : Bus) : (s.setBus x).peers = s.peers := rfl
@[simp] theorem State.setBus_share (x : Bus) : (s.setBus x).share = s.share := rfl
@[simp] theorem State.setBus_dish (x : Bus) : (s.setBus x).dish = s.dish := rfl
@[simp] theorem State.setBus_stock (x : Bus) : (s.setBus x).stock = s.stock := rfl
@[simp] theorem State.setBus_waves (x : Bus) : (s.setBus x).waves = s.waves := rfl
@[simp] theorem State.setBus_paging (x : Bus) : (s.setBus x).paging = s.paging := rfl
@[simp] theorem State.setBus_port (x : Bus) : (s.setBus x).port = s.port := rfl

@[simp] theorem State.setPeers_pending (x : List Peer) : (s.setPeers x).pending = s.pending := rfl
@[simp] theorem State.setPeers_resetting (x : List Peer) : (s.setPeers x).resetting = s.resetting := rfl
@[simp] theorem State.setPeers_life (x : List Peer) : (s.setPeers x).life = s.life := rfl
@[simp] theorem State.setPeers_profile (x : List Peer) : (s.setPeers x).profile = s.profile := rfl
@[simp] theorem State.setPeers_scan (x : List Peer) : (s.setPeers x).scan = s.scan := rfl
@[simp] theorem State.setPeers_lines (x : List Peer) : (s.setPeers x).lines = s.lines := rfl
@[simp] theorem State.setPeers_pulseAge (x : List Peer) : (s.setPeers x).pulseAge = s.pulseAge := rfl
@[simp] theorem State.setPeers_heat (x : List Peer) : (s.setPeers x).heat = s.heat := rfl
@[simp] theorem State.setPeers_bus (x : List Peer) : (s.setPeers x).bus = s.bus := rfl
@[simp] theorem State.setPeers_peers (x : List Peer) : (s.setPeers x).peers = x := rfl
@[simp] theorem State.setPeers_share (x : List Peer) : (s.setPeers x).share = s.share := rfl
@[simp] theorem State.setPeers_dish (x : List Peer) : (s.setPeers x).dish = s.dish := rfl
@[simp] theorem State.setPeers_stock (x : List Peer) : (s.setPeers x).stock = s.stock := rfl
@[simp] theorem State.setPeers_waves (x : List Peer) : (s.setPeers x).waves = s.waves := rfl
@[simp] theorem State.setPeers_paging (x : List Peer) : (s.setPeers x).paging = s.paging := rfl
@[simp] theorem State.setPeers_port (x : List Peer) : (s.setPeers x).port = s.port := rfl

@[simp] theorem State.setShare_pending (x : Share) : (s.setShare x).pending = s.pending := rfl
@[simp] theorem State.setShare_resetting (x : Share) : (s.setShare x).resetting = s.resetting := rfl
@[simp] theorem State.setShare_life (x : Share) : (s.setShare x).life = s.life := rfl
@[simp] theorem State.setShare_profile (x : Share) : (s.setShare x).profile = s.profile := rfl
@[simp] theorem State.setShare_scan (x : Share) : (s.setShare x).scan = s.scan := rfl
@[simp] theorem State.setShare_lines (x : Share) : (s.setShare x).lines = s.lines := rfl
@[simp] theorem State.setShare_pulseAge (x : Share) : (s.setShare x).pulseAge = s.pulseAge := rfl
@[simp] theorem State.setShare_heat (x : Share) : (s.setShare x).heat = s.heat := rfl
@[simp] theorem State.setShare_bus (x : Share) : (s.setShare x).bus = s.bus := rfl
@[simp] theorem State.setShare_peers (x : Share) : (s.setShare x).peers = s.peers := rfl
@[simp] theorem State.setShare_share (x : Share) : (s.setShare x).share = x := rfl
@[simp] theorem State.setShare_dish (x : Share) : (s.setShare x).dish = s.dish := rfl
@[simp] theorem State.setShare_stock (x : Share) : (s.setShare x).stock = s.stock := rfl
@[simp] theorem State.setShare_waves (x : Share) : (s.setShare x).waves = s.waves := rfl
@[simp] theorem State.setShare_paging (x : Share) : (s.setShare x).paging = s.paging := rfl
@[simp] theorem State.setShare_port (x : Share) : (s.setShare x).port = s.port := rfl

@[simp] theorem State.setDish_pending (x : Dish) : (s.setDish x).pending = s.pending := rfl
@[simp] theorem State.setDish_resetting (x : Dish) : (s.setDish x).resetting = s.resetting := rfl
@[simp] theorem State.setDish_life (x : Dish) : (s.setDish x).life = s.life := rfl
@[simp] theorem State.setDish_profile (x : Dish) : (s.setDish x).profile = s.profile := rfl
@[simp] theorem State.setDish_scan (x : Dish) : (s.setDish x).scan = s.scan := rfl
@[simp] theorem State.setDish_lines (x : Dish) : (s.setDish x).lines = s.lines := rfl
@[simp] theorem State.setDish_pulseAge (x : Dish) : (s.setDish x).pulseAge = s.pulseAge := rfl
@[simp] theorem State.setDish_heat (x : Dish) : (s.setDish x).heat = s.heat := rfl
@[simp] theorem State.setDish_bus (x : Dish) : (s.setDish x).bus = s.bus := rfl
@[simp] theorem State.setDish_peers (x : Dish) : (s.setDish x).peers = s.peers := rfl
@[simp] theorem State.setDish_share (x : Dish) : (s.setDish x).share = s.share := rfl
@[simp] theorem State.setDish_dish (x : Dish) : (s.setDish x).dish = x := rfl
@[simp] theorem State.setDish_stock (x : Dish) : (s.setDish x).stock = s.stock := rfl
@[simp] theorem State.setDish_waves (x : Dish) : (s.setDish x).waves = s.waves := rfl
@[simp] theorem State.setDish_paging (x : Dish) : (s.setDish x).paging = s.paging := rfl
@[simp] theorem State.setDish_port (x : Dish) : (s.setDish x).port = s.port := rfl

@[simp] theorem State.setStock_pending (x : Stock) : (s.setStock x).pending = s.pending := rfl
@[simp] theorem State.setStock_resetting (x : Stock) : (s.setStock x).resetting = s.resetting := rfl
@[simp] theorem State.setStock_life (x : Stock) : (s.setStock x).life = s.life := rfl
@[simp] theorem State.setStock_profile (x : Stock) : (s.setStock x).profile = s.profile := rfl
@[simp] theorem State.setStock_scan (x : Stock) : (s.setStock x).scan = s.scan := rfl
@[simp] theorem State.setStock_lines (x : Stock) : (s.setStock x).lines = s.lines := rfl
@[simp] theorem State.setStock_pulseAge (x : Stock) : (s.setStock x).pulseAge = s.pulseAge := rfl
@[simp] theorem State.setStock_heat (x : Stock) : (s.setStock x).heat = s.heat := rfl
@[simp] theorem State.setStock_bus (x : Stock) : (s.setStock x).bus = s.bus := rfl
@[simp] theorem State.setStock_peers (x : Stock) : (s.setStock x).peers = s.peers := rfl
@[simp] theorem State.setStock_share (x : Stock) : (s.setStock x).share = s.share := rfl
@[simp] theorem State.setStock_dish (x : Stock) : (s.setStock x).dish = s.dish := rfl
@[simp] theorem State.setStock_stock (x : Stock) : (s.setStock x).stock = x := rfl
@[simp] theorem State.setStock_waves (x : Stock) : (s.setStock x).waves = s.waves := rfl
@[simp] theorem State.setStock_paging (x : Stock) : (s.setStock x).paging = s.paging := rfl
@[simp] theorem State.setStock_port (x : Stock) : (s.setStock x).port = s.port := rfl

@[simp] theorem State.setWaves_pending (x : List Wave) : (s.setWaves x).pending = s.pending := rfl
@[simp] theorem State.setWaves_resetting (x : List Wave) : (s.setWaves x).resetting = s.resetting := rfl
@[simp] theorem State.setWaves_life (x : List Wave) : (s.setWaves x).life = s.life := rfl
@[simp] theorem State.setWaves_profile (x : List Wave) : (s.setWaves x).profile = s.profile := rfl
@[simp] theorem State.setWaves_scan (x : List Wave) : (s.setWaves x).scan = s.scan := rfl
@[simp] theorem State.setWaves_lines (x : List Wave) : (s.setWaves x).lines = s.lines := rfl
@[simp] theorem State.setWaves_pulseAge (x : List Wave) : (s.setWaves x).pulseAge = s.pulseAge := rfl
@[simp] theorem State.setWaves_heat (x : List Wave) : (s.setWaves x).heat = s.heat := rfl
@[simp] theorem State.setWaves_bus (x : List Wave) : (s.setWaves x).bus = s.bus := rfl
@[simp] theorem State.setWaves_peers (x : List Wave) : (s.setWaves x).peers = s.peers := rfl
@[simp] theorem State.setWaves_share (x : List Wave) : (s.setWaves x).share = s.share := rfl
@[simp] theorem State.setWaves_dish (x : List Wave) : (s.setWaves x).dish = s.dish := rfl
@[simp] theorem State.setWaves_stock (x : List Wave) : (s.setWaves x).stock = s.stock := rfl
@[simp] theorem State.setWaves_waves (x : List Wave) : (s.setWaves x).waves = x := rfl
@[simp] theorem State.setWaves_paging (x : List Wave) : (s.setWaves x).paging = s.paging := rfl
@[simp] theorem State.setWaves_port (x : List Wave) : (s.setWaves x).port = s.port := rfl

@[simp] theorem State.setPaging_pending (x : Paging) : (s.setPaging x).pending = s.pending := rfl
@[simp] theorem State.setPaging_resetting (x : Paging) : (s.setPaging x).resetting = s.resetting := rfl
@[simp] theorem State.setPaging_life (x : Paging) : (s.setPaging x).life = s.life := rfl
@[simp] theorem State.setPaging_profile (x : Paging) : (s.setPaging x).profile = s.profile := rfl
@[simp] theorem State.setPaging_scan (x : Paging) : (s.setPaging x).scan = s.scan := rfl
@[simp] theorem State.setPaging_lines (x : Paging) : (s.setPaging x).lines = s.lines := rfl
@[simp] theorem State.setPaging_pulseAge (x : Paging) : (s.setPaging x).pulseAge = s.pulseAge := rfl
@[simp] theorem State.setPaging_heat (x : Paging) : (s.setPaging x).heat = s.heat := rfl
@[simp] theorem State.setPaging_bus (x : Paging) : (s.setPaging x).bus = s.bus := rfl
@[simp] theorem State.setPaging_peers (x : Paging) : (s.setPaging x).peers = s.peers := rfl
@[simp] theorem State.setPaging_share (x : Paging) : (s.setPaging x).share = s.share := rfl
@[simp] theorem State.setPaging_dish (x : Paging) : (s.setPaging x).dish = s.dish := rfl
@[simp] theorem State.setPaging_stock (x : Paging) : (s.setPaging x).stock = s.stock := rfl
@[simp] theorem State.setPaging_waves (x : Paging) : (s.setPaging x).waves = s.waves := rfl
@[simp] theorem State.setPaging_paging (x : Paging) : (s.setPaging x).paging = x := rfl
@[simp] theorem State.setPaging_port (x : Paging) : (s.setPaging x).port = s.port := rfl

@[simp] theorem State.setPort_pending (x : Port) : (s.setPort x).pending = s.pending := rfl
@[simp] theorem State.setPort_resetting (x : Port) : (s.setPort x).resetting = s.resetting := rfl
@[simp] theorem State.setPort_life (x : Port) : (s.setPort x).life = s.life := rfl
@[simp] theorem State.setPort_profile (x : Port) : (s.setPort x).profile = s.profile := rfl
@[simp] theorem State.setPort_scan (x : Port) : (s.setPort x).scan = s.scan := rfl
@[simp] theorem State.setPort_lines (x : Port) : (s.setPort x).lines = s.lines := rfl
@[simp] theorem State.setPort_pulseAge (x : Port) : (s.setPort x).pulseAge = s.pulseAge := rfl
@[simp] theorem State.setPort_heat (x : Port) : (s.setPort x).heat = s.heat := rfl
@[simp] theorem State.setPort_bus (x : Port) : (s.setPort x).bus = s.bus := rfl
@[simp] theorem State.setPort_peers (x : Port) : (s.setPort x).peers = s.peers := rfl
@[simp] theorem State.setPort_share (x : Port) : (s.setPort x).share = s.share := rfl
@[simp] theorem State.setPort_dish (x : Port) : (s.setPort x).dish = s.dish := rfl
@[simp] theorem State.setPort_stock (x : Port) : (s.setPort x).stock = s.stock := rfl
@[simp] theorem State.setPort_waves (x : Port) : (s.setPort x).waves = s.waves := rfl
@[simp] theorem State.setPort_paging (x : Port) : (s.setPort x).paging = s.paging := rfl
@[simp] theorem State.setPort_port (x : Port) : (s.setPort x).port = x := rfl

end

/-! ## Frames -/

/-- Nothing changes. -/
theorem SameExcept.refl (bs : List Block) (s : State) : SameExcept bs s s := by
  intro b _
  cases b <;> rfl

/-- Agreement on a block is transitive. -/
theorem Block.agree_trans {b : Block} {s t u : State} (h : b.agree s t) (g : b.agree t u) : b.agree s u := by
  cases b <;> exact Eq.trans g h

/-- Two frames of the same blocks compose. -/
theorem SameExcept.trans {bs : List Block} {s t u : State} (h : SameExcept bs s t) (g : SameExcept bs t u) :
    SameExcept bs s u := fun b hb => Block.agree_trans (h b hb) (g b hb)

/-- A frame of fewer blocks is a frame of more. -/
theorem SameExcept.mono {bs cs : List Block} {s t : State} (h : SameExcept bs s t) (hs : ∀ b ∈ bs, b ∈ cs) :
    SameExcept cs s t := fun b hb => h b (fun hm => hb (hs b hm))

/-- Two frames compose under the blocks of both. -/
theorem SameExcept.comp {as bs cs : List Block} {s t u : State} (h : SameExcept as s t) (g : SameExcept bs t u)
    (ha : ∀ b ∈ as, b ∈ cs) (hb : ∀ b ∈ bs, b ∈ cs) : SameExcept cs s u := (h.mono ha).trans (g.mono hb)

/-- A guarded effect has the frame of the effect. -/
theorem doWhen_frame {bs : List Block} {f : State → State} (c : Bool) (s : State) (h : SameExcept bs s (f s)) :
    SameExcept bs s (doWhen c f s) := by
  unfold doWhen
  cases c
  · exact SameExcept.refl bs s
  · exact h

/-- A choice has the frame of both branches. -/
theorem ite_frame {bs : List Block} {c : Prop} [Decidable c] {s t u : State} (h : SameExcept bs s t)
    (g : SameExcept bs s u) : SameExcept bs s (if c then t else u) := by
  split
  · exact h
  · exact g

/-- A fold has the frame of its step. -/
theorem foldl_frame {α : Type} {bs : List Block} {f : State → α → State} (h : ∀ s a, SameExcept bs s (f s a))
    (xs : List α) (s : State) : SameExcept bs s (xs.foldl f s) := by
  induction xs generalizing s with
  | nil => exact SameExcept.refl bs s
  | cons a as ih => exact (h s a).trans (ih (f s a))

theorem State.setPending_frame (s : State) (x : List Instr) : SameExcept [.pending] s (s.setPending x) := by
  intro b hb
  cases b <;> first | rfl | exact absurd (List.mem_singleton.mpr rfl) hb

theorem State.setResetting_frame (s : State) (x : Resetting) : SameExcept [.resetting] s (s.setResetting x) := by
  intro b hb
  cases b <;> first | rfl | exact absurd (List.mem_singleton.mpr rfl) hb

theorem State.setLife_frame (s : State) (x : Life) : SameExcept [.life] s (s.setLife x) := by
  intro b hb
  cases b <;> first | rfl | exact absurd (List.mem_singleton.mpr rfl) hb

theorem State.setProfile_frame (s : State) (x : Profile) : SameExcept [.profile] s (s.setProfile x) := by
  intro b hb
  cases b <;> first | rfl | exact absurd (List.mem_singleton.mpr rfl) hb

theorem State.setScan_frame (s : State) (x : Scanner) : SameExcept [.scan] s (s.setScan x) := by
  intro b hb
  cases b <;> first | rfl | exact absurd (List.mem_singleton.mpr rfl) hb

theorem State.setLines_frame (s : State) (x : Vector Line 6) : SameExcept [.lines] s (s.setLines x) := by
  intro b hb
  cases b <;> first | rfl | exact absurd (List.mem_singleton.mpr rfl) hb

theorem State.setPulseAge_frame (s : State) (x : Nat) : SameExcept [.pulseAge] s (s.setPulseAge x) := by
  intro b hb
  cases b <;> first | rfl | exact absurd (List.mem_singleton.mpr rfl) hb

theorem State.setHeat_frame (s : State) (x : Heat) : SameExcept [.heat] s (s.setHeat x) := by
  intro b hb
  cases b <;> first | rfl | exact absurd (List.mem_singleton.mpr rfl) hb

theorem State.setBus_frame (s : State) (x : Bus) : SameExcept [.bus] s (s.setBus x) := by
  intro b hb
  cases b <;> first | rfl | exact absurd (List.mem_singleton.mpr rfl) hb

theorem State.setPeers_frame (s : State) (x : List Peer) : SameExcept [.peers] s (s.setPeers x) := by
  intro b hb
  cases b <;> first | rfl | exact absurd (List.mem_singleton.mpr rfl) hb

theorem State.setShare_frame (s : State) (x : Share) : SameExcept [.share] s (s.setShare x) := by
  intro b hb
  cases b <;> first | rfl | exact absurd (List.mem_singleton.mpr rfl) hb

theorem State.setDish_frame (s : State) (x : Dish) : SameExcept [.dish] s (s.setDish x) := by
  intro b hb
  cases b <;> first | rfl | exact absurd (List.mem_singleton.mpr rfl) hb

theorem State.setStock_frame (s : State) (x : Stock) : SameExcept [.stock] s (s.setStock x) := by
  intro b hb
  cases b <;> first | rfl | exact absurd (List.mem_singleton.mpr rfl) hb

theorem State.setWaves_frame (s : State) (x : List Wave) : SameExcept [.waves] s (s.setWaves x) := by
  intro b hb
  cases b <;> first | rfl | exact absurd (List.mem_singleton.mpr rfl) hb

theorem State.setPaging_frame (s : State) (x : Paging) : SameExcept [.paging] s (s.setPaging x) := by
  intro b hb
  cases b <;> first | rfl | exact absurd (List.mem_singleton.mpr rfl) hb

theorem State.setPort_frame (s : State) (x : Port) : SameExcept [.port] s (s.setPort x) := by
  intro b hb
  cases b <;> first | rfl | exact absurd (List.mem_singleton.mpr rfl) hb

/-! ## What a frame keeps, block by block -/

theorem SameExcept.pending {bs : List Block} {s t : State} (h : SameExcept bs s t) (hb : Block.pending ∉ bs := by decide) :
    t.pending = s.pending := h .pending hb

theorem SameExcept.resetting {bs : List Block} {s t : State} (h : SameExcept bs s t) (hb : Block.resetting ∉ bs := by decide) :
    t.resetting = s.resetting := h .resetting hb

theorem SameExcept.life {bs : List Block} {s t : State} (h : SameExcept bs s t) (hb : Block.life ∉ bs := by decide) :
    t.life = s.life := h .life hb

theorem SameExcept.profile {bs : List Block} {s t : State} (h : SameExcept bs s t) (hb : Block.profile ∉ bs := by decide) :
    t.profile = s.profile := h .profile hb

theorem SameExcept.scan {bs : List Block} {s t : State} (h : SameExcept bs s t) (hb : Block.scan ∉ bs := by decide) :
    t.scan = s.scan := h .scan hb

theorem SameExcept.lines {bs : List Block} {s t : State} (h : SameExcept bs s t) (hb : Block.lines ∉ bs := by decide) :
    t.lines = s.lines := h .lines hb

theorem SameExcept.pulseAge {bs : List Block} {s t : State} (h : SameExcept bs s t) (hb : Block.pulseAge ∉ bs := by decide) :
    t.pulseAge = s.pulseAge := h .pulseAge hb

theorem SameExcept.heat {bs : List Block} {s t : State} (h : SameExcept bs s t) (hb : Block.heat ∉ bs := by decide) :
    t.heat = s.heat := h .heat hb

theorem SameExcept.bus {bs : List Block} {s t : State} (h : SameExcept bs s t) (hb : Block.bus ∉ bs := by decide) :
    t.bus = s.bus := h .bus hb

theorem SameExcept.peers {bs : List Block} {s t : State} (h : SameExcept bs s t) (hb : Block.peers ∉ bs := by decide) :
    t.peers = s.peers := h .peers hb

theorem SameExcept.share {bs : List Block} {s t : State} (h : SameExcept bs s t) (hb : Block.share ∉ bs := by decide) :
    t.share = s.share := h .share hb

theorem SameExcept.dish {bs : List Block} {s t : State} (h : SameExcept bs s t) (hb : Block.dish ∉ bs := by decide) :
    t.dish = s.dish := h .dish hb

theorem SameExcept.stock {bs : List Block} {s t : State} (h : SameExcept bs s t) (hb : Block.stock ∉ bs := by decide) :
    t.stock = s.stock := h .stock hb

theorem SameExcept.waves {bs : List Block} {s t : State} (h : SameExcept bs s t) (hb : Block.waves ∉ bs := by decide) :
    t.waves = s.waves := h .waves hb

theorem SameExcept.paging {bs : List Block} {s t : State} (h : SameExcept bs s t) (hb : Block.paging ∉ bs := by decide) :
    t.paging = s.paging := h .paging hb

theorem SameExcept.port {bs : List Block} {s t : State} (h : SameExcept bs s t) (hb : Block.port ∉ bs := by decide) :
    t.port = s.port := h .port hb

end Sys2Proof.Machine
end

