-- ==== Sys2Proof/WellFormed.lean ====
section
/-! DEFINITION. Which terms of Instr are commands that can reach the station: every field fits what carries it (chapter 12)
and every name lies in the range the manual gives it. -/

namespace Sys2Proof

/-- A number fits one byte. -/
@[simp] def fitsByte (n : Nat) : Bool := decide (n < 256)

/-- A number fits two bytes. -/
@[simp] def fitsWord (n : Nat) : Bool := decide (n < 65536)

/-- A station identifier (chapter 4). -/
@[simp] def isStation (n : Nat) : Bool := decide (1 ≤ n) && decide (n ≤ 30)

/-- A number of 1..255: of a wave, a call or a tag of the page queue. -/
@[simp] def isNumber (n : Nat) : Bool := decide (1 ≤ n) && decide (n ≤ 255)

/-- The parameter words of a command record: their count fits the length byte (section 12.2). -/
@[simp] def fitsRecord (p : List Word) : Bool := decide (p.length < 256)

/-- The codes of the command catalogue (section 11.5). -/
def catalogueCodes : List Nat :=
  [0, 1, 2, 3, 4, 5, 6, 7, 16, 17, 18, 32, 33, 34, 35, 36, 37, 48, 49, 64, 65, 66, 67, 68, 80, 81, 82, 83, 84]

/-- Four asks that fit a frame. -/
@[simp] def Asks.fits (a : Asks) : Bool := fitsWord a.c3 && fitsWord a.c2 && fitsWord a.c1 && fitsWord a.c0

/-- A warmer entry that fits a frame. -/
@[simp] def StockEntry.fits (e : StockEntry) : Bool := fitsByte e.channel && fitsWord e.ready && fitsWord e.available

/-- A STOCK body that fits a frame: at most eight warmers (section 12.1). -/
@[simp] def StockBody.fits (b : StockBody) : Bool :=
  b.clean.all fitsWord && b.warmers.all StockEntry.fits && decide (b.warmers.length ≤ 8)

/-- A frame whose fields fit its body (section 12.1). -/
@[simp] def Frame.fits : Frame → Bool
  | .announce b => fitsByte b.epoch && fitsByte b.sequence && b.asks.fits && fitsWord b.drawing
  | .pageCall b => fitsByte b.number && fitsByte b.reason && fitsWord b.subject && fitsByte b.group && fitsByte b.urgency
  | .pageState b => fitsByte b.origin && fitsByte b.number && fitsByte b.reason && fitsWord b.subject &&
      fitsByte b.outcome && fitsWord b.detail
  | .pageCancel n => fitsByte n
  | .holdAsk b => fitsByte b.target && fitsByte b.wave && fitsByte b.channel && fitsWord b.count && fitsWord b.duration
  | .holdAnswer b => fitsByte b.target && fitsByte b.wave && fitsByte b.channel && fitsByte b.result &&
      fitsWord b.count && fitsByte b.tag
  | .holdState b => fitsByte b.target && fitsByte b.tag && fitsByte b.wave && fitsByte b.channel && fitsByte b.cause &&
      fitsWord b.count
  | .holdFree b => fitsByte b.target && fitsByte b.tag && fitsByte b.wave && fitsByte b.channel
  | .stock b => b.fits

/-- A received frame: a peer's identifier and a body that fits. -/
@[simp] def fitsFrame (sender : Nat) (f : Frame) : Bool := isStation sender && f.fits

/-- The bytes of a complete frame: a header, at most 48 body bytes and a check word. -/
@[simp] def fitsBytes (bytes : List Byte) : Bool := decide (5 ≤ bytes.length) && decide (bytes.length ≤ 53)

/-- A well-formed command. -/
@[simp] def Instr.wellFormed : Instr → Bool
  | .restart p | .heat p | .heatOff p | .channelClear p | .profilePut p | .join p | .leave p | .setClock p | .dishOn p
  | .dishOff p | .dishSpeed p | .dishResume p | .nextRack p | .pickup p | .load p | .take p | .wavePlan p | .waveFire p
  | .wavePlate p | .waveClose p | .waveCancel p | .page p | .callEnd p | .duty p | .allCall p | .allCallEnd p
  | .nothing p | .query p | .readReport p => fitsRecord p
  | .badFrame bytes => decide (bytes.length ≤ 53)
  | .frameMismatch bytes => fitsBytes bytes
  | .duplicateId kind => fitsByte kind
  | .announce sender b => fitsFrame sender (.announce b)
  | .stock sender b => fitsFrame sender (.stock b)
  | .holdAsk sender b => fitsFrame sender (.holdAsk b)
  | .holdFree sender b => fitsFrame sender (.holdFree b)
  | .holdAnswer sender b => fitsFrame sender (.holdAnswer b)
  | .holdState sender b => fitsFrame sender (.holdState b)
  | .pageCall sender b => fitsFrame sender (.pageCall b)
  | .pageState sender b => fitsFrame sender (.pageState b)
  | .pageCancel sender number => fitsFrame sender (.pageCancel number)
  | .silenceStale peer => isStation peer
  | .silenceRemove peer => isStation peer
  | .stockAgeExpiry peer => isStation peer
  | .holdExpiry tag => decide (tag ≤ 15)
  | .cookTimer wave => isNumber wave
  | .askCheck wave => isNumber wave
  | .answerTimerExpiry wave _ => isNumber wave
  | .broadcastTimerExpiry number => isNumber number
  | .busyTimerExpiry tag => isNumber tag
  | .ackTimerExpiry tag => isNumber tag
  | .result tag _ => fitsByte tag
  | .ack address tag => fitsWord address && fitsByte tag
  | .dutyRecord address _ => fitsWord address
  | .unknownCommand code => !catalogueCodes.contains code.toNat
  | .resetAssert | .resetRelease | .restartRelease | .sweepCompletion _ | .linePinChange _ _ | .lineEdge _
  | .encoderPulse | .windowStart | .onTimeEnd _ | .frameStart | .arbitrationLost | .bitFault | .frameResult _
  | .lineStuck | .lineClear | .leavingAnnounceTimeout | .announceTick | .listeningTimerExpiry | .clockSecond
  | .jamTimerExpiry | .rinseHoldTimeExpiry | .idleTimeExpiry | .coolingReset _ | .stockTick | .modemRecordSent
  | .resultTimeout | .ready | .modemInterbyteTimeout | .allRecordDue | .allCallExpiry | .transactionStart
  | .incompleteCommand _ | .statusOnlyEnd | .startByte | .modemRecordDiscarded _ => true

end Sys2Proof
end

