-- ==== Sys2Proof/Certificates/Slice0/Obligations.lean ====
section
/-! DEFINITION. The statements for the provers. Each names the rules of the manual it formalises or rests on; where it rests
on a choice of the model it names the log entry. -/

open Sys2Proof Sys2Proof.Machine

/-- For every command c, rest of the queue and state s whose queue is c followed by that rest, step answers what exec
answers for c on s with the queue's rest. (11_panel_port_and_commands.md, R182, 00_scope.md, Block overview) -/
def Obligations.StepTakesFrontCommand : Prop :=
  ∀ (c : Instr) (rest : List Instr) (s : State), s.pending = c :: rest → step s = exec c (s.setPending rest)

/-- The reset state is UNJOINED with join number 0, clock 0 and station identifier 0, no radio, no dish line and every
channel of kind UNUSED and IDLE; readings, currents, draw history and sweep phase are 0, the pulse age 65,535; the
grant in force is 0 with the window clock stopped; queue, peer table, wave table, call list, page queue, hold table,
loads, rack queue and report queue are empty; the share unit's asks, cut, drawing, grant, shares, next sequence and
unacknowledged count are 0 with no limit point, and its clocks stopped; the dish line is OFF with no hold, next rack
number 1 and a requested speed of 150; next call number and tag are 1, the reply is NONE and the gap flag clear. Every
line's pin and taken level stand high there, with no debounce, by the model's choice (log entry 5). What the manual
only implies there is the model's (log entry 46). (R1, R5, R10, R17, R53, R55, R69, R87, R99, R143, R145, R190) -/
def Obligations.ResetStateHoldsTheManualsValues : Prop :=
  State.reset.resetting = .no ∧ State.reset.life.station = .unjoined ∧ State.reset.life.joinNumber = 0 ∧
    State.reset.life.clock = 0 ∧ State.reset.profile.stationId = 0 ∧ State.reset.profile.radio = false ∧
    State.reset.profile.dish.enable = false ∧
    (∀ k : Chan, State.reset.profile.channels[k].kind = .unused ∧ State.reset.heat.channels[k].state = .idle ∧
      State.reset.heat.channels[k].heater = false ∧ State.reset.scan.inputs[k].lastGood = 0 ∧
      State.reset.scan.inputs[k].faulted = false ∧ State.reset.stock.warmers[k].loads = []) ∧
    State.reset.scan.i0 = 0 ∧ State.reset.scan.i1 = 0 ∧ drawingOf State.reset.scan = 0 ∧
    State.reset.pulseAge = 65535 ∧ State.reset.heat.grant = 0 ∧ State.reset.heat.window.running = false ∧
    State.reset.bus.waiting = [] ∧ State.reset.bus.onLine = none ∧ State.reset.peers = [] ∧ State.reset.waves = [] ∧
    State.reset.paging.calls = [] ∧ State.reset.paging.queue = [] ∧ State.reset.stock.holds = [] ∧
    State.reset.dish.racks = [] ∧ State.reset.dish.mode = .off ∧ anyHold State.reset.dish.holds = false ∧
    State.reset.dish.nextNumber = 1 ∧ State.reset.dish.requested = 150 ∧
    (∀ l : LineNo, State.reset.lines[l] = { pin := true, taken := true, debounce := none }) ∧
    State.reset.scan.history = Vector.replicate 4 0 ∧ State.reset.scan.phase = 0 ∧
    State.reset.share.asks = .zero ∧ State.reset.share.grant = 0 ∧ State.reset.share.listen = none ∧
    State.reset.share.shares = .zero ∧ State.reset.share.drawing = 0 ∧ State.reset.share.ceilingCut = 0 ∧
    State.reset.share.limit = .none ∧ State.reset.share.nextSequence = 0 ∧ State.reset.share.unacked = 0 ∧
    State.reset.share.tick.running = false ∧ State.reset.stock.tick.running = false ∧
    State.reset.paging.nextNumber = 1 ∧ State.reset.paging.nextTag = 1 ∧
    State.reset.port.reply = .none ∧ State.reset.port.reports = [] ∧ State.reset.port.gap = false

/-- In a joined state LEAVE answers a next state in UNJOINED with the join number, clock, profile, scanner, lines and
pulse age kept, the heat channels, share unit, peer table, dish line, plate stock unit, wave table and paging unit at
their reset values, and a report queue that holds the STATION report LEFT alone, with the gap flag set if it was or if
the queue it empties held a report. From ACTIVE or ISOLATED the leaving ANNOUNCE, with the identifier of this moment,
is the one waiting frame and the leave timer starts; from LISTENING or DUPLICATE the queue is empty. The reply is
DONE. (R41, R53, R81, R94, R97, R99, R143, R145, R190) -/
def Obligations.LeaveClearsTheRuntimeTables : Prop :=
  ∀ s : State, portDeaf s = false → joined s = true → ∃ t, exec (.leave []) s = .next t ∧
    t.life = { s.life with station := .unjoined } ∧ t.heat = Heat.initial s.profile ∧ t.share = Share.initial ∧
    t.peers = [] ∧ t.dish = Dish.initial s.profile.dish ∧ t.stock = Stock.initial ∧ t.waves = [] ∧
    t.paging = Paging.initial s.profile ∧ t.port.reply = .done 4 false .none ∧ t.port.transaction = .none ∧
    t.port.reports = [⟨s.life.clock, .station s.life.station .unjoined s.life.joinNumber .left⟩] ∧
    t.port.gap = (s.port.gap || !s.port.reports.isEmpty) ∧
    (maySend s = true → t.bus.waiting = [{ frame := .announce ⟨s.life.joinNumber, s.share.nextSequence, .zero, 0, true⟩,
                                           sender := s.profile.stationId, age := s.bus.nextAge, deliver := false }] ∧
      t.bus.onLine = s.bus.onLine.map (fun e => { e with deliver := false }) ∧ t.bus.leaveTimer = some 0 ∧
      t.bus.stuck = s.bus.stuck) ∧
    (maySend s = false → t.bus.waiting = [] ∧ t.bus.onLine = none ∧ t.bus.stuck = false) ∧
    SameExcept [.life, .heat, .bus, .peers, .share, .dish, .stock, .waves, .paging, .port] s t

/-- TRANSACTION_START out of reset forms the status byte of that moment, whose bits 7..5 are the station state, 4 report
waiting, 3 channel tripped, 2 dish stopped, 1 radio DOWN and 0 one. In a running transaction the bytes out are the
status byte, code, form, reason, result length and result bytes of the reply slot, then 0; in reset, and in a
transaction that a reset has caught, 0. A transaction that ends after the status byte leaves the reply; an incomplete
record leaves REFUSED MALFORMED with the code, or NOTHING's, an unknown code REFUSED UNKNOWN, and NOTHING leaves NONE,
with nothing else changed. READ-REPORT removes the oldest report and returns it with the gap flag, which it clears;
with an empty queue it answers EMPTY and leaves the flag. In reset, or in a transaction that a reset has caught, each
of these ends the transaction alone, and a start is discarded whole. (R182, R183, R184, R185, R191, R192) -/
def Obligations.TransactionsReadTheStatusAndTheReports : Prop :=
  ∀ s : State,
    (awake s = true → exec .transactionStart s =
      .next (s.setPort { s.port with transaction := .running (statusByte s) })) ∧
    (awake s = false → exec .transactionStart s = .next (s.setPort { s.port with transaction := .dead })) ∧
    ((statusByte s).toNat / 32 = stationCode s.life.station ∧
      ((statusByte s).getLsbD 4 = true ↔ s.port.reports ≠ []) ∧
      ((statusByte s).getLsbD 3 = true ↔ ∃ k : Chan, isTripped s.heat.channels[k].state = true) ∧
      ((statusByte s).getLsbD 2 = true ↔ s.dish.holds ≠ HoldSet.empty ∨ s.dish.mode = .jam) ∧
      ((statusByte s).getLsbD 1 = true ↔ s.profile.radio = true ∧ s.paging.radioUp = false) ∧
      (statusByte s).getLsbD 0 = true) ∧
    (∀ status : Byte, awake s = true → s.port.transaction = .running status →
      byteOut s 0 = status ∧ (∀ n, byteOut s (n + 1) = (replyRecord s.port.reply).getD n 0) ∧
      (∀ n, (resultBytes s.port.reply).length + 5 ≤ n → byteOut s n = 0) ∧
      byteOut s 4 = byteOf (resultBytes s.port.reply).length ∧ (resultBytes s.port.reply).length ≤ 200 ∧
      (s.port.reply = .none → byteOut s 1 = 255 ∧ byteOut s 2 = 0 ∧ byteOut s 3 = 0 ∧ byteOut s 4 = 0) ∧
      (∀ code clamped r, s.port.reply = .done code clamped r → byteOut s 1 = byteOf code ∧
        byteOut s 2 = (if clamped = true then 2 else 1) ∧ byteOut s 3 = 0) ∧
      (∀ code r, s.port.reply = .refused code r → byteOut s 1 = byteOf code ∧ byteOut s 2 = 3 ∧
        byteOut s 3 = byteOf (refusalCode r))) ∧
    (awake s = false ∨ (∀ status, s.port.transaction ≠ .running status) → ∀ n, byteOut s n = 0) ∧
    exec .statusOnlyEnd s = .next (s.setPort { s.port with transaction := .none }) ∧
    (portDeaf s = true → (∀ code, exec (.incompleteCommand code) s = exec .statusOnlyEnd s) ∧
      (∀ code, exec (.unknownCommand code) s = exec .statusOnlyEnd s) ∧
      (∀ p, exec (.nothing p) s = exec .statusOnlyEnd s ∧ exec (.readReport p) s = exec .statusOnlyEnd s)) ∧
    (portDeaf s = false →
      exec (.incompleteCommand none) s = .next (refusedWith 0 .malformed s) ∧
      (∀ code, exec (.incompleteCommand (some code)) s = .next (refusedWith code.toNat .malformed s) ∧
        exec (.unknownCommand code) s = .next (refusedWith code.toNat .unknown s)) ∧
      exec (.nothing []) s = .next (s.setPort { s.port with reply := .none, transaction := .none }) ∧
      (∀ (r : Report) (rest : List Report), s.port.reports = r :: rest → exec (.readReport []) s = .next (s.setPort
        { reply := .done 7 false (.report s.port.gap (some r)), reports := rest, gap := false,
          transaction := .none })) ∧
      (s.port.reports = [] → exec (.readReport []) s = .next (s.setPort
        { s.port with reply := .done 7 false (.report false none), transaction := .none })))

/-- At the reset state the capacities, the heater law, the charge law, the stock law, the naming law, the rising order of
the peer and wave tables, the spacing of the racks and the ranges of the feeder items hold. (R29, R30, R55, R68, R87,
R100, R132, R145, R161, R190) -/
def Obligations.ResetStateKeepsEveryLaw : Prop :=
  WithinCapacity State.reset ∧ HeaterLaw State.reset ∧ ChargeLaw State.reset ∧ StockLaw State.reset ∧
    NamesLaw State.reset.paging ∧ risingPeers State.reset.peers ∧ risingWaves State.reset.waves ∧
    spacedRacks State.reset.dish.racks ∧ FeederLaw State.reset.profile.feeder

/-- Out of reset in a joined state, LINE_STUCK on a line not yet judged stuck and LINE_CLEAR on a stuck one answer a next
state whose stuck condition is set or cleared and whose newest report is the LINE report at this clock; only the
controller and the port differ. A leaving timer at 500 ms or more answers a next state without any leaving ANNOUNCE
waiting, with the stuck condition and the timer cleared, and nothing else changed. Out of reset in a joined state,
BAD_FRAME answers a next state that differs at most in the acknowledge slot, which is recessive. FRAME_MISMATCH with a
sender of 1..30 other than the station's own drives the slot dominant and changes nothing else, with sender 0 or 31
leaves it recessive and changes nothing else, and with the station's own identifier is the DUPLICATE-ID event of its
kind byte. In UNJOINED neither changes anything. The slot is kept until the next received frame by the model's choice
(log entry 38). (R43, R45, R46, R50, R52, R53, R54) -/
def Obligations.LineFaultsAndDiscardedFramesAreContained : Prop :=
   (∀ s : State, awake s = true →
      (joined s = true → s.bus.stuck = false → ∃ t, exec .lineStuck s = .next t ∧ SameExcept [.bus, .port] s t ∧
        t.bus = { s.bus with stuck := true } ∧
        t.port.reports.getLast? = some { clock := s.life.clock, body := .line true } ∧
        t.port.reply = s.port.reply ∧ t.port.transaction = s.port.transaction) ∧
      (joined s = true → s.bus.stuck = true → ∃ t, exec .lineClear s = .next t ∧ SameExcept [.bus, .port] s t ∧
        t.bus = { s.bus with stuck := false } ∧
        t.port.reports.getLast? = some { clock := s.life.clock, body := .line false } ∧
        t.port.reply = s.port.reply ∧ t.port.transaction = s.port.transaction) ∧
      (∀ n, s.bus.leaveTimer = some n → 500 ≤ n → ∃ t, exec .leavingAnnounceTimeout s = .next t ∧
        SameExcept [.bus] s t ∧ t.bus = { s.bus with
          waiting := s.bus.waiting.filter (fun e => !isLeaving e.frame), stuck := false, leaveTimer := none })) ∧
   (∀ (bytes : List Byte) (s : State), awake s = true →
      (joined s = true → exec (.badFrame bytes) s = .next (s.setBus { s.bus with ackSlot := false })) ∧
      (joined s = true → 1 ≤ senderOf bytes → senderOf bytes ≤ 30 → senderOf bytes ≠ s.profile.stationId →
        exec (.frameMismatch bytes) s = .next (s.setBus { s.bus with ackSlot := true })) ∧
      (joined s = true → senderOf bytes = 0 ∨ senderOf bytes = 31 →
        exec (.frameMismatch bytes) s = .next (s.setBus { s.bus with ackSlot := false })) ∧
      (joined s = true → 1 ≤ senderOf bytes → senderOf bytes ≤ 30 → senderOf bytes = s.profile.stationId →
        exec (.frameMismatch bytes) s = exec (.duplicateId (kindOf bytes)) s) ∧
      (joined s = false → exec (.badFrame bytes) s = .next s ∧ exec (.frameMismatch bytes) s = .next s))

/-- In a joined state SET-CLOCK answers a next state whose clock is the value clamped into 0..86,399 (LEAST and DEFAULT 0,
MOST 86,399), with the millisecond count toward the next second at 0, the reply DONE-CLAMPED exactly if the value was
larger, and nothing else changed. A due clock second out of reset answers a next state whose clock is one later modulo
86,400 and whose count toward the next second is 0; with no wave in the table nothing else changes. With an empty
queue a step answers a next state. The first due event, if one is due, is put into the queue. With none due, a station
held by the RESET pin, or with 250 ms of sweep phase, stays as it is, RESTART's reset is one ms shorter, and otherwise
one millisecond passes: a running period clock (second, window, tick, stock tick; 1,000, 10,000, 1,000, 5,000 ms)
counts one, or is due at its period; served times count up to the on-time where a heater is on; pulse age, silences,
stock ages, sweep phase and leave timer count up to their ends, the rinse time while the RINSE hold is set, the idle
time in ON without racks, the jam timer while the conveyor runs; debounces, holds' remaining times and the timers of
listening, waves and paging count down; nothing else changes. The order of due events, the grain and the wait for a
sweep's conversions are the model's choice (log entries 1 and 47), and so is that a wave's check timer stands still
outside the asking states (log entry 23) and that rinse and idle times count milliseconds (log entry 25). (R1, R6,
R10, R23, R30, R60, R65, R70, R95, R115, R187, 00_scope.md, Timebase) -/
def Obligations.ClockIsSetAndTimePassesOnAnEmptyQueue : Prop :=
   ((∀ (hi lo : Word) (v : Nat) (clamped : Bool) (s : State), portDeaf s = false → joined s = true →
      TakesWide 0 86399 0 hi lo v clamped → ∃ t, exec (.setClock [hi, lo]) s = .next t ∧ SameExcept [.life, .port] s t ∧
        Answered 5 clamped .none s t ∧
        t.life = { s.life with clock := v, second := { s.life.second with phase := 0, due := false } }) ∧
    ∀ s : State, awake s = true → s.life.second.due = true → ∃ t, exec .clockSecond s = .next t ∧
      t.life = { s.life with
        clock := (s.life.clock + 1) % 86400, second := { s.life.second with phase := 0, due := false } } ∧
      SameExcept [.life, .heat, .bus, .stock, .waves, .paging, .port] s t ∧
      (s.waves = [] → SameExcept [.life] s t)) ∧
   (∀ s : State, s.pending = [] →
      (∀ c, nextDue s = some c → step s = .next (s.setPending [c])) ∧
      (s.resetting = .pin → step s = .next s) ∧
      (∀ n, s.resetting = .restart (n + 1) → step s = .next (s.setResetting (.restart n))) ∧
      (nextDue s = none → s.resetting = .no → 250 ≤ s.scan.phase → step s = .next s) ∧
      (nextDue s = none → s.resetting = .no → s.scan.phase < 250 → ∃ t, step s = .next t ∧
        SameExcept [.life, .scan, .lines, .pulseAge, .heat, .bus, .peers, .share, .dish, .stock, .waves, .paging] s t ∧
        (∀ (a b : PeriodClock) (period : Nat), (a, b, period) ∈ [(s.life.second, t.life.second, 1000),
            (s.heat.window, t.heat.window, 10000), (s.share.tick, t.share.tick, 1000),
            (s.stock.tick, t.stock.tick, 5000)] →
          (a.running = false → b = a) ∧
          (a.running = true → a.phase + 1 < period → b = { a with phase := a.phase + 1 }) ∧
          (a.running = true → period ≤ a.phase + 1 → b = { a with due := true })) ∧
        t.life = { s.life with second := t.life.second } ∧ t.scan = { s.scan with phase := s.scan.phase + 1 } ∧
        (∀ l : LineNo, t.lines[l] = { s.lines[l] with debounce := s.lines[l].debounce.map (fun n => n - 1) }) ∧
        t.pulseAge = min 65535 (s.pulseAge + 1) ∧
        t.heat = { s.heat with window := t.heat.window, channels := t.heat.channels } ∧
        (∀ k : Chan, t.heat.channels[k] = { s.heat.channels[k] with
          served := if s.heat.channels[k].heater = true ∧ s.heat.channels[k].served < s.heat.channels[k].onTime
            then s.heat.channels[k].served + 1 else s.heat.channels[k].served }) ∧
        t.bus = { s.bus with leaveTimer := s.bus.leaveTimer.map (fun n => n + 1) } ∧
        t.peers = s.peers.map (fun p => { p with
          silence := min 10000 (p.silence + 1)
          stock := p.stock.map (fun q => { q with age := min 20000 (q.age + 1) }) }) ∧
        t.share = { s.share with tick := t.share.tick, listen := s.share.listen.map (fun n => n - 1) } ∧
        t.dish = { s.dish with
          rinseTime := if s.dish.holds.rinse = true then min 65535000 (s.dish.rinseTime + 1) else s.dish.rinseTime
          idleTime := if s.dish.mode = .on ∧ s.dish.racks = [] then min 30000 (s.dish.idleTime + 1) else s.dish.idleTime
          jamTimer := if s.dish.mode = .on ∧ anyHold s.dish.holds = false then min 2000 (s.dish.jamTimer + 1)
            else s.dish.jamTimer } ∧
        t.stock = { s.stock with
          tick := t.stock.tick, holds := s.stock.holds.map (fun h => { h with remaining := h.remaining - 1 }) } ∧
        (∀ count : Source → Source, (∀ r, count r = { r with hold := match r.hold with
            | .asked n b => .asked (n - 1) b
            | h => h }) →
          t.waves = s.waves.map (fun w => { w with
            src1 := count w.src1
            src2 := w.src2.map count
            check := if asking w.state = true then w.check.map (fun n => n - 1) else w.check
            cookMs := if w.state = .cooking then w.cookMs - 1 else w.cookMs })) ∧
        t.paging = { s.paging with
          calls := s.paging.calls.map (fun c => { c with timer := c.timer.map (fun n => n - 1) })
          queue := s.paging.queue.map (fun c => { c with
            busyTimer := c.busyTimer.map (fun n => n - 1), ackTimer := c.ackTimer.map (fun n => n - 1) })
          modem := s.paging.modem.map (fun m => { m with timer := m.timer.map (fun n => n - 1) })
          allCall := s.paging.allCall.map (fun a => { a with left := a.left - 1, timer := a.timer - 1 }) }))

/-- In a joined state a sweep completion at its 250 ms answers a next state in which, for each channel not of kind UNUSED
and not TRIPPED, a fault entry on its sensor input trips it with cause SENSOR, otherwise a published reading of Tmax
or more trips it with cause OVERHEAT, and otherwise its record is unchanged. A tripped channel has demand, duty and
integral 0, its on-time equal to its served time, its heater off and its charge still reserved. Channels of kind
UNUSED or already TRIPPED keep their record. At a station without a radio each channel that tripped has its TRIP
report, with this clock, its cause and its reading, in the report queue, and with room in the call list its call,
SENSOR-FAULT or OVERTEMP with the channel as subject, is open. (R1, R4, R37, R38, R39, R161, R162) -/
def Obligations.SweepTripsHotAndFaultedChannels : Prop :=
  ∀ (c : Conversions) (s : State), awake s = true → joined s = true → 250 ≤ s.scan.phase →
    ∃ t, exec (.sweepCompletion c) s = .next t ∧ ∀ k : Chan,
      (tripsChecked s k = false → t.heat.channels[k] = s.heat.channels[k]) ∧
      (tripsChecked s k = true → flagged s k = false → flagged t k = true →
        t.heat.channels[k] = { s.heat.channels[k] with
          state := .tripped .sensor, demand := 0, duty := 0, integral := 0,
          onTime := s.heat.channels[k].served, heater := false }) ∧
      (tripsChecked s k = true → (flagged s k = true ∨ flagged t k = false) →
        (s.profile.channels[k].highLimit : Int) ≤ reading t k →
        t.heat.channels[k] = { s.heat.channels[k] with
          state := .tripped .overheat, demand := 0, duty := 0, integral := 0,
          onTime := s.heat.channels[k].served, heater := false }) ∧
      (tripsChecked s k = true → (flagged s k = true ∨ flagged t k = false) →
        reading t k < (s.profile.channels[k].highLimit : Int) → t.heat.channels[k] = s.heat.channels[k]) ∧
      (∀ cause, tripsChecked s k = true → t.heat.channels[k].state = .tripped cause → s.profile.radio = false →
        (⟨s.life.clock, .trip k cause (reading t k)⟩ : Report) ∈ t.port.reports ∧
        (s.paging.calls.length ≤ 8 → s.paging.calls.Pairwise (fun x y => x.number ≠ y.number) →
          ∃ x ∈ t.paging.calls, x.subject = k.val ∧
            x.reason = (match cause with
              | .sensor => CallReason.sensorFault
              | .overheat => CallReason.overtemp)))

/-- A due window start out of reset answers a next state in which every channel has its previous demand and duty copied,
its served time 0 and its door seen flag equal to its door flag. A channel without a target keeps its state and has
demand 0. A channel with a target moves W to it when the ramp is 0 or the target lies within it, and by the ramp
otherwise; it is in REGULATE exactly if W equals the target. With e = W - reading, the integral keeps its value when
Ki is 0 or R27 freezes it and otherwise gains e x 1000 / (PB x Ki) truncated, within -1000..1000; the demand is the
clamped proportional part plus the integral, within 0..1000. (R24, R25, R26, R27) -/
def Obligations.WindowStartStepsSetpointAndDemand : Prop :=
  ∀ s : State, awake s = true → s.heat.window.due = true → ∃ t, exec .windowStart s = .next t ∧ ∀ k : Chan,
    t.heat.channels[k].prevDemand = s.heat.channels[k].demand ∧
    t.heat.channels[k].prevDuty = s.heat.channels[k].duty ∧
    t.heat.channels[k].served = 0 ∧
    t.heat.channels[k].doorFlag = s.heat.channels[k].doorFlag ∧
    t.heat.channels[k].doorSeen = s.heat.channels[k].doorFlag ∧
    (setpointOf s.heat.channels[k].state = none →
      t.heat.channels[k].state = s.heat.channels[k].state ∧ t.heat.channels[k].demand = 0 ∧
      t.heat.channels[k].integral = s.heat.channels[k].integral) ∧
    (∀ p, setpointOf s.heat.channels[k].state = some p → ∃ w : Int,
      w = (if p.ramp = 0 ∨ (p.target - p.w ≤ p.ramp ∧ p.w - p.target ≤ p.ramp) then p.target
           else if p.w < p.target then p.w + p.ramp else p.w - p.ramp) ∧
      t.heat.channels[k].state =
        (if w = p.target then .regulate { p with w := w } else .ramp { p with w := w }) ∧
      (s.profile.channels[k].integralWindows = 0 ∨
        (s.heat.channels[k].duty = 1000 ∧ reading s k < w) ∨
        (s.heat.channels[k].duty < s.heat.channels[k].demand ∧ reading s k < w) ∨
        (s.heat.channels[k].demand = 0 ∧ w < reading s k) ∨ s.heat.channels[k].doorSeen = true →
        t.heat.channels[k].integral = s.heat.channels[k].integral) ∧
      (¬ (s.profile.channels[k].integralWindows = 0 ∨
        (s.heat.channels[k].duty = 1000 ∧ reading s k < w) ∨
        (s.heat.channels[k].duty < s.heat.channels[k].demand ∧ reading s k < w) ∨
        (s.heat.channels[k].demand = 0 ∧ w < reading s k) ∨ s.heat.channels[k].doorSeen = true) →
        t.heat.channels[k].integral = max (-1000) (min 1000 (s.heat.channels[k].integral +
          Int.tdiv ((w - reading s k) * 1000)
            ((s.profile.channels[k].band : Int) * s.profile.channels[k].integralWindows)))) ∧
      (t.heat.channels[k].demand : Int) = max 0 (min 1000
        (max (-1000) (min 1000 (Int.tdiv ((w - reading s k) * 1000) s.profile.channels[k].band)) +
          t.heat.channels[k].integral)))

/-- A due window start out of reset answers a next state in which the allocation order holds each channel with demand (of
effective class at most 3) once, from the highest class down and by number within a class. The channel at each place
takes the smaller of its demand and the current left by the charges before it x 1000 / L; a channel outside the order
takes 0; each charge is the duty x L / 1000 rounded up, and the charges together stay within the grant in force. Each
on-time is the duty x 10 ms, and a heater is on exactly where the duty is above 0 and no OVEN door stands open. The
effective class is the larger of base class and elevation, where the elevation, in every state, is 3 for the BOOSTER
in mode ON, 2 for the TANK in ON or JAM, 2 for an OVEN with a wave in PREHEAT, FIRE-DUE or COOKING and otherwise 1
with one in DONE or PLATING, 2 for a WARMER with a hold, and else 0; the OVERDRAWN flag is clear, the window phase is
0, and the want, the grant in force and every other block are unchanged. (R24, R28, R29, R30, R122, R140, R159) -/
def Obligations.WindowStartDividesTheGrantInOrder : Prop :=
  (∀ (s : State) (k : Chan), PublishedClass s k (elevation s k)) ∧
  ∀ s : State, awake s = true → s.heat.window.due = true → ∃ t, exec .windowStart s = .next t ∧
    SameExcept [.heat] s t ∧ t.heat.grant = s.heat.grant ∧ t.heat.overdrawn = false ∧
    t.heat.window = { s.heat.window with phase := 0, due := false } ∧
    chargesSum t.heat.channels ≤ s.heat.grant ∧
    (∀ k : Chan, k ∈ t.heat.order ↔ 0 < t.heat.channels[k].demand ∧ t.heat.channels[k].effClass ≤ 3) ∧
    t.heat.order.Pairwise (fun a b => t.heat.channels[b].effClass < t.heat.channels[a].effClass ∨
      (t.heat.channels[b].effClass = t.heat.channels[a].effClass ∧ a < b)) ∧
    (∀ (before after : List Chan) (k : Chan), t.heat.order = before ++ k :: after →
      t.heat.channels[k].duty = min t.heat.channels[k].demand
        ((s.heat.grant - (before.map (fun j => t.heat.channels[j].charge)).sum) * 1000 /
          s.profile.channels[k].load)) ∧
    ∀ k : Chan,
      (k ∉ t.heat.order → t.heat.channels[k].duty = 0) ∧
      t.heat.channels[k].charge = (t.heat.channels[k].duty * s.profile.channels[k].load + 999) / 1000 ∧
      t.heat.channels[k].onTime = t.heat.channels[k].duty * 10 ∧
      (t.heat.channels[k].heater = true ↔ 0 < t.heat.channels[k].duty ∧
        ¬ (s.profile.channels[k].kind = .oven ∧ t.heat.channels[k].doorFlag = true)) ∧
      t.heat.channels[k].effClass = max s.profile.channels[k].baseClass (elevation s k) ∧
      t.heat.channels[k].want = s.heat.channels[k].want

/-- In a joined state, for a channel within 0..7 and any words as target and ramp: a channel of kind UNUSED refuses HEAT
with WRONG-KIND and a TRIPPED one with STATE. Otherwise HEAT answers a next state: target and ramp are clamped into
0..Tmax-50 and 0..500 (LEAST 0 for either, MOST Tmax-50 and 500, DEFAULT 0 and the profile's ramp step); from IDLE the
channel enters RAMP with W the reading clamped into 0..Tmax-50; in RAMP or REGULATE W and state stay. Every other item
of the channel, every other channel and every block but heat and port are unchanged. The reply is DONE-CLAMPED exactly
if a value was clamped and otherwise DONE, with no result, and the transaction has ended. (R18) -/
def Obligations.HeatSetsTargetRampAndSetpoint : Prop :=
  ∀ (c g r : Word) (k : Chan) (s : State), portDeaf s = false → joined s = true → c.toNat = k.val →
    (s.profile.channels[k].kind = .unused → exec (.heat [c, g, r]) s = .next (refusedWith 16 .wrongKind s)) ∧
    (s.profile.channels[k].kind ≠ .unused → isTripped s.heat.channels[k].state = true →
      exec (.heat [c, g, r]) s = .next (refusedWith 16 .state s)) ∧
    (s.profile.channels[k].kind ≠ .unused → isTripped s.heat.channels[k].state = false →
      ∀ (target ramp : Nat) (c1 c2 : Bool), Takes 0 (s.profile.channels[k].highLimit - 50) 0 g target c1 →
      Takes 0 500 s.profile.channels[k].rampStep r ramp c2 →
      ∃ t, exec (.heat [c, g, r]) s = .next t ∧ SameExcept [.heat, .port] s t ∧ Answered 16 (c1 || c2) .none s t ∧
        t.heat = { s.heat with channels := s.heat.channels.set k { s.heat.channels[k] with
          state := t.heat.channels[k].state } } ∧
        (s.heat.channels[k].state = .idle → t.heat.channels[k].state = .ramp
          { target := (target : Int), ramp := ramp,
            w := max 0 (min ((s.profile.channels[k].highLimit - 50 : Nat) : Int) (reading s k)) }) ∧
        (∀ p, s.heat.channels[k].state = .ramp p → t.heat.channels[k].state = .ramp
          { p with target := (target : Int), ramp := ramp }) ∧
        (∀ p, s.heat.channels[k].state = .regulate p → t.heat.channels[k].state = .regulate
          { p with target := (target : Int), ramp := ramp }))

/-- For every state and frame, offering changes the controller alone. In UNJOINED, LISTENING and DUPLICATE nothing
changes. In ACTIVE and ISOLATED a waiting frame of the same replaceable kind is replaced in its entry, keeping its
age, and the number of entries stands; otherwise, with fewer than eight entries occupied counting the frame on the
line, the frame enters with a new age and the waiting frames stay in order of priority and age if they were; otherwise
the frame is refused and nothing changes. An entry takes the station identifier of its offer with its frame, and the
bytes of the frame on the line are those of its entry. (R47, R48, R49) -/
def Obligations.OfferFollowsTheQueueRules : Prop :=
  ∀ (f : Frame) (s : State), SameExcept [.bus] s (offer f s) ∧ (offer f s).bus.onLine = s.bus.onLine ∧
    (maySend s = false → offer f s = s) ∧
    (maySend s = true → s.bus.waiting.any (sameWaiting f) = true →
      (offer f s).bus.waiting.map (fun e => e.age) = s.bus.waiting.map (fun e => e.age) ∧
      (∀ x ∈ (offer f s).bus.waiting, sameWaiting f x = true → x.frame = f ∧ x.sender = s.profile.stationId) ∧
      (∀ x ∈ s.bus.waiting, sameWaiting f x = false → x ∈ (offer f s).bus.waiting)) ∧
    (maySend s = true → s.bus.waiting.any (sameWaiting f) = false → occupied s.bus < 8 →
      (offer f s).bus.waiting.Perm
        ({ frame := f, sender := s.profile.stationId, age := s.bus.nextAge, deliver := true } :: s.bus.waiting) ∧
      (s.bus.waiting.Pairwise (fun a b => goesBefore b a = false) →
        (offer f s).bus.waiting.Pairwise (fun a b => goesBefore b a = false))) ∧
    (maySend s = true → s.bus.waiting.any (sameWaiting f) = false → 8 ≤ occupied s.bus → offer f s = s) ∧
    (∀ e, s.bus.onLine = some e → lineBytes s = some (frameBytes e.sender e.frame))

/-- Out of reset. With no frame on the line FRAME_RESULT and BIT_FAULT change nothing. With a frame on the line they
answer a next state in which it has freed its entry and the waiting frames, the slot and the rest of the controller
stand. The end of a leaving ANNOUNCE also clears the stuck condition and the leave timer, and nothing else changes. A
frame found on the line by LEAVE, any frame in UNJOINED, and a frame that is no ANNOUNCE change nothing else. For an
ANNOUNCE that is not leaving and that a block offered, in ACTIVE or ISOLATED: ACKED sets the unacknowledged count to
0, and nothing else changes in ACTIVE; from ISOLATED the station is ACTIVE, a STATION report HEARD is queued, the call
ISOLATED cancelled and the grant formed and delivered. UNACKED, and a bit fault alike, add one to the count, up to
255, and nothing else changes, unless the station was ACTIVE and the count comes to 3: then it is ISOLATED, a STATION
report UNHEARD with count 3 is queued, the call ISOLATED of this station raised, and the smaller of C and A delivered
as the grant, own shares 0, limit point ALLOWANCE. An OVERDRAWN report of the grant stands last by the model's choice
(log entry 41). Every block that is not named is unchanged, as are asks, sequence and clocks of the share unit. (R34,
R45, R46, R49, R53, R77, R82, R83, R92, R97) -/
def Obligations.FrameResultsFreeTheEntryAndCountAnnouncements : Prop :=
  (∀ s : State, awake s = true → s.bus.onLine = none →
    (∀ acked : Bool, exec (.frameResult acked) s = .next s) ∧ exec .bitFault s = .next s) ∧
  ∀ (e : TxEntry) (s : State), awake s = true → s.bus.onLine = some e →
    (isLeaving e.frame = true →
      (∀ acked : Bool, exec (.frameResult acked) s =
        .next (s.setBus { s.bus with onLine := none, stuck := false, leaveTimer := none })) ∧
      exec .bitFault s = .next (s.setBus { s.bus with onLine := none, stuck := false, leaveTimer := none })) ∧
    (isLeaving e.frame = false → e.deliver = false ∨ joined s = false ∨ kindCode e.frame ≠ 1 →
      (∀ acked : Bool, exec (.frameResult acked) s = .next (s.setBus { s.bus with onLine := none })) ∧
      exec .bitFault s = .next (s.setBus { s.bus with onLine := none })) ∧
    (∀ b : AnnounceBody, e.frame = .announce b → b.leaving = false → e.deliver = true → maySend s = true →
      (∃ t, exec (.frameResult true) s = .next t ∧
        (s.life.station = .active →
          t = (s.setBus { s.bus with onLine := none }).setShare { s.share with unacked := 0 }) ∧
        ∀ u, u = pushReport (.station .isolated .active s.life.joinNumber .heard)
            (((s.setBus { s.bus with onLine := none }).setShare { s.share with unacked := 0 }).setLife
              { s.life with station := .active }) →
          s.life.station = .isolated →
            SameExcept [.life, .heat, .bus, .share, .paging, .port] s t ∧ t.life = u.life ∧
            t.heat = (takeGrant (formGrant u).1 u).heat ∧ t.share = { u.share with
              grant := (formGrant u).1, shares := (formGrant u).2.1, limit := (formGrant u).2.2 } ∧
            t.bus = (cancelCall .isolated s.profile.stationId u).bus ∧
            t.paging = (cancelCall .isolated s.profile.stationId u).paging ∧
            CallCancelled .isolated s.profile.stationId u t ∧ ReportsThenCut s u t) ∧
      exec .bitFault s = exec (.frameResult false) s ∧
      ∃ t, exec (.frameResult false) s = .next t ∧
        (s.life.station ≠ .active ∨ s.share.unacked ≠ 2 → t = (s.setBus { s.bus with onLine := none }).setShare
          { s.share with unacked := min 255 (s.share.unacked + 1) }) ∧
        ∀ u, u = pushReport (.station .active .isolated s.life.joinNumber (.unheard 3))
            (((s.setBus { s.bus with onLine := none }).setShare { s.share with unacked := 3 }).setLife
              { s.life with station := .isolated }) →
          s.life.station = .active → s.share.unacked = 2 → ∃ v, CallRaised .isolated s.profile.stationId u v ∧
            SameExcept [.life, .heat, .bus, .share, .paging, .port] s t ∧ t.life = u.life ∧
            t.heat = (takeGrant (min s.profile.feeder.ceiling s.profile.feeder.allowance) u).heat ∧
            t.share = { u.share with
              grant := min s.profile.feeder.ceiling s.profile.feeder.allowance, shares := .zero, limit := .allowance } ∧
            t.paging = v.paging ∧ t.bus = v.bus ∧ ReportsThenCut s v t)

/-- A due announce tick out of reset answers a next state. The raw ask of a class is the sum over the channels of that
effective class (the larger of base class and elevation) of demand x L / 1000 rounded up. The own asks are at most the
raw asks, sum to the smaller of C and the raw sum, and a class gives up anything only when every lower class is empty;
the ceiling cut is what was given up, and the published drawing is the scanner's. Each channel shows that effective
class and, as its want, its part of the ask. The grant in force is that of the station state over these figures,
delivered to the channels as in every delivery. In ACTIVE and ISOLATED the sequence advances by one modulo 256 and,
when a waiting ANNOUNCE or a free entry allows it, an ANNOUNCE with these figures waits; in DUPLICATE neither happens.
With the stock-changed flag set, in ACTIVE or ISOLATED at a station with something to report, a STOCK with the counts
of this moment waits and the flag is clear, if a STOCK waited or an entry is free behind the ANNOUNCE; otherwise the
plate stock unit stands. That the ANNOUNCE is offered before a STOCK is the model's reading (log entry 22). (R28, R31,
R32, R71, R72, R73, R78, R80, R141, R142) -/
def Obligations.AnnounceTickFormsAsksAndOffers : Prop :=
  ∀ s : State, awake s = true → s.share.tick.due = true → ∃ t, exec .announceTick s = .next t ∧
    ∃ raw : Asks,
      (∀ n ≤ 3, askOf raw n = ((List.finRange 8).map (fun k : Chan =>
        if max s.profile.channels[k].baseClass (elevation s k) = n
        then (s.heat.channels[k].demand * s.profile.channels[k].load + 999) / 1000 else 0)).sum) ∧
      asksSum t.share.asks = min s.profile.feeder.ceiling (asksSum raw) ∧
      t.share.asks.c3 ≤ raw.c3 ∧ t.share.asks.c2 ≤ raw.c2 ∧ t.share.asks.c1 ≤ raw.c1 ∧ t.share.asks.c0 ≤ raw.c0 ∧
      (t.share.asks.c1 < raw.c1 → t.share.asks.c0 = 0) ∧
      (t.share.asks.c2 < raw.c2 → t.share.asks.c1 = 0 ∧ t.share.asks.c0 = 0) ∧
      (t.share.asks.c3 < raw.c3 → t.share.asks.c2 = 0 ∧ t.share.asks.c1 = 0 ∧ t.share.asks.c0 = 0) ∧
      t.share.ceilingCut = asksSum raw - asksSum t.share.asks ∧
      t.share.drawing = drawingOf s.scan ∧ t.share.tick = { s.share.tick with phase := 0, due := false } ∧
      t.heat.grant = (formGrant t).1 ∧ t.share.grant = (formGrant t).1 ∧
      (∃ cs : Vector Channel 8, (∀ k : Chan, cs[k] = { s.heat.channels[k] with
          effClass := max s.profile.channels[k].baseClass (elevation s k)
          want := (s.heat.channels[k].demand * s.profile.channels[k].load + 999) / 1000 }) ∧
        t.heat = (takeGrant t.share.grant (s.setHeat { s.heat with channels := cs })).heat ∧
        t.port = (takeGrant t.share.grant (s.setHeat { s.heat with channels := cs })).port) ∧
      (∀ k : Chan, t.heat.channels[k].effClass = max s.profile.channels[k].baseClass (elevation s k) ∧
        t.heat.channels[k].want = (s.heat.channels[k].demand * s.profile.channels[k].load + 999) / 1000) ∧
      (∀ room : Prop, (room ↔ s.bus.waiting.any (fun e => decide (kindCode e.frame = 9)) = true ∨ occupied s.bus < 7 ∨
          (s.bus.waiting.any (fun e => decide (kindCode e.frame = 1)) = true ∧ occupied s.bus < 8)) →
        (maySend s = true → s.stock.changed = true → hasStock s.profile = true → room →
          t.stock = { s.stock with changed := false } ∧ ∃ e ∈ t.bus.waiting, ∃ x : StockBody,
            e.frame = .stock x ∧ ShowsStock s x) ∧
        (maySend s = false ∨ s.stock.changed = false ∨ hasStock s.profile = false ∨ ¬ room → t.stock = s.stock)) ∧
      (maySend s = true → t.share.nextSequence = (s.share.nextSequence + 1) % 256 ∧
        (s.bus.waiting.any (fun e => decide (kindCode e.frame = 1)) = true ∨ occupied s.bus < 8 →
          ∃ e ∈ t.bus.waiting, e.frame = .announce ⟨s.life.joinNumber, s.share.nextSequence,
            t.share.asks, t.share.drawing, false⟩)) ∧
      (maySend s = false → t.share.nextSequence = s.share.nextSequence ∧ t.bus = s.bus) ∧
      SameExcept [.heat, .bus, .share, .stock, .port] s t

/-- For every state: the grant is 0 in UNJOINED and LISTENING and the smaller of C and A in ISOLATED and DUPLICATE, with
shares 0. In ACTIVE let S n be the class total of R75 (own ask, peers' asks and, in class 3, every unexplained draw),
and above n the totals of the higher classes. A class that fits, above n + S n within F - M, gives its own ask; the
one that does not fit gives the own ask x what is left / S n, truncated, and is the limit point; those below it give
0. With every class fitting the limit point is NONE. The grant is the smaller of C and the sum of the shares, so it
never exceeds the own asks or F - M. At a computation the share unit keeps the grant, the shares and the limit point.
(R74, R75, R76, R77) -/
def Obligations.GrantFollowsTheClassWaterFill : Prop :=
  ∀ s : State,
    (s.life.station = .unjoined ∨ s.life.station = .listening → formGrant s = (0, .zero, .none)) ∧
    (s.life.station = .isolated ∨ s.life.station = .duplicate →
      formGrant s = (min s.profile.feeder.ceiling s.profile.feeder.allowance, .zero, .allowance)) ∧
    (s.life.station = .active → ∀ (S above : Nat → Nat),
      (∀ n, S n = askOf s.share.asks n + (s.peers.map (fun p => askOf p.asks n)).sum +
        (if n = 3 then (s.share.drawing - asksSum s.share.asks) +
          (s.peers.map (fun p => p.drawing - asksSum p.asks)).sum else 0)) →
      above 3 = 0 → (∀ n, above n = above (n + 1) + S (n + 1) ∨ 3 ≤ n) →
      (∀ n ≤ 3,
        (above n + S n ≤ s.profile.feeder.limit - s.profile.feeder.margin →
          askOf (formGrant s).2.1 n = askOf s.share.asks n) ∧
        (above n ≤ s.profile.feeder.limit - s.profile.feeder.margin →
          s.profile.feeder.limit - s.profile.feeder.margin < above n + S n →
          askOf (formGrant s).2.1 n =
            askOf s.share.asks n * (s.profile.feeder.limit - s.profile.feeder.margin - above n) / S n ∧
          (formGrant s).2.2 = .class n) ∧
        (s.profile.feeder.limit - s.profile.feeder.margin < above n → askOf (formGrant s).2.1 n = 0)) ∧
      (above 0 + S 0 ≤ s.profile.feeder.limit - s.profile.feeder.margin → (formGrant s).2.2 = .none) ∧
      (formGrant s).1 = min s.profile.feeder.ceiling (asksSum (formGrant s).2.1) ∧
      (formGrant s).1 ≤ asksSum s.share.asks ∧
      (formGrant s).1 ≤ s.profile.feeder.limit - s.profile.feeder.margin) ∧
    (deliverGrant s).share = { s.share with
      grant := (formGrant s).1, shares := (formGrant s).2.1, limit := (formGrant s).2.2 }

/-- For every list of ACTIVE stations with the same feeder limit F and margin M, if each station's own asks and drawing
together with its peers' are, in some order, the list of all stations' own asks and drawings, then the sum of the
grants they compute is no more than F - M. (05_feeder_sharing.md, 5.5 Agreement and disagreement, R74, R75) -/
def Obligations.StationsThatAgreeStayWithinTheFeeder : Prop :=
  ∀ (F M : Nat) (stations : List State),
    (∀ s ∈ stations, s.life.station = .active ∧ s.profile.feeder.limit = F ∧ s.profile.feeder.margin = M ∧
      ((s.share.asks, s.share.drawing) :: s.peers.map (fun p => (p.asks, p.drawing))).Perm
        (stations.map (fun u => (u.share.asks, u.share.drawing)))) →
    (stations.map (fun s => (formGrant s).1)).sum ≤ F - M

/-- Out of reset in a joined state, an ANNOUNCE from another station 1..30 answers a next state with the acknowledge slot
dominant and the grant of the station state, over the table as the frame left it, in force. Without an entry it
creates a LIVE one with the body's figures and no stock part. With an entry p of the same epoch and a forward distance
of 1..16 it updates p, keeping its stock part; else it resets the entry to the body without stock part, removes the
sender's holds and marks LOST every wave source at it. A leaving ANNOUNCE leaves no entry, with the same removals. A
restart queues a PEER report RESTARTED with the old and new epoch, by EPOCH if the epoch differs and else by SEQUENCE,
and a leaving ANNOUNCE of a known peer one of LEFT with its epoch and last sequence; creation, update and a leaving
ANNOUNCE without an entry queue none. Every other identifier's entry is unchanged, and a table in rising order stays
so. (R34, R55, R56, R57, R58, R59, R62, R66, R78, R139, R157) -/
def Obligations.AnnounceCreatesUpdatesRestartsOrRemovesTheEntry : Prop :=
  ∀ (sender : Nat) (b : AnnounceBody) (s : State), awake s = true → joined s = true → 1 ≤ sender → sender ≤ 30 →
    sender ≠ s.profile.stationId → ∃ t, exec (.announce sender b) s = .next t ∧
      SameExcept [.heat, .bus, .peers, .share, .stock, .waves, .port] s t ∧
      t.bus = { s.bus with ackSlot := true } ∧ t.heat.grant = (formGrant t).1 ∧ t.share.grant = (formGrant t).1 ∧
      (∀ id, id ≠ sender → findPeer id t = findPeer id s) ∧ (risingPeers s.peers → risingPeers t.peers) ∧
      (b.leaving = false → findPeer sender s = none →
        findPeer sender t = some { id := sender, stale := false, epoch := b.epoch, sequence := b.sequence, silence := 0,
                                   asks := b.asks, drawing := b.drawing, stock := none } ∧
        t.stock = s.stock ∧ t.waves = s.waves ∧ ReportsThenCut s s t) ∧
      (∀ p, b.leaving = false → findPeer sender s = some p → b.epoch = p.epoch →
        1 ≤ (b.sequence + 256 - p.sequence % 256) % 256 → (b.sequence + 256 - p.sequence % 256) % 256 ≤ 16 →
        findPeer sender t = some { p with
          stale := false, sequence := b.sequence, silence := 0, asks := b.asks, drawing := b.drawing } ∧
        t.stock = s.stock ∧ t.waves = s.waves ∧ ReportsThenCut s s t) ∧
      (∀ p, b.leaving = false → findPeer sender s = some p →
        (b.epoch ≠ p.epoch ∨ (b.sequence + 256 - p.sequence % 256) % 256 = 0 ∨
          16 < (b.sequence + 256 - p.sequence % 256) % 256) →
        findPeer sender t = some { id := sender, stale := false, epoch := b.epoch, sequence := b.sequence, silence := 0,
                                   asks := b.asks, drawing := b.drawing, stock := none } ∧
        t.stock.holds = s.stock.holds.filter (fun h => decide (h.asker ≠ sender)) ∧
        t.waves = s.waves.map (loseSources sender) ∧
        ReportsThenCut s (pushReport (.peer sender p.epoch (.restarted b.epoch (decide (b.epoch ≠ p.epoch)))) s) t) ∧
      (b.leaving = true → findPeer sender s = none → ReportsThenCut s s t) ∧
      (∀ p, b.leaving = true → findPeer sender s = some p →
        ReportsThenCut s (pushReport (.peer sender p.epoch (.left p.sequence)) s) t) ∧
      (b.leaving = true → findPeer sender t = none ∧
        t.stock.holds = s.stock.holds.filter (fun h => decide (h.asker ≠ sender)) ∧
        t.waves = s.waves.map (loseSources sender))

/-- In UNJOINED, for an item 1..36, an element in the item's range (or any word where the item has none) and any value
words, PROFILE-PUT answers a next state whose item reads the value clamped into its range, with LEAST, MOST and
DEFAULT standing for its bounds and its default (the reply DONE-CLAMPED exactly if a value or a default was changed),
or the choice as given or by DEFAULT; a choice that the item does not list, or another token for it, is refused with
MALFORMED. Every other item reads as before, but a write of F may re-clamp M, C and A and a write of C may re-clamp A.
The feeder items stay in their ranges if they were. Only the profile, the port and, for the base class (item 7), the
effective class that this one channel shows, which becomes the value stored, differ. (R68, R88, R185, R186, R187) -/
def Obligations.ProfilePutStoresTheClampedValueAndNoOther : Prop :=
  ∀ (i e vh vl : Word) (s : State), portDeaf s = false → s.life.station = .unjoined → 1 ≤ i.toNat → i.toNat ≤ 36 →
    (∀ lo hi, elementRange i.toNat = some (lo, hi) → lo ≤ e.toNat ∧ e.toNat ≤ hi) →
    ∀ q, itemSort s.profile i.toNat e.toNat = some q →
    (∀ top d, q = .choice top d → vh.toNat = 65533 ∨ vh.toNat = 65534 ∨
        (vh.toNat < 65533 ∧ top < vh.toNat * 65536 + vl.toNat) →
      exec (.profilePut [i, e, vh, vl]) s = .next (refusedWith 2 .malformed s)) ∧
    ∀ (v : Nat) (clamped : Bool),
      (match q with
        | .number lo hi d => TakesWide lo hi d vh vl v clamped
        | .choice top d => clamped = false ∧ ((vh.toNat < 65533 ∧ v = vh.toNat * 65536 + vl.toNat ∧ v ≤ top) ∨
            (vh.toNat = 65535 ∧ v = d))) →
      ∃ t : State, exec (.profilePut [i, e, vh, vl]) s = .next t ∧
        readItem t.profile i.toNat e.toNat = v ∧ Answered 2 clamped .none s t ∧
        SameExcept [.profile, .heat, .port] s t ∧ (i.toNat ≠ 7 → t.heat = s.heat) ∧
        (∀ k : Chan, i.toNat = 7 → e.toNat = k.val → t.heat = { s.heat with
          channels := s.heat.channels.set k { s.heat.channels[k] with effClass := v } }) ∧
        (FeederLaw s.profile.feeder → FeederLaw t.profile.feeder) ∧
        ∀ item' e' : Nat, (∀ lo hi, elementRange item' = some (lo, hi) → lo ≤ e' ∧ e' ≤ hi) →
          item' ≠ i.toNat ∨ (elementRange item' ≠ none ∧ e' ≠ e.toNat) →
          ¬ (i.toNat = 12 ∧ 13 ≤ item' ∧ item' ≤ 15) → ¬ (i.toNat = 14 ∧ item' = 15) →
          readItem t.profile item' e' = readItem s.profile item' e'

/-- In a joined state with the dish line enabled, DISH-SPEED answers a next state whose requested speed is the value
clamped into 20..400 (LEAST 20, MOST 400, DEFAULT the profile's); the dish items are unchanged, and the reply is
DONE-CLAMPED exactly if clamping changed it. The effective speed is the smaller of the requested speed and (d - c) /
dwell minimum (0 for d below c, log entry 48), the level is effective speed x 255 / vmax up to 255; with the default
items 125 and 106, and a rinse zone shorter than the dwell minimum gives 0 and 0. In every state heater output k is on
exactly where the station is joined and channel k's heater is; CONV-RUN exactly where joined, enabled, ON and without
a hold, with the level on CONV-SPEED, and 0 otherwise; LAMP-CLEAN and LAMP-REWASH show the verdict of a rack at exit,
LAMP-HOLD a hold or JAM, LAMP-ALARM a TRIPPED channel, ISOLATED or DUPLICATE, each in a joined state alone; the report
line a queued report. At the reset values every output is off. (R11, R12, R13, R14, R15, R101, R102, R119, R184, R187,
R192) -/
def Obligations.SpeedCommandSetsEffectiveSpeedAndLevel : Prop :=
  (∀ (w : Word) (v : Nat) (clamped : Bool) (s : State), portDeaf s = false → joined s = true →
    s.profile.dish.enable = true → Takes 20 400 s.profile.dish.requestedDefault w v clamped →
    ∃ t, exec (.dishSpeed [w]) s = .next t ∧ SameExcept [.dish, .port] s t ∧
      t.dish = { s.dish with requested := v } ∧ Answered 34 clamped .none s t ∧
      effectiveSpeed t.profile.dish t.dish.requested =
        min v ((s.profile.dish.d - s.profile.dish.c) / s.profile.dish.dwellMin)) ∧
  (∀ (p : DishProfile) (requested : Nat),
    effectiveSpeed p requested = min requested ((p.d - p.c) / p.dwellMin) ∧
    speedLevel p requested = min 255 (min requested ((p.d - p.c) / p.dwellMin) * 255 / p.topSpeed) ∧
    (p.d - p.c < p.dwellMin → effectiveSpeed p requested = 0 ∧ speedLevel p requested = 0)) ∧
  (∀ s : State, (outputs s).convRun = (joined s && s.profile.dish.enable && conveyorRuns s.dish) ∧
    ((outputs s).convRun = true → (outputs s).convSpeed = speedLevel s.profile.dish s.dish.requested) ∧
    ((outputs s).convRun = false → (outputs s).convSpeed = 0) ∧
    (∀ k : Chan, (outputs s).heaters[k] = (joined s && s.heat.channels[k].heater)) ∧
    ((outputs s).lampClean = true ↔ joined s = true ∧ s.dish.atExit = true ∧
      ∃ r rest, s.dish.racks = r :: rest ∧ r.verdict = .clean) ∧
    ((outputs s).lampRewash = true ↔ joined s = true ∧ s.dish.atExit = true ∧
      ∃ r rest, s.dish.racks = r :: rest ∧ r.verdict = .rewash) ∧
    ((outputs s).lampHold = true ↔ joined s = true ∧ (s.dish.holds ≠ HoldSet.empty ∨ s.dish.mode = .jam)) ∧
    ((outputs s).lampAlarm = true ↔ joined s = true ∧ ((∃ k : Chan, isTripped s.heat.channels[k].state = true) ∨
      s.life.station = .isolated ∨ s.life.station = .duplicate)) ∧
    ((outputs s).reportLine = true ↔ s.port.reports ≠ [])) ∧
  (∀ s t : State, AtReset s t → outputs t = {
    heaters := Vector.replicate 8 false
    convRun := false
    convSpeed := 0
    lampClean := false
    lampRewash := false
    lampHold := false
    lampAlarm := false
    reportLine := false }) ∧
  effectiveSpeed (DishProfile.initial) 150 = 125 ∧ speedLevel (DishProfile.initial) 150 = 106

/-- Out of reset. With the conveyor running and the jam timer at 2,000 ms, JAM_TIMER_EXPIRY answers a next state in JAM
with the jam timer and idle time 0, the rest of the dish line kept and the call JAM with subject 0 raised. In mode ON
with no rack, the idle time at 30 s and no IDLE hold, IDLE_TIME_EXPIRY answers one whose dish line differs in the IDLE
hold alone. With the RINSE hold set, its time at 60 s and its call not yet raised, RINSE_HOLD_TIME_EXPIRY answers one
with the call RINSE-HOLD with subject 0 raised and the mark that it was; the mark, read from the manual's one call per
hold, is the model's (log entry 21). A raised call is open where the list has room, at a station without a radio.
Scanner, lines, heat channels, peers, share unit, waves and command queue are unchanged. (R101, R106, R115, R116,
R122, R162) -/
def Obligations.DishTimersJamCallAndIdle : Prop :=
  ∀ s : State, awake s = true →
    (s.dish.mode = .on → anyHold s.dish.holds = false → 2000 ≤ s.dish.jamTimer →
      ∃ t, exec .jamTimerExpiry s = .next t ∧ SameExcept [.bus, .dish, .stock, .paging, .port] s t ∧
        t.dish = { s.dish with mode := .jam, jamTimer := 0, idleTime := 0 } ∧ CleanPublished s t ∧
        CallRaised .jam 0 (s.setDish t.dish) t ∧
        (s.profile.radio = false → s.paging.calls.length < 16 →
          ∃ c ∈ t.paging.calls, c.reason = .jam ∧ c.subject = 0)) ∧
    (s.dish.mode = .on → s.dish.racks = [] → 30000 ≤ s.dish.idleTime → s.dish.holds.idle = false →
      ∃ t, exec .idleTimeExpiry s = .next t ∧ SameExcept [.dish, .stock] s t ∧
        t.dish = { s.dish with holds := { s.dish.holds with idle := true } } ∧ CleanPublished s t) ∧
    (s.dish.holds.rinse = true → 60000 ≤ s.dish.rinseTime → s.dish.rinseCalled = false →
      ∃ t, exec .rinseHoldTimeExpiry s = .next t ∧ SameExcept [.bus, .dish, .paging, .port] s t ∧
        t.dish = { s.dish with rinseCalled := true } ∧ CallRaised .rinseHold 0 (s.setDish t.dish) t ∧
        (s.profile.radio = false → s.paging.calls.length < 16 →
          ∃ c ∈ t.paging.calls, c.reason = .rinseHold ∧ c.subject = 0))

/-- In a joined state, the edge of a line resolved to DISH-EXIT. If the line becomes ACTIVE with a front rack not at exit
at e - 200 mm or further, the next state has that rack at exit with verdict CLEAN exactly if its dwell is at least the
dwell minimum, its wash minimum is present and at least Twash and it is not INTERRUPTED, else REWASH; the other racks
stand, clean-awaiting rises by its plates up to 9999 exactly if CLEAN, and its RACK report is the newest. If no such
rack stands there, only a STRAY report with the front position is queued. In every case the plate stock unit shows the
clean-awaiting count, with its stock-changed flag set if that changed it, and the rest of the unit stands. If the line
becomes INACTIVE with the front rack at exit, that rack becomes the last-rack record, leaves the queue, and the EXIT
hold is clear; an ENTRY hold ends with its call, and a rack waiting at an ACTIVE entry is registered behind the
others. With no rack at exit the INACTIVE edge changes the line alone. (R13, R100, R107, R108, R109, R110, R111, R122,
R166) -/
def Obligations.ExitEdgeDecidesTheVerdict : Prop :=
  ∀ (l : LineNo) (s : State), awake s = true → joined s = true → s.lines[l].debounce = some 0 →
    s.lines[l].pin ≠ s.lines[l].taken → resolvedUse s.profile l = .dishExit →
    (s.lines[l].pin = s.profile.lines[l].activeHigh → ∀ (r : Rack) (rest : List Rack), s.dish.racks = r :: rest →
      s.dish.atExit = false → ((s.profile.dish.e : Int) - 200) * 10 ≤ r.position →
      ∃ t v, exec (.lineEdge l) s = .next t ∧ SameExcept [.lines, .dish, .stock, .port] s t ∧
        (v = Verdict.clean ↔ s.profile.dish.dwellMin * 1000 ≤ r.dwell ∧ r.interrupted = false ∧
          ∃ w, r.washMin = some w ∧ (s.profile.dish.twash : Int) ≤ w) ∧ (v = .clean ∨ v = .rewash) ∧
        t.dish.racks = { r with verdict := v } :: rest ∧ t.dish.atExit = true ∧
        t.dish.clean = (if v = .clean then min 9999 (s.dish.clean + r.plates) else s.dish.clean) ∧
        t.dish.holds = s.dish.holds ∧ t.dish.mode = s.dish.mode ∧ CleanPublished s t ∧
        ∃ q, t.port.reports.getLast? = some ⟨s.life.clock, .rack q⟩ ∧ q.number = r.number ∧ q.verdict = v ∧
          q.plates = r.plates ∧ q.clean = t.dish.clean) ∧
    (s.lines[l].pin = s.profile.lines[l].activeHigh →
      (s.dish.atExit = true ∨ s.dish.racks = [] ∨
        ∃ r rest, s.dish.racks = r :: rest ∧ (r.position : Int) < ((s.profile.dish.e : Int) - 200) * 10) →
      ∃ t, exec (.lineEdge l) s = .next t ∧ SameExcept [.lines, .stock, .port] s t ∧ CleanPublished s t ∧
        t.port.reports.getLast? = some ⟨s.life.clock, .stray (s.dish.racks.head?.map (fun r => r.position))⟩) ∧
    (s.lines[l].pin ≠ s.profile.lines[l].activeHigh → ∀ (r : Rack) (rest : List Rack), s.dish.racks = r :: rest →
      s.dish.atExit = true →
      ∃ t, exec (.lineEdge l) s = .next t ∧ SameExcept [.lines, .bus, .dish, .stock, .paging] s t ∧
        t.dish.atExit = false ∧ t.dish.lastRack = some r ∧ t.dish.mode = s.dish.mode ∧
        t.dish.clean = s.dish.clean ∧ CleanPublished s t ∧
        (s.dish.holds.entry = false → SameExcept [.lines, .dish, .stock] s t ∧ t.dish.racks = rest ∧
          t.dish.holds = { s.dish.holds with exit := false }) ∧
        (s.dish.holds.entry = true → CallCancelled .entryFull 0 s t ∧ t.dish.racks = entersBehind s rest ∧
          t.dish.holds = { s.dish.holds with exit := false, entry := false, idle := t.dish.holds.idle } ∧
          (t.dish.racks = rest → t.dish.tag = s.dish.tag ∧ t.dish.nextNumber = s.dish.nextNumber ∧
            t.dish.holds.idle = s.dish.holds.idle) ∧
          (t.dish.racks ≠ rest → t.dish.tag = none ∧ t.dish.nextNumber = s.dish.nextNumber % 65535 + 1 ∧
            t.dish.holds.idle = false))) ∧
    (s.lines[l].pin ≠ s.profile.lines[l].activeHigh → s.dish.atExit = false ∨ s.dish.racks = [] →
      ∃ t, exec (.lineEdge l) s = .next t ∧ SameExcept [.lines, .stock] s t ∧ CleanPublished s t)

/-- Out of reset a pulse answers a next state with pulse age 0; in UNJOINED or with the dish line not enabled nothing else
changes. In a joined state with the dish line enabled every rack's position gains the travel of a pulse, up to 70,000.
A front rack then at e + 200 mm or further and not at exit leaves the queue as the last-rack record with MISSED set,
its verdict by R110, its plates added to clean-awaiting if CLEAN, and a MISSED report the newest; an ENTRY hold then
ends with its call, and a rack waiting at an ACTIVE entry is registered behind the others. Otherwise the moved racks
all stand with the jam timer 0, and the EXIT hold becomes set exactly if it was or the front rack stands at exit at e
+ 300 mm or further with the exit line ACTIVE. (R10, R100, R103, R108, R110, R112, R113, R122, R166) -/
def Obligations.PulseMovesEveryRackAndFindsMissedExits : Prop :=
  ∀ s : State, awake s = true →
    (dishWorks s = false → exec .encoderPulse s = .next (s.setPulseAge 0)) ∧
    (dishWorks s = true → ∃ t, exec .encoderPulse s = .next t ∧ t.pulseAge = 0 ∧
      SameExcept [.pulseAge, .bus, .dish, .stock, .paging, .port] s t ∧ t.dish.mode = s.dish.mode ∧
      CleanPublished s t ∧ t.dish.jamTimer = 0 ∧
      ∀ moved : List Rack, moved = s.dish.racks.map (fun r =>
          { r with position := min 70000 (r.position + s.profile.dish.perPulse) }) →
        (∀ (r : Rack) (rest : List Rack), moved = r :: rest → s.dish.atExit = false →
          (s.profile.dish.e + 200) * 10 ≤ r.position →
          t.dish.lastRack = some { r with missed := true, verdict := verdictOf s.profile.dish r } ∧
          t.dish.clean = (if verdictOf s.profile.dish r = .clean then min 9999 (s.dish.clean + r.plates)
            else s.dish.clean) ∧
          (∃ q, t.port.reports.getLast? = some ⟨s.life.clock, .missed q⟩ ∧ q.number = r.number ∧ q.missed = true ∧
            q.clean = t.dish.clean) ∧
          (s.dish.holds.entry = false → t.dish.racks = rest ∧ t.paging = s.paging ∧ t.bus = s.bus ∧
            t.dish.holds = s.dish.holds) ∧
          (s.dish.holds.entry = true → t.dish.racks = entersBehind s rest ∧ CallCancelled .entryFull 0 s t ∧
            t.dish.holds = { s.dish.holds with entry := false, idle := t.dish.holds.idle })) ∧
        ((s.dish.atExit = true ∨ ∀ r ∈ moved.head?, r.position < (s.profile.dish.e + 200) * 10) →
          t.dish.racks = moved ∧ t.port = s.port ∧ t.paging = s.paging ∧ t.bus = s.bus ∧
          t.dish.holds = { s.dish.holds with
            exit := s.dish.holds.exit || (s.dish.atExit && useActive s .dishExit &&
              moved.head?.any (fun r => decide ((s.profile.dish.e + 300) * 10 ≤ r.position))) }))

/-- In a joined state with the dish line enabled and TANK and BOOSTER channels tk and bk, a sweep completion at its 250 ms
answers a next state whose racks are the old ones, each with its number, position, plates and verdict, changed thus: a
midpoint in the wash zone takes the published tank reading into the wash minimum, or the INTERRUPTED flag when it is
flagged; a midpoint in the rinse zone gains 250 ms of dwell up to 600,000 exactly when the DOOR hold is clear and the
unflagged booster reading is at least Tsan, takes an unflagged reading into its rinse minimum, appends the reading to
a trace of fewer than 32 if trace is on, and is INTERRUPTED by the door or a flag; outside both nothing changes. In ON
and JAM the RINSE hold is then set exactly if it was clear, a midpoint lies in the test span and the reading is below
Tsan or flagged, or if it was set and neither end condition holds; in OFF it stands. (R104, R105, R106) -/
def Obligations.SweepSamplesRacksAndJudgesTheRinseHold : Prop :=
  ∀ (c : Conversions) (s : State) (tk bk : Chan), awake s = true → 250 ≤ s.scan.phase → joined s = true → s.profile.dish.enable = true →
    channelOfKind s.profile .tank = some tk → channelOfKind s.profile .booster = some bk →
    ∃ t, ∃ f : Rack → Rack, exec (.sweepCompletion c) s = .next t ∧ t.dish.racks = s.dish.racks.map f ∧
      (∀ r : Rack, (f r).number = r.number ∧ (f r).position = r.position ∧ (f r).plates = r.plates ∧
        (f r).verdict = r.verdict ∧
        ((f r).washMin = (if inWash s.profile.dish r = true ∧ flagged t tk = false
          then some ((r.washMin.map (fun m => min m (reading t tk))).getD (reading t tk)) else r.washMin)) ∧
        ((f r).dwell = (if inRinse s.profile.dish r = true ∧ s.dish.holds.door = false ∧ flagged t bk = false ∧
          (s.profile.dish.tsan : Int) ≤ reading t bk then min 600000 (r.dwell + 250) else r.dwell)) ∧
        ((f r).rinseMin = (if inRinse s.profile.dish r = true ∧ flagged t bk = false
          then some ((r.rinseMin.map (fun m => min m (reading t bk))).getD (reading t bk)) else r.rinseMin)) ∧
        ((f r).trace = (if inRinse s.profile.dish r = true ∧ s.profile.dish.trace = true ∧ r.trace.length < 32
          then r.trace ++ [reading t bk] else r.trace)) ∧
        ((f r).interrupted = true ↔ r.interrupted = true ∨ (inWash s.profile.dish r = true ∧ flagged t tk = true) ∨
          (inRinse s.profile.dish r = true ∧ (s.dish.holds.door = true ∨ flagged t bk = true)))) ∧
      (s.dish.mode = .off → t.dish.holds = s.dish.holds) ∧
      (s.dish.mode ≠ .off → (t.dish.holds.rinse = true ↔
        (s.dish.holds.rinse = false ∧ (∃ r ∈ s.dish.racks, inTestSpan s.profile.dish r = true) ∧
          (reading t bk < (s.profile.dish.tsan : Int) ∨ flagged t bk = true)) ∨
        (s.dish.holds.rinse = true ∧ (∃ r ∈ s.dish.racks, inTestSpan s.profile.dish r = true) ∧
          (reading t bk < (s.profile.dish.tsan : Int) + 10 ∨ flagged t bk = true))))

/-- In a joined state: a channel above 7 is refused with NO-SUCH, a channel that is no WARMER with WRONG-KIND, and no free
capacity with FULL. For a WARMER channel k let v be the count clamped into 1..300 (LEAST 1, MOST 300, DEFAULT the
capacity) and m the smaller of v and the free capacity. With fewer than six loads LOAD answers a next state with one
load more at the back, of m plates, credit 0, the service clock and the channel's next load number, which advances
from 255 to 1; numbers that differ go on differing. With six loads, the newest below 60,000 ms of credit and below 300
plates, the smaller of m and 300 less its count is merged into it, its credit becoming 0 and its clock the service
clock; a newest load of more credit or of 300 refuses with FULL. The reply carries count, number and merge, and is
DONE-CLAMPED exactly if a clamp changed the count. No ready or available count changes (a warm time is at least 60 s)
and the stock-changed flag stands. Every other channel, the holds and all blocks but stock and port are unchanged.
(R129) -/
def Obligations.LoadAddsOrMergesClampedPlates : Prop :=
  ∀ (c w : Word) (s : State), portDeaf s = false → joined s = true →
    (8 ≤ c.toNat → c.toNat < 65533 → exec (.load [c, w]) s = .next (refusedWith 48 .noSuch s)) ∧
    ∀ k : Chan, c.toNat = k.val →
      (s.profile.channels[k].kind ≠ .warmer → exec (.load [c, w]) s = .next (refusedWith 48 .wrongKind s)) ∧
      (s.profile.channels[k].kind = .warmer →
        s.profile.warmers[k].capacity ≤ loadedCount s.stock.warmers[k].loads →
        exec (.load [c, w]) s = .next (refusedWith 48 .full s)) ∧
      (s.profile.channels[k].kind = .warmer →
        loadedCount s.stock.warmers[k].loads < s.profile.warmers[k].capacity → 60 ≤ s.profile.warmers[k].warmTime →
        ∀ (v m : Nat) (clamped : Bool), Takes 1 300 s.profile.warmers[k].capacity w v clamped →
        m = min v (s.profile.warmers[k].capacity - loadedCount s.stock.warmers[k].loads) →
        (s.stock.warmers[k].loads.length < 6 → ∃ t, exec (.load [c, w]) s = .next t ∧ SameExcept [.stock, .port] s t ∧
          Answered 48 (clamped || decide (m ≠ v)) (.loaded m s.stock.warmers[k].nextLoad false) s t ∧
          t.stock = { s.stock with warmers := s.stock.warmers.set k { s.stock.warmers[k] with
            loads := s.stock.warmers[k].loads ++ [⟨s.stock.warmers[k].nextLoad, m, s.life.clock, 0⟩],
            nextLoad := s.stock.warmers[k].nextLoad % 255 + 1 } } ∧
          (∀ j : Chan, readyCount s.profile t.stock j = readyCount s.profile s.stock j ∧
            availableCount s.profile t.stock j = availableCount s.profile s.stock j) ∧
          ((∀ l ∈ s.stock.warmers[k].loads, l.number ≠ s.stock.warmers[k].nextLoad) →
            s.stock.warmers[k].loads.Pairwise (fun a b => a.number ≠ b.number) →
            t.stock.warmers[k].loads.Pairwise (fun a b => a.number ≠ b.number))) ∧
        (∀ (old : List Load) (l : Load), s.stock.warmers[k].loads = old ++ [l] → 5 ≤ old.length →
          (60000 ≤ l.credit ∨ 300 ≤ l.count → exec (.load [c, w]) s = .next (refusedWith 48 .full s)) ∧
          (l.credit < 60000 → l.count < 300 → ∃ t, exec (.load [c, w]) s = .next t ∧
            SameExcept [.stock, .port] s t ∧
            Answered 48 (clamped || decide (min m (300 - l.count) ≠ v))
              (.loaded (min m (300 - l.count)) l.number true) s t ∧
            t.stock = { s.stock with warmers := s.stock.warmers.set k { s.stock.warmers[k] with
              loads := old ++ [⟨l.number, l.count + min m (300 - l.count), s.life.clock, 0⟩] } } ∧
            (∀ j : Chan, readyCount s.profile t.stock j = readyCount s.profile s.stock j ∧
              availableCount s.profile t.stock j = availableCount s.profile s.stock j))))

/-- In a joined state, for a WARMER channel k, the count asked is the value clamped into 1..600 (LEAST 1, MOST and DEFAULT
600). Untagged, n is the smaller of it and the available count; tagged, with a hold h of that tag on k, of its count.
TAKE answers a next state whose ready loads of k have lost n plates: each ready load gives what the ones ahead have
not given and keeps its number, clock and credit with the rest of its count, an emptied one is gone, and loads that
are not ready stand. The stock-changed flag becomes set if n is above 0. The reply carries the ready count before and
n (and the hold's count after it), DONE-CLAMPED exactly if the value was clamped or n is below the count asked. A
tagged take lowers h by n, removing it at 0, and its asker is told of TAKEN with the count left: a peer by a
HOLD-STATE offered to the queue, this station's wave table in the same step, whose source on k that was HELD with the
tag adds the plates gone to its taken count and holds the rest, NONE at 0; other waves stand. Untagged, the holds and
everything but stock and port are unchanged. Loads of at least one plate, distinct tags and a hold within the ready
count are assumed, as the stock law gives them. (R125, R130, R131, R132, R135, R156, R184, R187) -/
def Obligations.TakeRemovesReadyPlatesOldestFirst : Prop :=
  ∀ (c w : Word) (k : Chan) (v : Nat) (clamped : Bool) (s : State), portDeaf s = false → joined s = true →
    c.toNat = k.val → Takes 1 600 600 w v clamped →
    s.profile.channels[k].kind = .warmer → (∀ l ∈ s.stock.warmers[k].loads, 1 ≤ l.count) →
    (∀ n, n = min v (availableCount s.profile s.stock k) →
      ∃ t, exec (.take [c, w]) s = .next t ∧ SameExcept [.stock, .port] s t ∧
        Answered 49 (clamped || decide (n < v)) (.taken (readyCount s.profile s.stock k) n none) s t ∧
        t.stock.holds = s.stock.holds ∧ TakenOldestFirst s.profile k n s.stock t.stock ∧
        t.stock.changed = (s.stock.changed || decide (0 < n))) ∧
    (∀ (g : Word) (h : Hold) (n : Nat), h ∈ s.stock.holds → h.tag = g.toNat → g.toNat ≤ 15 → h.channel = k →
      s.stock.holds.Pairwise (fun a b => a.tag ≠ b.tag) → h.count ≤ readyCount s.profile s.stock k →
      n = min v h.count →
      ∃ t, exec (.take [c, w, g]) s = .next t ∧ SameExcept [.bus, .stock, .waves, .port] s t ∧
        Answered 49 (clamped || decide (n < v)) (.taken (readyCount s.profile s.stock k) n (some (h.count - n))) s t ∧
        TakenOldestFirst s.profile k n s.stock t.stock ∧ t.stock.changed = (s.stock.changed || decide (0 < n)) ∧
        t.stock.holds = (if h.count = n then s.stock.holds.filter (fun x => decide (x.tag ≠ h.tag))
          else s.stock.holds.map (fun x => if x.tag = h.tag then { x with count := h.count - n } else x)) ∧
        AskerTold h 1 (h.count - n) s t)

/-- Out of reset. In a joined state a sweep completion at its 250 ms answers a next state in which each WARMER channel
that is warm (the new reading at least Tready, unflagged, not TRIPPED) and whose door is shut adds 250 ms of credit to
every load up to the warm time; a cold one adds 250 ms to its cooling timer up to 120,000, and any other has the timer
at 0 and its next reset to come; loads else, other channels and holds stand. COOLING_RESET of a WARMER channel at
120,000 ms whose reset is to come answers a next state in which every load on it has credit 0, it carries no hold,
holds and loads of other channels stand, each asker is told of CUT to 0, newest hold first (a peer by a HOLD-STATE
offered to the queue, this station's own wave at once: its source HELD with the tag becomes NONE), and with a load on
the list a COOLED report with the loads, the ready count before and the number of holds cut is the newest. In ACTIVE
or ISOLATED a HOLD-FREE of another station 1..30 to this one removes the hold with its tag, asker, wave and channel
and nothing else. HOLD_EXPIRY of a hold with no time left removes it alone and tells its asker EXPIRED in the same two
ways. The clauses on counts and tags assume the hold law; that the reset is a step of its own after the sweep, and
that a sweep makes its trips before it judges warm and cold, are the model's (log entries 17 and 18). (R1, R126, R128,
R132, R135, R136, R137, R138, R156) -/
def Obligations.HoldsEndByCoolingFreeOrExpiry : Prop :=
  ∀ s : State, awake s = true →
    (∀ c : Conversions, joined s = true → 250 ≤ s.scan.phase → ∃ t, exec (.sweepCompletion c) s = .next t ∧
      t.stock.holds = s.stock.holds ∧ ∀ k : Chan,
        (s.profile.channels[k].kind ≠ .warmer → t.stock.warmers[k] = s.stock.warmers[k]) ∧
        (s.profile.channels[k].kind = .warmer → ∀ cold : Bool,
          (cold = true ↔ reading t k < (s.profile.warmers[k].tready : Int) ∨ flagged t k = true ∨
            isTripped t.heat.channels[k].state = true) →
          t.stock.warmers[k] = { s.stock.warmers[k] with
            loads := if cold = false ∧ s.stock.warmers[k].doorOpen = false
              then s.stock.warmers[k].loads.map (fun l => { l with
                credit := min (s.profile.warmers[k].warmTime * 1000) (l.credit + 250) })
              else s.stock.warmers[k].loads
            cooling := if cold = true then min 120000 (s.stock.warmers[k].cooling + 250) else 0
            coolingDone := cold && s.stock.warmers[k].coolingDone })) ∧
    (∀ k : Chan, s.profile.channels[k].kind = .warmer → 120000 ≤ s.stock.warmers[k].cooling →
      s.stock.warmers[k].coolingDone = false → HoldLaw s.stock.holds → 0 < s.profile.warmers[k].warmTime →
      ∃ t, exec (.coolingReset k) s = .next t ∧ SameExcept [.bus, .stock, .waves, .port] s t ∧
        t.stock.warmers[k].loads = s.stock.warmers[k].loads.map (fun l => { l with credit := 0 }) ∧
        t.stock.warmers[k].coolingDone = true ∧
        (∀ j : Chan, j ≠ k → t.stock.warmers[j] = s.stock.warmers[j]) ∧
        t.stock.holds = s.stock.holds.filter (fun h => decide (h.channel ≠ k)) ∧ AllCut k s t ∧
        (s.stock.warmers[k].loads ≠ [] → t.port.reports.getLast? = some ⟨s.life.clock,
          .cooled k s.stock.warmers[k].loads.length (readyCount s.profile s.stock k)
            (holdsOn s.stock k).length⟩)) ∧
    (∀ (sender : Nat) (b : HoldFreeBody), maySend s = true → b.target = s.profile.stationId →
      1 ≤ sender → sender ≤ 30 → sender ≠ s.profile.stationId →
      ∃ t, exec (.holdFree sender b) s = .next t ∧ SameExcept [.bus, .stock] s t ∧
        t.bus = { s.bus with ackSlot := true } ∧ t.stock.warmers = s.stock.warmers ∧
        t.stock.holds = s.stock.holds.filter (fun h => decide (¬ (h.tag = b.tag ∧ h.asker = sender ∧
          h.wave = b.wave ∧ h.channel.val = b.channel)))) ∧
    (∀ h ∈ s.stock.holds, h.remaining = 0 → s.stock.holds.Pairwise (fun a b => a.tag ≠ b.tag) →
      ∃ t, exec (.holdExpiry h.tag) s = .next t ∧ SameExcept [.bus, .stock, .waves] s t ∧
        t.stock.warmers = s.stock.warmers ∧
        t.stock.holds = s.stock.holds.filter (fun x => decide (x.tag ≠ h.tag)) ∧
        AskerTold h 3 0 s t)

/-- In ACTIVE or ISOLATED, out of reset, a HOLD-ASK of another station 1..30 to this one answers a next state that differs
in stock and controller alone, and with room in the queue the one HOLD-ANSWER waits. A channel above 7 or not WARMER:
NO-SUCH, table unchanged. For a WARMER channel k, with want the count asked up to 600 and the duration clamped into
60..1800 s: a hold h of the key takes the smaller of want and the ready count less the other holds of k, keeping tag
and place, and is removed at 0; without one, a table of 16 answers FULL; otherwise the smaller of want and the
available count is granted under the lowest free tag at the end of the table, or NONE-AVAILABLE at 0 without a record.
An answer that is not GRANTED carries count 0 and the tag byte 255. Distinct tags and keys are assumed, as the hold
law gives them. (R132, R133, R134, R135, R51, 12_layouts_pins_and_ratings.md, 12.1) -/
def Obligations.HoldAskIsAnsweredByTheFirstCase : Prop :=
  ∀ (sender : Nat) (b : HoldAskBody) (s : State), awake s = true → maySend s = true → b.target = s.profile.stationId →
    1 ≤ sender → sender ≤ 30 → sender ≠ s.profile.stationId → HoldLaw s.stock.holds →
    ∃ (t : State) (holds : List Hold) (result count tag : Nat), exec (.holdAsk sender b) s = .next t ∧
      SameExcept [.bus, .stock] s t ∧ t.stock.warmers = s.stock.warmers ∧ t.stock.holds = holds ∧
      (occupied s.bus < 8 → ∃ e ∈ t.bus.waiting,
        e.frame = .holdAnswer ⟨sender, b.wave, b.channel, result, count, tag⟩) ∧
      (7 < b.channel ∨ (∃ k : Chan, b.channel = k.val ∧ s.profile.channels[k].kind ≠ .warmer) →
        holds = s.stock.holds ∧ result = 4 ∧ count = 0) ∧ (result ≠ 1 → tag = 255) ∧
      ∀ k : Chan, b.channel = k.val → s.profile.channels[k].kind = .warmer →
        (∀ h ∈ s.stock.holds, h.asker = sender → h.wave = b.wave → h.channel = k →
          ∀ n, n = min (min 600 b.count)
            (readyCount s.profile s.stock k - (heldCount s.stock k - h.count)) →
          (n = 0 → holds = s.stock.holds.filter (fun x => decide (x.tag ≠ h.tag)) ∧ result = 2 ∧ count = 0) ∧
          (0 < n → holds = s.stock.holds.map (fun x => if x.tag = h.tag
            then { x with count := n, remaining := max 60 (min 1800 b.duration) * 1000 } else x) ∧
            result = 1 ∧ count = n ∧ tag = h.tag)) ∧
        ((∀ h ∈ s.stock.holds, ¬ (h.asker = sender ∧ h.wave = b.wave ∧ h.channel = k)) →
          (16 ≤ s.stock.holds.length → holds = s.stock.holds ∧ result = 3 ∧ count = 0) ∧
          (s.stock.holds.length < 16 → ∀ n, n = min (min 600 b.count) (availableCount s.profile s.stock k) →
            (n = 0 → holds = s.stock.holds ∧ result = 2 ∧ count = 0) ∧
            (0 < n → holds = s.stock.holds ++
                [⟨tag, sender, b.wave, k, n, max 60 (min 1800 b.duration) * 1000⟩] ∧
              result = 1 ∧ count = n ∧ tag ≤ 15 ∧ (∀ h ∈ s.stock.holds, h.tag ≠ tag) ∧
              ∀ j < tag, ∃ h ∈ s.stock.holds, h.tag = j)))

/-- A due stock tick out of reset answers a next state with the tick taken and everything but stock unit and controller
unchanged. In ACTIVE or ISOLATED, at a station with a WARMER channel or a dish line and with a waiting STOCK or a free
entry, a STOCK waits that lists channel, ready and available count of each WARMER channel in channel order, nothing
else, and, exactly with the dish line enabled, the clean-awaiting count, and the stock-changed flag is clear; with a
full queue and no waiting STOCK the queue stands and the flag is set. In DUPLICATE, or with nothing to report, queue
and flag stand. (R48, R141, R142) -/
def Obligations.StockTickOffersTheCounts : Prop :=
  ∀ s : State, awake s = true → s.stock.tick.due = true → ∃ t, exec .stockTick s = .next t ∧
    SameExcept [.bus, .stock] s t ∧ t.stock.tick = { s.stock.tick with phase := 0, due := false } ∧
    t.stock.holds = s.stock.holds ∧ t.stock.warmers = s.stock.warmers ∧ t.stock.clean = s.stock.clean ∧
    (maySend s = true → hasStock s.profile = true →
      (s.bus.waiting.any (fun e => decide (kindCode e.frame = 9)) = true ∨ occupied s.bus < 8 →
        t.stock.changed = false ∧ ∃ e ∈ t.bus.waiting, ∃ b : StockBody, e.frame = .stock b ∧ ShowsStock s b) ∧
      (s.bus.waiting.any (fun e => decide (kindCode e.frame = 9)) = false → 8 ≤ occupied s.bus →
        t.stock.changed = true ∧ t.bus = s.bus)) ∧
    (maySend s = false ∨ hasStock s.profile = false → t.bus = s.bus ∧ t.stock.changed = s.stock.changed)

/-- In a joined state, for identifiers in range, an unused number, fewer than 16 waves, an OVEN channel and sources that
differ, WAVE-PLAN with one or two sources answers a next state whose table holds the old waves and the new one, in
rising order if it was. The new wave is PLANNED with flags clear and sources in NONE; fire and pass instant are
clamped into 0..86,399, cook seconds into 60..14,400, target into 0..Tmax - 50 and covers into 1..600, each a number
or a token: LEAST and MOST the bounds, DEFAULT the service clock, the clock, 1,200, 0 and 1. The reply is DONE-CLAMPED
exactly if a clamp changed one, a WAVE report PLANNED without a state before is the newest (that a planned wave has
none is the model's reading, log entry 40), and all but waves and port is unchanged. (R145, R146, R160, R187) -/
def Obligations.WavePlanEntersAClampedPlannedWave : Prop :=
  ∀ (n o fh fl ph pl c g v a b : Word) (second : Option (Word × Word)) (k : Chan) (s : State) (w : Wave)
    (c1 c2 c3 c4 c5 : Bool) (target : Nat),
    portDeaf s = false → joined s = true → 1 ≤ n.toNat → n.toNat ≤ 255 → o.toNat = k.val → 1 ≤ a.toNat → a.toNat ≤ 30 →
    b.toNat ≤ 7 → (∀ d ∈ second, 1 ≤ d.1.toNat ∧ d.1.toNat ≤ 30 ∧ d.2.toNat ≤ 7 ∧
      ¬ (d.1.toNat = a.toNat ∧ d.2.toNat = b.toNat)) →
    findWave n.toNat s = none → s.waves.length < 16 → s.profile.channels[k].kind = .oven →
    TakesWide 0 86399 s.life.clock fh fl w.fire c1 → TakesWide 0 86399 s.life.clock ph pl w.pass c2 →
    Takes 60 14400 1200 c w.cook c3 → Takes 0 (s.profile.channels[k].highLimit - 50) 0 g target c4 →
    Takes 1 600 1 v w.covers c5 →
    w = { number := n.toNat, oven := k, fire := w.fire, pass := w.pass, cook := w.cook, target := target,
          covers := w.covers, src1 := ⟨a.toNat, b.toNat, .none, 0⟩,
          src2 := second.map (fun d => ⟨d.1.toNat, d.2.toNat, .none, 0⟩),
          state := .planned, cookLeft := none, late := false, short := false, check := none, cookMs := 0,
          shortage := false } →
    ∃ t, exec (.wavePlan ([n, o, fh, fl, ph, pl, c, g, v, a, b] ++ (second.map (fun d => [d.1, d.2])).getD [])) s =
        .next t ∧ SameExcept [.waves, .port] s t ∧ t.waves.Perm (w :: s.waves) ∧
      (risingWaves s.waves → risingWaves t.waves) ∧ t.port.transaction = .none ∧
      t.port.reply = .done 64 (c1 || c2 || c3 || c4 || c5) .none ∧
      t.port.reports.getLast? = some ⟨s.life.clock, .wave n.toNat none (some .planned) false false .planned⟩

/-- A due clock second out of reset, on a table in rising order, answers a next state that holds each wave under its
number. With the new clock, a PLANNED wave whose preheat instant is reached is in PREHEAT, or in FIRE-DUE if its fire
instant is reached too; a PREHEAT wave whose fire instant is reached is in FIRE-DUE; any other wave keeps its state.
Its LATE flag is set if it was, or if the pass instant is reached and it was not in PLATING. A wave newly out of
PLANNED has its check timer at 5,000 ms, and its plan and cook remaining stand. Its shortage checks have begun if they
had, or if it is then in a state that makes ask checks and its pass instant less 600 s is reached; a wave whose checks
begin is SHORT exactly if its sources do not cover it then, and any other keeps its SHORT flag. With the clock
advanced the waves are judged one after the other by number, each in the order PREHEAT, FIRE-DUE, LATE, first shortage
check, and nothing else happens. At PREHEAT the oven takes the target, clamped, with ramp 0, or TARGET-REFUSED is
reported if it is TRIPPED, the sources are checked, PREHEAT is reported, and the first shortage check follows if its
instant is reached. FIRE-DUE and LATE each raise their call FIRE-DUE or WAVE-LATE and then queue their report. A wave
found SHORT has the call of the other reason cancelled, PLATES-FETCH or PLATES-SHORT raised, and SHORT reported if it
was not. The mark by which a wave's shortage checks begin once is the model's (log entry 24), and so are the walk by
number with the order inside it (log entry 19) and the order of a call and a report of one step (log entry 41). An
instant x is reached when (now - x) mod 86,400 is below 43,200. (R19, R21, R147, R148, R153, R154, R158, R159, R160) -/
def Obligations.ClockSecondMovesWavesAlongTheirTimeline : Prop :=
  ∀ (s : State) (reachedAt : Nat → Bool), awake s = true → s.life.second.due = true → risingWaves s.waves →
    (∀ x, reachedAt x = decide (((s.life.clock + 1) % 86400 + 86400 - x % 86400) % 86400 < 43200)) →
    ∃ t, exec .clockSecond s = .next t ∧
      WavesJudged reachedAt (s.waves.map (fun w => w.number)) (s.setLife { s.life with
        clock := (s.life.clock + 1) % 86400, second := { s.life.second with phase := 0, due := false } }) t ∧
      t.waves.map (fun w => w.number) = s.waves.map (fun w => w.number) ∧
      ∀ w ∈ s.waves, ∃ w' ∈ t.waves, w'.number = w.number ∧ w'.oven = w.oven ∧ w'.fire = w.fire ∧
        w'.pass = w.pass ∧ w'.cook = w.cook ∧ w'.target = w.target ∧ w'.covers = w.covers ∧
        w'.cookLeft = w.cookLeft ∧
        w'.state = (if w.state = .planned ∧
            reachedAt ((w.fire + 86400 - s.profile.preheatLead % 86400) % 86400) = true then
              (if reachedAt w.fire = true then .fireDue else .preheat)
          else if w.state = .preheat ∧ reachedAt w.fire = true then .fireDue else w.state) ∧
        w'.late = (w.late || (decide (w.state ≠ .plating) && reachedAt w.pass)) ∧
        (w.state = .planned → w'.state ≠ .planned → w'.check = some 5000) ∧
        w'.shortage = (w.shortage || (asking w'.state && reachedAt ((w.pass + 85800) % 86400))) ∧
        (w.shortage = false → w'.shortage = true →
          (w'.short = true ↔ heldFigure w'.src1.hold + ((w'.src2.map (fun r => heldFigure r.hold)).getD 0) +
            w'.src1.taken + ((w'.src2.map (fun r => r.taken)).getD 0) < w'.covers)) ∧
        (w.shortage = true ∨ w'.shortage = false → w'.short = w.short)

/-- In a joined state, for a wave w in the table. In PREHEAT and FIRE-DUE, with no other wave cooking on its oven,
WAVE-FIRE answers a next state in which w alone has changed in the table: COOKING with cook remaining its cook seconds
and the next second 1,000 ms off; a WAVE report FIRED is the newest and the reply DONE. From PLANNED, with every other
wave as it was, in this order (log entry 19): a channel that is not TRIPPED takes the wave's clamped target with ramp
0, from IDLE into RAMP with W at the clamped reading and in RAMP or REGULATE with W and state kept, while a TRIPPED
one is left and TARGET-REFUSED reported; the wave is COOKING likewise, with its check timer at 5,000 ms; its sources
are checked; the report FIRED is queued; and the first shortage check follows if the pass instant less 600 s is
reached. The reply is DONE. With another wave cooking on the oven the reply is REFUSED BUSY and nothing else changes.
(R19, R21, R147, R149, R154, R158, R160) -/
def Obligations.WaveFireStartsTheCook : Prop :=
  ∀ (n : Word) (w : Wave) (s : State), portDeaf s = false → joined s = true → 1 ≤ n.toNat → n.toNat ≤ 255 →
    findWave n.toNat s = some w →
    ((∀ x ∈ s.waves, x.number ≠ w.number → x.oven = w.oven → x.state ≠ .cooking) →
      (w.state = .preheat ∨ w.state = .fireDue → ∃ t, exec (.waveFire [n]) s = .next t ∧
        SameExcept [.bus, .waves, .paging, .port] s t ∧
        t.waves = s.waves.map (fun x => if x.number = w.number
          then { x with state := .cooking, cookLeft := some x.cook, cookMs := 1000 } else x) ∧
        t.port.reply = .done 65 false .none ∧ t.port.transaction = .none ∧
        t.port.reports.getLast? =
          some ⟨s.life.clock, .wave w.number (some w.state) (some .cooking) w.late w.short .fired⟩) ∧
      (∀ reachedAt : Nat → Bool, w.state = .planned →
        (∀ x, reachedAt x = decide ((s.life.clock + 86400 - x % 86400) % 86400 < 43200)) → ∃ t w' d, exec (.waveFire [n]) s = .next t ∧ findWave n.toNat t = some w' ∧
        w'.state = .cooking ∧ w'.cookLeft = some w.cook ∧ w'.cookMs = 1000 ∧ w'.check = some 5000 ∧
        FiredFromPlanned reachedAt w (s.setPort { s.port with transaction := .none }) d ∧
        t = d.setPort { d.port with reply := .done 65 false .none } ∧
        (∀ m, m ≠ n.toNat → findWave m t = findWave m s) ∧
        SameExcept [.heat, .bus, .stock, .waves, .paging, .port] s t ∧
        t.port.reply = .done 65 false .none ∧ t.port.transaction = .none ∧
        (isTripped s.heat.channels[w.oven].state = true → t.heat = s.heat) ∧
        (isTripped s.heat.channels[w.oven].state = false → ∀ top, top = s.profile.channels[w.oven].highLimit - 50 →
          t.heat = { s.heat with channels := s.heat.channels.set w.oven { s.heat.channels[w.oven] with
            state := t.heat.channels[w.oven].state } } ∧
          (∃ p, setpointOf t.heat.channels[w.oven].state = some p ∧ p.target = (min top w.target : Nat) ∧ p.ramp = 0 ∧
            (s.heat.channels[w.oven].state = .idle → p.w = max 0 (min (top : Int) (reading s w.oven)))))) ∧
    ((∃ x ∈ s.waves, x.number ≠ w.number ∧ x.oven = w.oven ∧ x.state = .cooking) →
      w.state = .planned ∨ w.state = .preheat ∨ w.state = .fireDue →
      exec (.waveFire [n]) s = .next (s.setPort { s.port with reply := .refused 65 .busy, transaction := .none })))

/-- In a joined state, for a wave w in the table. WAVE-PLATE of a wave in DONE answers a next state in which it alone
changed in the table, to PLATING, with the report PLATING the newest, the holds standing, and its WAVE-DONE and
shortage calls gone. WAVE-CLOSE in DONE or PLATING, and WAVE-CANCEL in every state, answer a next state without w, the
other waves standing, with the report CLOSED (covers, taken counts) or CANCELLED the newest. Every hold that w had
HELD at this station is gone and the other holds stand; for each it had HELD at a peer a HOLD-FREE waits with that
station as target, its tag, the wave number and the channel. Its calls, WAVE-DONE, WAVE-LATE and the shortage call, at
WAVE-CANCEL FIRE-DUE too, are gone, and a PAGE-CANCEL waits for each that was not LOCAL; the other calls stand. The
frames are said to wait where the queue has an entry for each. That those two reports show no state after is the
model's reading (log entry 40). Each reply is DONE; the heat channels, so the oven target, are unchanged. (R136, R151,
R152, R158, R160, R166) -/
def Obligations.WavePlateCloseAndCancelEndTheWave : Prop :=
  ∀ (n : Word) (w : Wave) (s : State), portDeaf s = false → joined s = true → 1 ≤ n.toNat → n.toNat ≤ 255 →
    findWave n.toNat s = some w →
    (w.state = .done → ∃ t, exec (.wavePlate [n]) s = .next t ∧ SameExcept [.bus, .waves, .paging, .port] s t ∧
      t.waves = s.waves.map (fun x => if x.number = w.number then { x with state := .plating } else x) ∧
      CallsEnded [.waveDone, .platesFetch, .platesShort] w.number [] s t ∧
      t.port.reply = .done 66 false .none ∧ t.port.transaction = .none ∧
      t.port.reports.getLast? =
        some ⟨s.life.clock, .wave w.number (some .done) (some .plating) w.late w.short .plating⟩) ∧
    (w.state = .done ∨ w.state = .plating → ∃ t, exec (.waveClose [n]) s = .next t ∧
      SameExcept [.bus, .stock, .waves, .paging, .port] s t ∧
      t.waves = s.waves.filter (fun x => decide (x.number ≠ w.number)) ∧ HoldsGiven w s t ∧
      FramesWait (freesOf w s) s t ∧
      CallsEnded [.waveDone, .waveLate, .platesFetch, .platesShort] w.number (freesOf w s) s t ∧
      t.port.reply = .done 67 false .none ∧ t.port.transaction = .none ∧
      t.port.reports.getLast? = some ⟨s.life.clock, .wave w.number (some w.state) none w.late w.short
        (.closed w.covers w.src1.taken (w.src2.map (fun r => r.taken)))⟩) ∧
    (∃ t, exec (.waveCancel [n]) s = .next t ∧ SameExcept [.bus, .stock, .waves, .paging, .port] s t ∧
      t.waves = s.waves.filter (fun x => decide (x.number ≠ w.number)) ∧ HoldsGiven w s t ∧
      FramesWait (freesOf w s) s t ∧
      CallsEnded [.fireDue, .waveDone, .waveLate, .platesFetch, .platesShort] w.number (freesOf w s) s t ∧
      t.port.reply = .done 68 false .none ∧ t.port.transaction = .none ∧
      t.port.reports.getLast? =
        some ⟨s.life.clock, .wave w.number (some w.state) none w.late w.short .cancelled⟩)

/-- Out of reset, for a wave w. A due COOK_TIMER of a COOKING wave takes a second off the cook remaining exactly under
R150's conditions; at 0 the wave is DONE with its report. A due ASK_CHECK of an asking wave restarts the check timer,
checks source 1 and then source 2, and is followed by a shortage check exactly if those have begun. One source whose
need exceeds its held figure: a remote one becomes ASKED for 5,000 ms, keeping what it had before, and its HOLD-ASK
waits, or stands as it was when the queue refuses; one at this station is HELD with the grant of the plate stock unit,
NONE at 0, and NONE with the report SOURCE-REFUSED where the channel is no WARMER. A source ASKED or holding its need
is left alone. Two remote sources are both asked, each with its own need; a HELD source 2 without need becomes NONE
and its HOLD-FREE waits, or the own table is freed of it. A shortage check of a covered wave clears SHORT, cancels
both shortage calls and reports COVERED if SHORT was set; of any other sets SHORT, cancels the call of the other
reason, raises PLATES-FETCH exactly if some peer shows the shortfall as clean, else PLATES-SHORT, and reports SHORT if
it was clear. A due ANSWER_TIMER_EXPIRY makes the ASKED source NONE alone. What ASKED keeps from before is the model's
(log entry 11), and so is the order of a call and a report of one step, the call first (log entry 41). (R150, R154,
R155, R157, R158, R133, R136, R51) -/
def Obligations.WaveTimersCookAskAndGiveUp : Prop :=
  ∀ (w : Wave) (s : State), awake s = true → findWave w.number s = some w →
    (w.state = .cooking → w.cookMs = 0 → ∀ left : Nat, left = w.cookLeft.getD 0 -
        (if s.heat.channels[w.oven].doorFlag = false ∧ (setpointOf s.heat.channels[w.oven].state).isSome = true ∧
          flagged s w.oven = false ∧ (w.target : Int) - 150 ≤ reading s w.oven then 1 else 0) →
      ∃ t, exec (.cookTimer w.number) s = .next t ∧ SameExcept [.bus, .waves, .paging, .port] s t ∧
        (0 < left → SameExcept [.waves] s t ∧
          findWave w.number t = some { w with cookLeft := some left, cookMs := 1000 }) ∧
        (left = 0 → findWave w.number t = some { w with cookLeft := some 0, cookMs := 1000, state := .done } ∧
          t.port.reports.getLast? =
            some ⟨s.life.clock, .wave w.number (some .cooking) (some .done) w.late w.short .done⟩)) ∧
    (asking w.state = true → w.check = some 0 → ∃ u,
      exec (.askCheck w.number) s = .next (if w.shortage = true then shortageCheck w.number u else u) ∧
      SameExcept [.bus, .stock, .waves, .port] s u ∧
      ∀ (seconds : Nat), seconds = max 60 (min 1800 ((if (s.life.clock + 86400 - w.pass % 86400) % 86400 < 43200 then 0
          else (w.pass + 86400 - s.life.clock % 86400) % 86400) + 600)) →
        (w.src2 = none → ∀ need, need = w.covers - w.src1.taken →
          ((∃ n b, w.src1.hold = .asked n b) ∨ need ≤ heldFigure w.src1.hold →
            SameExcept [.waves] s u ∧ findWave w.number u = some { w with check := some 5000 }) ∧
          (∀ b : Standing, w.src1.hold = b.copy → heldFigure b.copy < need →
            (w.src1.station ≠ s.profile.stationId → maySend s = true → occupied s.bus < 8 →
              SameExcept [.bus, .waves] s u ∧
              findWave w.number u = some { w with
                check := some 5000, src1 := { w.src1 with hold := .asked 5000 b } } ∧
              ∃ e ∈ u.bus.waiting,
                e.frame = .holdAsk ⟨w.src1.station, w.number, w.src1.channel, need, seconds⟩) ∧
            (w.src1.station ≠ s.profile.stationId → maySend s = false ∨ 8 ≤ occupied s.bus →
              SameExcept [.waves] s u ∧ findWave w.number u = some { w with check := some 5000 }) ∧
            (w.src1.station = s.profile.stationId → ∀ k : Chan, w.src1.channel = k.val →
              (s.profile.channels[k].kind ≠ .warmer → SameExcept [.waves, .port] s u ∧
                findWave w.number u = some { w with check := some 5000, src1 := { w.src1 with hold := .none } } ∧
                u.port.reports.getLast? = some ⟨s.life.clock, .wave w.number (some w.state) (some w.state)
                  w.late w.short (.sourceRefused w.src1.station k.val)⟩) ∧
              (s.profile.channels[k].kind = .warmer → s.stock.holds.length < 16 →
                (∀ h ∈ s.stock.holds, ¬ (h.asker = s.profile.stationId ∧ h.wave = w.number ∧ h.channel = k)) →
                ∀ n, n = min (min 600 need) (availableCount s.profile s.stock k) →
                (n = 0 → SameExcept [.waves] s u ∧
                  findWave w.number u = some { w with check := some 5000, src1 := { w.src1 with hold := .none } }) ∧
                (0 < n → SameExcept [.stock, .waves] s u ∧ ∃ tag ≤ 15, (∀ h ∈ s.stock.holds, h.tag ≠ tag) ∧
                  u.stock.holds = s.stock.holds ++
                    [⟨tag, s.profile.stationId, w.number, k, n, seconds * 1000⟩] ∧
                  findWave w.number u = some { w with
                    check := some 5000, src1 := { w.src1 with hold := .held n tag } }))))) ∧
        (∀ r : Source, w.src2 = some r →
          (∀ (b1 b2 : Standing), w.src1.hold = b1.copy → r.hold = b2.copy →
            w.src1.station ≠ s.profile.stationId → r.station ≠ s.profile.stationId →
            heldFigure b1.copy < w.covers - (w.src1.taken + r.taken + heldFigure b2.copy) →
            heldFigure b2.copy < w.covers - (w.src1.taken + r.taken) → maySend s = true → occupied s.bus < 7 →
            SameExcept [.bus, .waves] s u ∧
            findWave w.number u = some { w with
              check := some 5000
              src1 := { w.src1 with hold := .asked 5000 b1 }
              src2 := some { r with hold := .asked 5000 b2 } } ∧
            (∃ e ∈ u.bus.waiting, e.frame = .holdAsk ⟨w.src1.station, w.number, w.src1.channel,
              w.covers - (w.src1.taken + r.taken + heldFigure b2.copy), seconds⟩) ∧
            ∃ e ∈ u.bus.waiting, e.frame = .holdAsk ⟨r.station, w.number, r.channel,
              w.covers - (w.src1.taken + r.taken), seconds⟩) ∧
          (∀ n1 g1 n2 g2, w.src1.hold = .held n1 g1 → r.hold = .held n2 g2 →
            w.covers ≤ w.src1.taken + r.taken + n1 →
            findWave w.number u = some { w with check := some 5000, src2 := some { r with hold := .none } } ∧
            (r.station ≠ s.profile.stationId → SameExcept [.bus, .waves] s u ∧
              FrameWaits (.holdFree ⟨r.station, g2, w.number, r.channel⟩) s u) ∧
            (r.station = s.profile.stationId → SameExcept [.stock, .waves] s u ∧
              u.stock.holds = s.stock.holds.filter (fun h => decide (¬ (h.tag = g2 ∧
                h.asker = s.profile.stationId ∧ h.wave = w.number ∧ h.channel.val = r.channel))))))) ∧
    (∀ (t : State) (shortfall : Nat), t = shortageCheck w.number s →
      shortfall = w.covers - (heldFigure w.src1.hold + (w.src2.map (fun r => heldFigure r.hold)).getD 0 +
        w.src1.taken + (w.src2.map (fun r => r.taken)).getD 0) →
      SameExcept [.bus, .waves, .paging, .port] s t ∧
      (∀ m, m ≠ w.number → findWave m t = findWave m s) ∧
      (shortfall = 0 →
        findWave w.number t = some { w with shortage := true, short := false } ∧
        t.paging = (cancelCall .platesShort w.number (cancelCall .platesFetch w.number s)).paging ∧
        t.bus = (cancelCall .platesShort w.number (cancelCall .platesFetch w.number s)).bus ∧
        (w.short = false → t.port = s.port) ∧
        (w.short = true → t.port.reports.getLast? =
          some ⟨s.life.clock, .wave w.number (some w.state) (some w.state) w.late false .covered⟩)) ∧
      ∀ (here other : CallReason) (p : Prop), (p ↔ ∃ x ∈ s.peers, ∃ q n, x.stock = some q ∧ q.clean = some n ∧
          shortfall ≤ n) →
        (p ∧ here = .platesFetch ∧ other = .platesShort) ∨ (¬ p ∧ here = .platesShort ∧ other = .platesFetch) →
        0 < shortfall → findWave w.number t = some { w with shortage := true, short := true } ∧
          t.paging = (raiseCall here w.number (cancelCall other w.number s)).paging ∧
          t.bus = (raiseCall here w.number (cancelCall other w.number s)).bus ∧
          (w.short = true → t.port = (raiseCall here w.number (cancelCall other w.number s)).port) ∧
          (w.short = false → t.port.reports.getLast? =
            some ⟨s.life.clock, .wave w.number (some w.state) (some w.state) w.late true .short⟩)) ∧
    (∀ (second : Bool) (r : Source) (b : Standing), sourceOf second w = some r → r.hold = .asked 0 b →
      ∃ t, exec (.answerTimerExpiry w.number second) s = .next t ∧ SameExcept [.waves] s t ∧
        findWave w.number t = some (changeSource second (fun x => { x with hold := .none }) w))

/-- In ACTIVE or ISOLATED, out of reset, from another station 1..30 and addressed to this one. A HOLD-ANSWER that matches
a source of a wave makes it HELD with count and tag when GRANTED with a count above 0, and NONE when NONE-AVAILABLE,
FULL or NO-SUCH, the last with a report SOURCE-REFUSED the newest. A GRANTED answer for no wave of this table offers a
HOLD-FREE of its tag. A HOLD-STATE that matches a source HELD with its tag: TAKEN raises the taken count by the fall
and keeps the new count, CUT keeps the new count, each as NONE at 0, and EXPIRED makes it NONE; for a source not so
held nothing changes. A count above the held one, which adds nothing to taken, is the model's choice (log entry 49).
No other wave's record, and no block beyond those named, changes. (R51, R155, R156) -/
def Obligations.HoldMessagesKeepTheWavesCopy : Prop :=
  ∀ (sender : Nat) (s : State), awake s = true → maySend s = true → 1 ≤ sender → sender ≤ 30 →
    sender ≠ s.profile.stationId →
    (∀ (b : HoldAnswerBody) (w : Wave) (second : Bool), b.target = s.profile.stationId →
      findWave b.wave s = some w → matchSource sender b.channel w = some second →
      ∃ t, exec (.holdAnswer sender b) s = .next t ∧ SameExcept [.bus, .waves, .port] s t ∧
        t.bus = { s.bus with ackSlot := true } ∧
        (b.result = 1 → 0 < b.count → SameExcept [.bus, .waves] s t ∧
          findWave b.wave t = some (changeSource second (fun r => { r with hold := .held b.count b.tag }) w)) ∧
        (2 ≤ b.result → b.result ≤ 4 →
          findWave b.wave t = some (changeSource second (fun r => { r with hold := .none }) w)) ∧
        (b.result = 4 → t.port.reports.getLast? = some ⟨s.life.clock, .wave w.number (some w.state) (some w.state)
          w.late w.short (.sourceRefused sender b.channel)⟩) ∧
        ∀ m, m ≠ b.wave → findWave m t = findWave m s) ∧
    (∀ b : HoldAnswerBody, b.target = s.profile.stationId → findWave b.wave s = none → b.result = 1 →
      occupied s.bus < 8 → ∃ t, exec (.holdAnswer sender b) s = .next t ∧ SameExcept [.bus] s t ∧
        ∃ e ∈ t.bus.waiting, e.frame = .holdFree ⟨sender, b.tag, b.wave, b.channel⟩) ∧
    (∀ (b : HoldStateBody) (w : Wave) (second : Bool) (r : Source), b.target = s.profile.stationId →
      findWave b.wave s = some w → matchSource sender b.channel w = some second → sourceOf second w = some r →
      ∃ t, exec (.holdState sender b) s = .next t ∧ SameExcept [.bus, .waves] s t ∧
        t.bus = { s.bus with ackSlot := true } ∧ (∀ m, m ≠ b.wave → findWave m t = findWave m s) ∧
        (∀ count, r.hold = .held count b.tag → ∀ left, left = (if b.count = 0 then .none else .held b.count b.tag) →
          (b.cause = 1 → findWave b.wave t = some (changeSource second
            (fun x => { x with taken := x.taken + (count - b.count), hold := left }) w)) ∧
          (b.cause = 2 → findWave b.wave t = some (changeSource second (fun x => { x with hold := left }) w)) ∧
          (b.cause = 3 → findWave b.wave t = some (changeSource second (fun x => { x with hold := .none }) w))) ∧
        ((∀ count, r.hold ≠ .held count b.tag) → findWave b.wave t = some w))

/-- In a joined state, for a group 0..7, an urgency into 0..3 (DEFAULT 1) and a subject into 0..65,535 (DEFAULT 0). With a
PANEL call of that subject open PAGE answers DONE, or DONE-CLAMPED if a value was clamped, with its number and changes
nothing else. With room it answers a next state with a new call number that no open call has, the next one when free;
at a station without a radio the call stands at the back in CALLING with 1 broadcast and 10,000 ms, and its PAGE-CALL
waits if the queue has room. A full list without a call of lower urgency refuses with FULL; otherwise the oldest call
of lowest urgency makes room with a report REPLACED. CALL-END removes a PANEL call and offers its PAGE-CANCEL, and
refuses a number of no call with NO-SUCH and another reason with WRONG-KIND. In every state a call that a block
raises: an open call of its reason and subject stands and nothing changes; with room a new call with the mapped group
and fixed urgency enters, LOCAL with its report without a group, else CALLING and handed to the own serving side; a
full list refuses it with a report REFUSED (without a number: log entry 50) or replaces the weakest call, and a call
that is not LOCAL leaves with a PAGE-CANCEL. That the mark stands at an open call too (log entry 16), and that a call
without a group is refused or replaces at a full list as any other (log entry 12), are the model's readings. (R39,
R161, R162, R163, R164, R166, R181, R184, R187) -/
def Obligations.PageEntersACallAndCallEndRemovesIt : Prop :=
  (∀ (g u sh sl : Word) (s : State) (subject urgency : Nat) (c1 c2 clamped : Bool), portDeaf s = false →
    joined s = true →
    (g.toNat ≤ 7 → Takes 0 3 1 u urgency c1 → TakesWide 0 65535 0 sh sl subject c2 → clamped = (c1 || c2) →
      (∀ c, openCall .panel subject s = some c →
        exec (.page [g, u, sh, sl]) s = .next (s.setPort { s.port with
          reply := .done 80 clamped (.call c.number), transaction := .none })) ∧
      (openCall .panel subject s = none → s.paging.calls.length < 16 → 1 ≤ s.paging.nextNumber →
        s.paging.nextNumber ≤ 255 → ∃ (t : State) (n : Nat), exec (.page [g, u, sh, sl]) s = .next t ∧
          1 ≤ n ∧ n ≤ 255 ∧ (∀ c ∈ s.paging.calls, c.number ≠ n) ∧
          ((∀ c ∈ s.paging.calls, c.number ≠ s.paging.nextNumber) → n = s.paging.nextNumber) ∧
          SameExcept [.bus, .paging, .port] s t ∧ t.port.reply = .done 80 clamped (.call n) ∧
          (s.profile.radio = false → Answered 80 clamped (.call n) s t ∧
            t.paging = { s.paging with
              calls := s.paging.calls ++ [⟨n, .panel, subject, some g.toNat, urgency, .calling, 1, some 10000, none⟩]
              nextNumber := n % 255 + 1 } ∧
            FrameWaits (.pageCall ⟨n, 12, subject, g.toNat, urgency⟩) s t)) ∧
      (openCall .panel subject s = none → 16 ≤ s.paging.calls.length → (∀ c ∈ s.paging.calls, urgency ≤ c.urgency) →
        exec (.page [g, u, sh, sl]) s = .next (s.setPort { s.port with
          reply := .refused 80 .full, transaction := .none })) ∧
      (∀ (before after : List Call) (v : Call), openCall .panel subject s = none → s.paging.calls.length = 16 →
        s.paging.calls = before ++ v :: after → v.urgency < urgency → (∀ c ∈ before, v.urgency < c.urgency) →
        (∀ c ∈ after, v.urgency ≤ c.urgency) → s.paging.calls.Pairwise (fun a b => a.number ≠ b.number) →
        s.profile.radio = false → ∃ (t : State) (n : Nat), exec (.page [g, u, sh, sl]) s = .next t ∧
          t.paging.calls = before ++ after ++
            [⟨n, .panel, subject, some g.toNat, urgency, .calling, 1, some 10000, none⟩] ∧
          t.port.reply = .done 80 clamped (.call n) ∧ SameExcept [.bus, .paging, .port] s t ∧
          t.port.reports.getLast? =
            some ⟨s.life.clock, .call (some v.number) v.reason v.subject v.group v.urgency .replaced⟩)) ∧
    (1 ≤ g.toNat → g.toNat ≤ 255 →
      ((∀ c ∈ s.paging.calls, c.number ≠ g.toNat) → exec (.callEnd [g]) s = .next (s.setPort { s.port with
        reply := .refused 81 .noSuch, transaction := .none })) ∧
      ∀ c, s.paging.calls.find? (fun c => decide (c.number = g.toNat)) = some c →
        (c.reason ≠ .panel → exec (.callEnd [g]) s = .next (s.setPort { s.port with
          reply := .refused 81 .wrongKind, transaction := .none })) ∧
        (c.reason = .panel → ∃ t, exec (.callEnd [g]) s = .next t ∧ SameExcept [.bus, .paging, .port] s t ∧
          Answered 81 false .none s t ∧
          t.paging.calls = s.paging.calls.filter (fun c => decide (c.number ≠ g.toNat)) ∧
          (c.state = .local → t.paging = { s.paging with calls := t.paging.calls } ∧ t.bus = s.bus) ∧
          (c.state ≠ .local → FrameWaits (.pageCancel g.toNat) s t)))) ∧
  ∀ (r : CallReason) (subject : Nat) (group : Option Nat) (urgency : Nat) (s : State),
    group = mappedGroup s.profile r → urgency = reasonUrgency r →
    (∀ c, openCall r subject s = some c → raiseCall r subject s = s) ∧
    (openCall r subject s = none →
      (s.paging.calls.length < 16 → 1 ≤ s.paging.nextNumber → s.paging.nextNumber ≤ 255 → ∃ u n,
        CallEntered n r subject group urgency s.paging.calls s u ∧ SameExcept [.bus, .paging, .port] s u ∧
        u.paging.queue = s.paging.queue ∧ (group = none → raiseCall r subject s = u ∧ u.bus = s.bus) ∧
        ∀ g, group = some g → u.port = s.port ∧
          raiseCall r subject s = serveCall s.profile.stationId ⟨n, reasonCode r, subject, g, urgency⟩ u ∧
          (s.profile.radio = false → raiseCall r subject s = u)) ∧
      (16 ≤ s.paging.calls.length → (∀ c ∈ s.paging.calls, urgency ≤ c.urgency) →
        raiseCall r subject s = pushReport (.call none r subject group urgency .refused) s) ∧
      (∀ (before after : List Call) (v : Call), s.paging.calls.length = 16 → s.paging.calls = before ++ v :: after →
        v.urgency < urgency → urgency ≤ 255 → (∀ c ∈ before, v.urgency < c.urgency) →
        (∀ c ∈ after, v.urgency ≤ c.urgency) → s.paging.calls.Pairwise (fun a b => a.number ≠ b.number) →
        s.profile.radio = false → 1 ≤ s.paging.nextNumber → s.paging.nextNumber ≤ 255 →
        (v.state = .local ∨ occupied s.bus ≠ 7) → ∃ t n, raiseCall r subject s = t ∧
          CallEntered n r subject group urgency (before ++ after) s t ∧ SameExcept [.bus, .paging, .port] s t ∧
          (⟨s.life.clock, .call (some v.number) v.reason v.subject v.group v.urgency .replaced⟩ : Report) ∈
            t.port.reports ∧
          (v.state ≠ .local → FrameWaits (.pageCancel v.number) s t)))

/-- In ACTIVE or ISOLATED, out of reset, from another station 1..30. Without a radio both frames change the acknowledge
slot alone. With one: a PAGE-CALL already queued is answered with TAKEN or with SENT and its pager; with the radio
DOWN or a group without a member it changes the slot alone; a queue of 24 without a WAITING call of lower urgency
answers DROPPED; one with such a call ends the WAITING call of lowest urgency, the earliest taken, with DROPPED, and
the new call enters. With room and the modem awaiting a result the call enters, in queue order if it stood, in WAITING
with an unused tag, and TAKEN is told. With an idle modem and an empty queue it is sent at once to the first on-duty
member of its group in the order of R171 and R172. A PAGE-CANCEL removes the call with its identifier and nothing
else. A broadcast of this station's own CALLING call offers its PAGE-CALL and puts the call into the own page queue in
the same step, which makes it TAKEN with 60,000 ms on its timer. Frames wait when the queue has room. An urgency byte
above 3 sweeps as 3 does by the model's reading (log entry 31), and the pager of the answer to a queued call is that
of its latest SENT told, TAKEN before it (log entry 52). (R164, R165, R167, R168, R169, R170, R171, R172, R177) -/
def Obligations.PageCallIsTakenByTheFirstCase : Prop :=
  ∀ (sender : Nat) (b : PageCallBody) (s : State), awake s = true → maySend s = true → 1 ≤ sender → sender ≤ 30 →
    sender ≠ s.profile.stationId →
    (s.profile.radio = false → exec (.pageCall sender b) s = .next (s.setBus { s.bus with ackSlot := true }) ∧
      exec (.pageCancel sender b.number) s = .next (s.setBus { s.bus with ackSlot := true })) ∧
    (s.profile.radio = true →
      exec (.pageCancel sender b.number) s = .next ((s.setBus { s.bus with ackSlot := true }).setPaging { s.paging with
        queue := s.paging.queue.filter (fun x => !(decide (x.origin = sender) && decide (x.number = b.number))) })) ∧
    (s.profile.radio = true →
      (∀ c, s.paging.queue.find? (fun x => decide (x.origin = sender) && decide (x.number = b.number)) = some c →
        ∃ t, exec (.pageCall sender b) s = .next t ∧ SameExcept [.bus] s t ∧
          FrameWaits (match c.sentPager with
            | some a => pageStateOf c 2 a
            | none => pageStateOf c 1 0) s t) ∧
      ((∀ c ∈ s.paging.queue, ¬ (c.origin = sender ∧ c.number = b.number)) →
        (s.paging.radioUp = false ∨ hasMember s.profile b.group = false →
          exec (.pageCall sender b) s = .next (s.setBus { s.bus with ackSlot := true })) ∧
        (s.paging.radioUp = true → hasMember s.profile b.group = true →
          (24 ≤ s.paging.queue.length → (∀ c ∈ s.paging.queue, c.state = .waiting → b.urgency ≤ c.urgency) →
            ∃ t, exec (.pageCall sender b) s = .next t ∧ SameExcept [.bus] s t ∧
              FrameWaits (.pageState ⟨sender, b.number, b.reason, b.subject, 5, 0⟩) s t) ∧
          (∀ new : Paged, new = ⟨sender, b.number, new.tag, b.reason, b.subject, b.group, b.urgency, .waiting, false, [], none,
              0, none, none, none⟩ →
            (∀ (front back : List Paged) (v : Paged), s.paging.queue = front ++ v :: back →
              s.paging.queue.length = 24 → v.state = .waiting → v.urgency < b.urgency → b.urgency < 256 →
              (∀ c ∈ front, c.state = .waiting → v.urgency < c.urgency) →
              (∀ c ∈ back, c.state = .waiting → v.urgency ≤ c.urgency) →
              s.paging.queue.Pairwise (fun x y => x.tag ≠ y.tag ∧ ¬ (x.origin = y.origin ∧ x.number = y.number)) →
              s.paging.modem.isSome = true →
              new.tag = freeNumber ((front ++ back).map (fun c => c.tag)) 255 s.paging.nextTag →
              ∃ t, exec (.pageCall sender b) s = .next t ∧ SameExcept [.bus, .paging, .port] s t ∧
                t.paging.queue.Perm (new :: (front ++ back)) ∧ t.paging.modem = s.paging.modem ∧
                (v.origin ≠ s.profile.stationId → SameExcept [.bus, .paging] s t ∧
                  FrameWaits (pageStateOf v 5 0) s t) ∧
                (occupied s.bus < 7 → ∃ e ∈ t.bus.waiting, e.frame = pageStateOf new 1 0)) ∧
            (new.tag = freeNumber (s.paging.queue.map (fun c => c.tag)) 255 s.paging.nextTag →
              (s.paging.queue.length < 24 → s.paging.modem.isSome = true → ∃ t,
                exec (.pageCall sender b) s = .next t ∧ SameExcept [.bus, .paging] s t ∧
                t.paging.queue.Perm (new :: s.paging.queue) ∧ (∀ c ∈ s.paging.queue, c.tag ≠ new.tag) ∧
                (s.paging.queue.Pairwise (fun x y => y.urgency ≤ x.urgency) →
                  t.paging.queue.Pairwise (fun x y => y.urgency ≤ x.urgency)) ∧
                t.paging.nextTag = new.tag % 255 + 1 ∧ t.paging.modem = s.paging.modem ∧
                FrameWaits (pageStateOf new 1 0) s t) ∧
              (s.paging.queue = [] → s.paging.modem = none → s.paging.allCall = none →
                ∀ i : Fin 32, FirstMember s b.urgency b.group [] i → ∃ t, exec (.pageCall sender b) s = .next t ∧
                  SameExcept [.bus, .paging] s t ∧
                  t.paging.queue = [{ new with state := .sending, current := some i, tried := [i] }] ∧
                  SendWritten new i t ∧ FrameWaits (pageStateOf new 1 0) s t)))))) ∧
    (∀ (c : Call) (g : Nat) (new : Paged), s.profile.radio = true → s.paging.radioUp = true →
      s.paging.calls.find? (fun x => decide (x.number = c.number)) = some c → c.timer = some 0 → c.state = .calling →
      c.broadcasts < 3 → c.group = some g → hasMember s.profile g = true → s.paging.modem.isSome = true →
      s.paging.queue.length < 24 → (∀ x ∈ s.paging.queue, ¬ (x.origin = s.profile.stationId ∧ x.number = c.number)) →
      s.paging.calls.Pairwise (fun x y => x.number ≠ y.number) →
      new = ⟨s.profile.stationId, c.number, freeNumber (s.paging.queue.map (fun x => x.tag)) 255 s.paging.nextTag,
        reasonCode c.reason, c.subject, g, c.urgency, .waiting, false, [], none, 0, none, none, none⟩ →
      ∃ t, exec (.broadcastTimerExpiry c.number) s = .next t ∧ SameExcept [.bus, .paging] s t ∧
        t.paging.queue.Perm (new :: s.paging.queue) ∧
        t.paging.calls = s.paging.calls.map (fun x => if x.number = c.number
          then { c with state := .taken, broadcasts := c.broadcasts + 1, timer := some 60000 } else x) ∧
        FrameWaits (.pageCall ⟨c.number, reasonCode c.reason, c.subject, g, c.urgency⟩) s t)

/-- Out of reset. In a joined state DUTY of an entry in use sets its flag, by DEFAULT to the entry's default duty; another
value or token is MALFORMED; without a radio it is refused with WRONG-KIND, on an unused entry with NO-SUCH. A DUTY
record collected at a serving station sets the flag of the entry with its address, or of none. With a radio that is
UP, ALL-CALL clamps its seconds into 10..120 (LEAST 10, MOST 120, DEFAULT 30) and starts an all-call, whose ALL record
(mask of the groups with a member, seconds left) is written at once on an idle modem, with the next due 5,000 ms
later, and is due while the modem awaits a result; DOWN refuses it with STATE. A record falling due does the same.
ALL-CALL-END, and the end of its seconds, stop it; with no call to grant or a modem awaiting a result the newest
report is ALL-CALL-ENDED. Refusals change nothing else. That the 5,000 ms count from the grant of the record is the
model's reading (log entry 34). (R167, R170, R175, R178, R179, R181, R184, R187) -/
def Obligations.RadioCommandsSetDutyAndTheAllCall : Prop :=
  ∀ (x v : Word) (i : Fin 32) (s : State), awake s = true →
    (portDeaf s = false → joined s = true → x.toNat = i.val →
      (2 ≤ v.toNat → v.toNat < 65535 → exec (.duty [x, v]) s = .next (refusedWith 82 .malformed s)) ∧
      ∀ on : Bool, (v.toNat ≤ 1 ∧ on = decide (v.toNat = 1)) ∨
        (v.toNat = 65535 ∧ on = s.profile.roster[i].defaultDuty) →
      (s.profile.radio = false → exec (.duty [x, v]) s = .next (s.setPort { s.port with
        reply := .refused 82 .wrongKind, transaction := .none })) ∧
      (s.profile.radio = true → s.profile.roster[i].address = 0 → exec (.duty [x, v]) s = .next (s.setPort { s.port with
        reply := .refused 82 .noSuch, transaction := .none })) ∧
      (s.profile.radio = true → s.profile.roster[i].address ≠ 0 → ∃ t, exec (.duty [x, v]) s = .next t ∧
        SameExcept [.paging, .port] s t ∧ Answered 82 false .none s t ∧
        t.paging = { s.paging with duty := s.paging.duty.set i on })) ∧
    (∀ (address : Nat) (on : Bool), serves s = true → s.paging.collecting = true →
      (address ≠ 0 → s.profile.roster[i].address = address →
        (∀ j : Fin 32, j < i → s.profile.roster[j].address ≠ address) → exec (.dutyRecord address on) s =
          .next (s.setPaging { s.paging with duty := s.paging.duty.set i on, collecting := false })) ∧
      ((∀ j : Fin 32, s.profile.roster[j].address ≠ address) → exec (.dutyRecord address on) s =
        .next (s.setPaging { s.paging with collecting := false }))) ∧
    (portDeaf s = false → joined s = true → ∀ (m : Nat) (clamped : Bool), Takes 10 120 30 v m clamped →
      (s.profile.radio = false → exec (.allCall [v]) s = .next (s.setPort { s.port with
        reply := .refused 83 .wrongKind, transaction := .none })) ∧
      (s.profile.radio = true → s.paging.radioUp = false → exec (.allCall [v]) s = .next (s.setPort { s.port with
        reply := .refused 83 .state, transaction := .none })) ∧
      (s.profile.radio = true → s.paging.radioUp = true → ∃ t, exec (.allCall [v]) s = .next t ∧
        SameExcept [.paging, .port] s t ∧ Answered 83 clamped .none s t ∧
        (s.paging.modem = none → AllWritten m t ∧ t.paging.allCall = some ⟨m * 1000, 5000, false, false⟩) ∧
        (s.paging.modem.isSome = true → t.paging.modem = s.paging.modem ∧
          t.paging.allCall = some ⟨m * 1000, 0, true, false⟩))) ∧
    (∀ a, s.paging.allCall = some a → a.timer = 0 → a.due = false → a.muted = false → serves s = true →
      s.paging.radioUp = true → ∃ t, exec .allRecordDue s = .next t ∧ SameExcept [.paging] s t ∧
        (s.paging.modem = none → AllWritten ((a.left + 999) / 1000) t ∧
          t.paging.allCall = some ⟨a.left, 5000, false, false⟩) ∧
        (s.paging.modem.isSome = true → t.paging = { s.paging with allCall := some ⟨a.left, 0, true, false⟩ })) ∧
    (∀ a, s.paging.allCall = some a → ∀ (timed : Bool) (o : Out),
      (timed = true ∧ a.left = 0 ∧ o = exec .allCallExpiry s) ∨ (timed = false ∧ portDeaf s = false ∧ joined s = true ∧
        s.profile.radio = true ∧ o = exec (.allCallEnd []) s) →
      ∃ t, o = .next t ∧ SameExcept [.bus, .paging, .port] s t ∧ t.paging.allCall = none ∧
        (timed = false → t.port.reply = .done 84 false .none ∧ t.port.transaction = .none) ∧
        (s.paging.queue = [] ∨ s.paging.modem.isSome = true → t.paging = { s.paging with allCall := none } ∧
          t.bus = s.bus ∧ t.port.reports.getLast? = some ⟨s.life.clock, .allCallEnded timed⟩)) ∧
    (portDeaf s = false → joined s = true → s.profile.radio = true → s.paging.allCall = none →
      exec (.allCallEnd []) s = .next (s.setPort { s.port with reply := .refused 84 .state, transaction := .none }))

/-- At a serving station awaiting the result of a SEND for the queued call c, no other call eligible and no ALL record
due, names as the naming law gives them. A RESULT with another tag is discarded; the results below are of records that
the receiver collects. SENT below urgency 3, or with no on-duty member untried, makes c AWAIT-ACK with the ack time
and tells SENT with the pager; a sweep with a member left is sent to the next one at once. BUSY below the fifth makes
c WAITING for 1,000 ms with its pager kept. A fifth BUSY, and a FAULT or timeout while the failure count stays below 3
or the radio is DOWN, removes c and tells FAILED (RADIO). SENT and BUSY set the failure count to 0, FAULT and timeout
add one. Otherwise the modem is idle. Frames wait for a peer's call when the queue has room. MODEM_RECORD_SENT starts
the result timer at 3,000 ms and changes nothing else. (R169, R172, R174, R175, R194) -/
def Obligations.ResultOfASendMovesItsCall : Prop :=
  ∀ (c : Paged) (i : Fin 32) (s : State) (address reason subject urgency : Nat) (timer : Option Nat),
    awake s = true → serves s = true → s.paging.modem = some ⟨.send c.tag address reason subject urgency, timer⟩ →
    (timer = none → exec .modemRecordSent s = .next (s.setPaging { s.paging with
      modem := some ⟨.send c.tag address reason subject urgency, some 3000⟩ })) ∧
    (∀ (tag : Nat) (r : ModemResult), tag ≠ c.tag →
      exec (.result tag r) s = .next (s.setPaging { s.paging with collecting := false })) ∧
    (c ∈ s.paging.queue →
      s.paging.queue.Pairwise (fun x y => x.tag ≠ y.tag ∧ ¬ (x.origin = y.origin ∧ x.number = y.number)) →
      (∀ x ∈ s.paging.queue, x.tag ≠ c.tag → eligible x = false) →
      (∀ a, s.paging.allCall = some a → a.due = false) →
      (c.urgency < 3 ∨ (∀ g, roundGroup s.profile c = some g → ∀ j : Fin 32, isMember s.profile g j = true →
          s.paging.duty[j] = true → j ∈ c.tried) → s.paging.collecting = true →
        ∃ t, exec (.result c.tag .sent) s = .next t ∧ SameExcept [.bus, .paging] s t ∧ t.paging.modem = none ∧
          t.paging.failures = 0 ∧ t.paging.queue = s.paging.queue.map (fun x => if x.tag = c.tag
            then { c with busyRetries := 0, state := .awaitAck, ackTimer := some (s.profile.ackTime * 1000),
                          sentPager := some address } else x) ∧
          (c.origin ≠ s.profile.stationId → FrameWaits (pageStateOf c 2 address) s t)) ∧
      (∀ g, 3 ≤ c.urgency → c.state = .sending → roundGroup s.profile c = some g → s.paging.radioUp = true →
        s.paging.allCall = none → FirstMember s c.urgency g c.tried i → s.paging.collecting = true →
        ∃ t, exec (.result c.tag .sent) s = .next t ∧ SameExcept [.paging] s t ∧ SendWritten c i t ∧
          t.paging.failures = 0 ∧ t.paging.queue = s.paging.queue.map (fun x => if x.tag = c.tag
            then { c with busyRetries := 0, current := some i, tried := c.tried ++ [i] } else x)) ∧
      (c.busyRetries < 4 → s.paging.collecting = true → exec (.result c.tag .busy) s = .next (s.setPaging { s.paging with
        modem := none, failures := 0, collecting := false, queue := s.paging.queue.map (fun x => if x.tag = c.tag
          then { c with busyRetries := c.busyRetries + 1, state := .waiting, busyTimer := some 1000 } else x) })) ∧
      (∀ (o : Out) (failures : Nat),
        (4 ≤ c.busyRetries ∧ failures = 0 ∧ s.paging.collecting = true ∧ o = exec (.result c.tag .busy) s) ∨
        ((s.paging.failures + 1 < 3 ∨ s.paging.radioUp = false) ∧ failures = min 3 (s.paging.failures + 1) ∧
          ((s.paging.collecting = true ∧ o = exec (.result c.tag .fault) s) ∨ (timer = some 0 ∧ o = exec .resultTimeout s))) →
        ∃ t, o = .next t ∧ SameExcept [.bus, .paging, .port] s t ∧ t.paging.modem = none ∧
          t.paging.failures = failures ∧ t.paging.radioUp = s.paging.radioUp ∧
          t.paging.queue = s.paging.queue.filter (fun x => decide (x.tag ≠ c.tag)) ∧
          (c.origin ≠ s.profile.stationId → FrameWaits (pageStateOf c 4 1) s t)))

/-- At a serving station out of reset; ACK, RESULT and READY are of records that the receiver collects. An ACK of the tag
of a queued call c of another station removes c alone, tells ACKED with the address, and sets the rotation pointer of
the group of the entry with that address; of a call of this station it ends the open call with the report ACKED and a
PAGE-CANCEL; of any other tag it is ignored. A third FAULT or timeout while the radio is UP takes it DOWN: the page
queue is empty and RADIO DOWN the newest report, behind those of the failed calls by the model's choice (log entries
41 and 54), for the result of an ALL record too (log entry 34). READY sets the failure count to 0; a DOWN radio with
an empty queue is UP again with RADIO UP the newest report. The result of an ALL record ends the wait: BUSY makes the
next one due in 1,000 ms, SENT leaves its time, FAULT too with the failure count one higher. BUSY re-times only a
record that is not due (log entry 34). (R174, R175, R176, R178, R181) -/
def Obligations.AckReadyAndFailuresMoveTheServingSide : Prop :=
  ∀ s : State, awake s = true → serves s = true →
    (∀ (address tag : Nat) (c : Paged), s.paging.queue.find? (fun x => decide (x.tag = tag)) = some c →
      c.origin ≠ s.profile.stationId → s.paging.collecting = true → ∃ t, exec (.ack address tag) s = .next t ∧ SameExcept [.bus, .paging] s t ∧
        t.paging = { s.paging with
          queue := s.paging.queue.filter (fun x => decide (x.tag ≠ tag)), collecting := false, pointer := t.paging.pointer } ∧
        FrameWaits (pageStateOf c 3 address) s t ∧
        ∀ (i : Fin 32) (g : Fin 8), address ≠ 0 → s.profile.roster[i].address = address →
          (∀ j : Fin 32, j < i → s.profile.roster[j].address ≠ address) → s.profile.roster[i].group = some g.val →
          t.paging.pointer = s.paging.pointer.set g (some i)) ∧
    (∀ (address tag : Nat) (c : Paged) (x : Call), s.paging.queue.find? (fun x => decide (x.tag = tag)) = some c →
      c.origin = s.profile.stationId → s.paging.collecting = true → s.paging.calls.find? (fun x =>
        decide (x.number = c.number) && decide (reasonCode x.reason = c.reason) && decide (x.subject = c.subject) &&
          decide (x.state ≠ .local)) = some x →
      ∃ t, exec (.ack address tag) s = .next t ∧ SameExcept [.bus, .paging, .port] s t ∧
        t.paging.calls = s.paging.calls.filter (fun y => decide (y.number ≠ x.number)) ∧
        (∀ y ∈ t.paging.queue, y ∈ s.paging.queue ∧ y.tag ≠ tag) ∧
        t.port.reports.getLast? =
          some ⟨s.life.clock, .call (some x.number) x.reason x.subject x.group x.urgency (.acked address)⟩ ∧
        FrameWaits (.pageCancel x.number) s t) ∧
    (∀ address tag : Nat, (∀ x ∈ s.paging.queue, x.tag ≠ tag) →
      exec (.ack address tag) s = .next (s.setPaging { s.paging with collecting := false })) ∧
    (∀ (m : ModemWait) (o : Out), s.paging.modem = some m → s.paging.radioUp = true → 2 ≤ s.paging.failures →
      (s.paging.collecting = true ∧ o = exec (.result (recordTag m.record) .fault) s) ∨ (m.timer = some 0 ∧ o = exec .resultTimeout s) →
      ∃ t, o = .next t ∧ SameExcept [.bus, .paging, .port] s t ∧ t.paging.radioUp = false ∧ t.paging.queue = [] ∧
        t.paging.modem = none ∧ t.paging.failures = 3 ∧
        t.port.reports.getLast? = some ⟨s.life.clock, .radio false⟩) ∧
    (s.paging.radioUp = true → s.paging.collecting = true →
      exec .ready s = .next (s.setPaging { s.paging with failures := 0, collecting := false })) ∧
    (s.paging.radioUp = false → s.paging.collecting = true → s.paging.queue = [] → (∀ a, s.paging.allCall = some a → a.muted = true) →
      ∃ t, exec .ready s = .next t ∧ SameExcept [.paging, .port] s t ∧
        t.paging = { s.paging with radioUp := true, failures := 0, collecting := false } ∧
        t.port.reports.getLast? = some ⟨s.life.clock, .radio true⟩) ∧
    (∀ (mask seconds : Nat) (timer : Option Nat) (a : AllCall), s.paging.modem = some ⟨.all mask seconds, timer⟩ →
      s.paging.allCall = some a → a.due = false → s.paging.collecting = true →
      exec (.result 0 .busy) s = .next (s.setPaging { s.paging with
        modem := none, failures := 0, collecting := false, allCall := some { a with timer := 1000 } }) ∧
      exec (.result 0 .sent) s = .next (s.setPaging { s.paging with
        modem := none, failures := 0, collecting := false }) ∧
      (s.paging.failures + 1 < 3 → exec (.result 0 .fault) s = .next (s.setPaging { s.paging with
        modem := none, failures := s.paging.failures + 1, collecting := false })))

/-- Out of reset, at a serving station with the radio UP, for the only queued call c. With the modem awaiting a result the
ends of its ack and busy timers clear the timer and change nothing else. With an idle modem and no all-call: a WAITING
call whose busy timer ends is sent to its current pager; an AWAIT-ACK call whose ack timer ends is sent to the first
on-duty member of its round's group not yet tried; with none left and an escalation group its round becomes escalation
and the member is chosen there afresh; with none left there either, or in the escalation round, c is removed and
FAILED (EXHAUSTED) is told. A start byte puts the modem receiver into collecting, and a late byte or a discarded
record back to hunting, with nothing else changed; RESULT, ACK, DUTY and READY at a hunting receiver, in UNJOINED and
without a radio have no other effect. (R170, R171, R173, R174, R194) -/
def Obligations.PagingTimersMakeTheirCallEligibleAgain : Prop :=
  ∀ (c : Paged) (s : State), awake s = true →
    (exec .startByte s = .next (s.setPaging { s.paging with collecting := true }) ∧
      exec .modemInterbyteTimeout s = .next (s.setPaging { s.paging with collecting := false }) ∧
      ∀ d, exec (.modemRecordDiscarded d) s = .next (s.setPaging { s.paging with collecting := false })) ∧
    (s.paging.collecting = false ∨ serves s = false → ∀ r : Instr, (∃ tag q, r = .result tag q) ∨
        (∃ address tag, r = .ack address tag) ∨ (∃ address on, r = .dutyRecord address on) ∨ r = .ready →
      exec r s = .next (s.setPaging { s.paging with collecting := false })) ∧
    (serves s = true → s.paging.radioUp = true → s.paging.queue = [c] →
      (s.paging.modem.isSome = true →
        (c.ackTimer = some 0 → exec (.ackTimerExpiry c.tag) s =
          .next (s.setPaging { s.paging with queue := [{ c with ackTimer := none }] })) ∧
        (c.busyTimer = some 0 → exec (.busyTimerExpiry c.tag) s =
          .next (s.setPaging { s.paging with queue := [{ c with busyTimer := none }] }))) ∧
      (s.paging.modem = none → s.paging.allCall = none →
        (∀ i : Fin 32, c.state = .waiting → c.busyTimer = some 0 → c.current = some i → i ∈ c.tried →
          ∃ t, exec (.busyTimerExpiry c.tag) s = .next t ∧ SameExcept [.paging] s t ∧ SendWritten c i t ∧
            t.paging.queue = [{ c with busyTimer := none, state := .sending }]) ∧
        (c.state = .awaitAck → c.ackTimer = some 0 → ∀ g, roundGroup s.profile c = some g →
          (∀ i : Fin 32, FirstMember s c.urgency g c.tried i → ∃ t, exec (.ackTimerExpiry c.tag) s = .next t ∧
            SameExcept [.paging] s t ∧ SendWritten c i t ∧ t.paging.queue =
              [{ c with ackTimer := none, state := .sending, current := some i, tried := c.tried ++ [i] }]) ∧
          ((∀ j : Fin 32, isMember s.profile g j = true → s.paging.duty[j] = true → j ∈ c.tried) →
            (∀ (e : Nat) (i : Fin 32), c.escalated = false → escalationOf s.profile g = some e →
              FirstMember s c.urgency e [] i → ∃ t, exec (.ackTimerExpiry c.tag) s = .next t ∧
                SameExcept [.paging] s t ∧ SendWritten c i t ∧ t.paging.queue =
                  [{ c with ackTimer := none, state := .sending, current := some i, tried := [i],
                            escalated := true }]) ∧
            (c.escalated = true ∨ escalationOf s.profile g = none ∨ (∃ e, escalationOf s.profile g = some e ∧
                ∀ j : Fin 32, isMember s.profile e j = true → s.paging.duty[j] = false) →
              ∃ t, exec (.ackTimerExpiry c.tag) s = .next t ∧ SameExcept [.bus, .paging, .port] s t ∧
                t.paging.queue = [] ∧ t.paging.modem = none ∧
                (c.origin ≠ s.profile.stationId → FrameWaits (pageStateOf c 4 2) s t))))))

/-- In every station state QUERY of a kind, an index in the kind's range and, for PROFILE, an item with an element in its
range answers DONE with the snapshot of that moment and changes nothing but the port; a token as kind, index or
element that is examined is refused with MALFORMED, a kind above 12 or an index or element out of range with NO-SUCH.
STATION shows its items of every block; CHANNEL the channel's record with its input. PEER shows an entry, with a
silent time of 0..9 s, RACK and LAST-RACK a rack with its midpoint, TRACE a trace, WAVE every field of a record with
needs and cover, HOLD a hold with its remaining seconds rounded up and its place in the grant order, CALL and PAGEQ a
call; each shows ABSENT where there is none, and the dish snapshots begin with the dish part. STOCK shows a channel
that is no WARMER without stock, a WARMER with its items, loads, counts and tags. PROFILE shows the stored value;
PAGER an entry's address, group, duty and pointer mark, the duty without a radio as profiled. Contents of snapshots
are records, not bytes (log entry 42). The effective speed and level in UNJOINED and for d below c (log entry 48), and
NO-SUCH for an unknown kind with its element word not examined (log entry 15), are the model's. (R40, R55, R67, R102,
R123, R144, R160, R180, R185, R188, R189) -/
def Obligations.QueryReturnsTheSnapshotOfItsMoment : Prop :=
  ∀ (k i e : Word) (s : State), portDeaf s = false →
    (65533 ≤ k.toNat → exec (.query [k, i, e]) s = .next (refusedWith 6 .malformed s)) ∧
    (∀ lo hi, (k.toNat, lo, hi) ∈ [(1, 0, 7), (2, 1, 30), (3, 0, 11), (5, 0, 12), (6, 0, 7), (7, 0, 15), (8, 1, 255),
        (9, 0, 15), (10, 0, 23), (11, 0, 31)] →
      (65533 ≤ i.toNat → exec (.query [k, i, e]) s = .next (refusedWith 6 .malformed s)) ∧
      (lo ≤ i.toNat → i.toNat ≤ hi → exec (.query [k, i, e]) s = .next (s.setPort { s.port with
        reply := .done 6 false (.snapshot (snapshotOf k.toNat i.toNat e.toNat s)), transaction := .none })) ∧
      (i.toNat < 65533 → i.toNat < lo ∨ hi < i.toNat → exec (.query [k, i, e]) s = .next (refusedWith 6 .noSuch s))) ∧
    (k.toNat = 0 ∨ k.toNat = 4 → exec (.query [k, i, e]) s = .next (s.setPort { s.port with
        reply := .done 6 false (.snapshot (snapshotOf k.toNat i.toNat e.toNat s)), transaction := .none })) ∧
    (12 < k.toNat → k.toNat < 65533 → i.toNat < 65533 → exec (.query [k, i, e]) s = .next (refusedWith 6 .noSuch s)) ∧
    (k.toNat = 12 → (65533 ≤ i.toNat → exec (.query [k, i, e]) s = .next (refusedWith 6 .malformed s)) ∧
      (i.toNat = 0 ∨ 36 < i.toNat → i.toNat < 65533 → e.toNat < 65533 →
        exec (.query [k, i, e]) s = .next (refusedWith 6 .noSuch s))) ∧
    (k.toNat = 12 → 1 ≤ i.toNat → i.toNat ≤ 36 →
      (e.toNat < 65533 → (∀ lo hi, elementRange i.toNat = some (lo, hi) → lo ≤ e.toNat ∧ e.toNat ≤ hi) →
        exec (.query [k, i, e]) s = .next (s.setPort { s.port with
          reply := .done 6 false (.snapshot (.profile i.toNat e.toNat (readItem s.profile i.toNat e.toNat)))
          transaction := .none })) ∧
      (∀ lo hi, elementRange i.toNat = some (lo, hi) →
        (65533 ≤ e.toNat → exec (.query [k, i, e]) s = .next (refusedWith 6 .malformed s)) ∧
        (e.toNat < 65533 → e.toNat < lo ∨ hi < e.toNat →
          exec (.query [k, i, e]) s = .next (refusedWith 6 .noSuch s)))) ∧
    (∃ v : StationSnapshot, snapshotOf 0 i.toNat e.toNat s = .station v ∧ v.station = s.life.station ∧
      v.joinNumber = s.life.joinNumber ∧ v.clock = s.life.clock ∧ v.stationId = s.profile.stationId ∧
      (s.share.listen = none → v.listenLeft = 0) ∧ (∀ x, s.share.listen = some x → v.listenLeft = x) ∧
      v.grant = s.share.grant ∧ v.asks = s.share.asks ∧ v.ceilingCut = s.share.ceilingCut ∧
      v.drawing = s.share.drawing ∧ v.shares = s.share.shares ∧ v.limit = s.share.limit ∧
      v.epoch = s.life.joinNumber ∧ v.nextSequence = s.share.nextSequence ∧ v.unacked = s.share.unacked ∧
      v.chargesSum = chargesSum s.heat.channels ∧ v.windowPhase = s.heat.window.phase ∧ v.queued = occupied s.bus ∧
      v.onLine = s.bus.onLine.isSome ∧ v.stale = (s.peers.filter (fun p => p.stale)).length ∧
      v.live = (s.peers.filter (fun p => !p.stale)).length ∧ v.holds = s.stock.holds.length ∧
      v.stockChanged = s.stock.changed ∧ v.waves = s.waves.length ∧ v.calls = s.paging.calls.length ∧
      v.radioUp = (if s.profile.radio = true then some s.paging.radioUp else none) ∧ v.failures = s.paging.failures ∧
      v.paged = s.paging.queue.length ∧ v.modemWaits = s.paging.modem.isSome ∧
      (v.allCall = none ↔ s.paging.allCall = none) ∧ v.reports = s.port.reports.length ∧ v.gap = s.port.gap) ∧
    (∀ c : Chan, c.val = i.toNat →
      (∃ v : ChannelSnapshot, snapshotOf 1 i.toNat e.toNat s = .channel v ∧ v.channel = c ∧
        v.kind = s.profile.channels[c].kind ∧ v.state = s.heat.channels[c].state ∧
        v.integral = s.heat.channels[c].integral ∧ v.demand = s.heat.channels[c].demand ∧
        v.duty = s.heat.channels[c].duty ∧ v.charge = s.heat.channels[c].charge ∧
        v.onTime = s.heat.channels[c].onTime ∧ v.served = s.heat.channels[c].served ∧
        v.doorFlag = s.heat.channels[c].doorFlag ∧ v.effClass = s.heat.channels[c].effClass ∧
        v.want = s.heat.channels[c].want ∧ v.sensor = s.profile.channels[c].sensor ∧
        v.reading = s.scan.inputs[v.sensor].lastGood ∧ v.faulted = s.scan.inputs[v.sensor].faulted) ∧
      (s.profile.channels[c].kind ≠ .warmer →
        snapshotOf 6 i.toNat e.toNat s = .stock c s.profile.channels[c].kind none) ∧
      (s.profile.channels[c].kind = .warmer →
        ∃ v : WarmerView, snapshotOf 6 i.toNat e.toNat s = .stock c .warmer (some v) ∧
          v.profile = s.profile.warmers[c] ∧ v.doorOpen = s.stock.warmers[c].doorOpen ∧
          v.cooling = s.stock.warmers[c].cooling ∧
          v.loads = s.stock.warmers[c].loads.map
            (fun l => ⟨l, decide (s.profile.warmers[c].warmTime * 1000 ≤ l.credit)⟩) ∧
          v.loaded = (s.stock.warmers[c].loads.map (fun l => l.count)).sum ∧
          v.ready = ((s.stock.warmers[c].loads.filter
            (fun l => decide (s.profile.warmers[c].warmTime * 1000 ≤ l.credit))).map (fun l => l.count)).sum ∧
          v.held = ((s.stock.holds.filter (fun h => decide (h.channel = c))).map (fun h => h.count)).sum ∧
          v.available = v.ready - v.held ∧
          v.tags = (s.stock.holds.filter (fun h => decide (h.channel = c))).map (fun h => h.tag))) ∧
    ((∀ p ∈ s.peers, p.id ≠ i.toNat) → snapshotOf 2 i.toNat e.toNat s = .peer i.toNat none) ∧
    (∀ p : Peer, s.peers.find? (fun x => decide (x.id = i.toNat)) = some p →
      snapshotOf 2 i.toNat e.toNat s = .peer i.toNat (some ⟨p.stale, p.epoch, p.sequence, min 9 (p.silence / 1000), p.asks,
        p.drawing, p.stock.map (fun q => ⟨q.warmers, q.clean, q.age / 1000⟩)⟩)) ∧
    (∃ d : DishView, d.enable = s.profile.dish.enable ∧ d.mode = s.dish.mode ∧ d.holds = s.dish.holds ∧
      d.racks = s.dish.racks.length ∧ d.atExit = s.dish.atExit ∧ d.tag = s.dish.tag ∧ d.clean = s.dish.clean ∧
      d.requested = s.dish.requested ∧ d.effective = effectiveSpeed s.profile.dish s.dish.requested ∧
      d.level = speedLevel s.profile.dish s.dish.requested ∧ d.running = (outputs s).convRun ∧
      d.pulseAge = s.pulseAge ∧ d.rinseTime = s.dish.rinseTime / 1000 ∧ d.idleTime = s.dish.idleTime / 1000 ∧
      d.jamTimer = s.dish.jamTimer ∧ d.nextNumber = s.dish.nextNumber ∧
      (s.dish.racks[i.toNat]? = none → snapshotOf 3 i.toNat e.toNat s = .rack d i.toNat none) ∧
      (∀ r, s.dish.racks[i.toNat]? = some r →
        snapshotOf 3 i.toNat e.toNat s = .rack d i.toNat (some ⟨r, (r.position : Int) - 2500⟩)) ∧
      (s.dish.lastRack = none → snapshotOf 4 i.toNat e.toNat s = .lastRack d none) ∧
      (∀ r, s.dish.lastRack = some r →
        snapshotOf 4 i.toNat e.toNat s = .lastRack d (some ⟨r, (r.position : Int) - 2500⟩)) ∧
      ∀ x, x = (if i.toNat = 12 then s.dish.lastRack else s.dish.racks[i.toNat]?) →
        (x = none → snapshotOf 5 i.toNat e.toNat s = .trace d i.toNat none) ∧
        ∀ r, x = some r → snapshotOf 5 i.toNat e.toNat s = .trace d i.toNat (some r.trace)) ∧
    ((∀ h ∈ s.stock.holds, h.tag ≠ i.toNat) → snapshotOf 7 i.toNat e.toNat s = .hold i.toNat none) ∧
    (∀ (front back : List Hold) (h : Hold), s.stock.holds = front ++ h :: back → h.tag = i.toNat →
      (∀ x ∈ front, x.tag ≠ i.toNat) → snapshotOf 7 i.toNat e.toNat s = .hold i.toNat (some ⟨h.asker, h.wave, h.channel,
        h.count, (h.remaining + 999) / 1000, front.length + 1⟩)) ∧
    ((∀ w ∈ s.waves, w.number ≠ i.toNat) → snapshotOf 8 i.toNat e.toNat s = .wave i.toNat none) ∧
    (∀ w : Wave, s.waves.find? (fun x => decide (x.number = i.toNat)) = some w →
      (w.src2 = none → snapshotOf 8 i.toNat e.toNat s = .wave i.toNat (some ⟨w, w.covers - w.src1.taken, none,
        decide (w.covers ≤ heldFigure w.src1.hold + w.src1.taken)⟩)) ∧
      ∀ r, w.src2 = some r → snapshotOf 8 i.toNat e.toNat s = .wave i.toNat (some ⟨w,
        w.covers - (w.src1.taken + r.taken + heldFigure r.hold),
        some (w.covers - (w.src1.taken + r.taken + heldFigure w.src1.hold)),
        decide (w.covers ≤ heldFigure w.src1.hold + heldFigure r.hold + w.src1.taken + r.taken)⟩)) ∧
    snapshotOf 9 i.toNat e.toNat s = .call i.toNat s.paging.calls[i.toNat]? ∧
    snapshotOf 10 i.toNat e.toNat s = .paged i.toNat s.paging.queue[i.toNat]? ∧
    ∀ j : Fin 32, j.val = i.toNat → ∃ v : PagerView, snapshotOf 11 i.toNat e.toNat s = .pager i.toNat v ∧
      v.address = s.profile.roster[j].address ∧ v.group = s.profile.roster[j].group ∧
      v.duty = (if s.profile.radio = true then s.paging.duty[j] else s.profile.roster[j].defaultDuty) ∧
      (v.isPointer = true ↔ ∃ g : Nat, s.profile.roster[j].group = some g ∧ s.paging.pointer[g]? = some (some j))

/-- For every code of the catalogue, the port not discarding: a length the catalogue does not allow is refused with
MALFORMED, an allowed one in a station state that does not take the command with STAGE. Whatever the command and
state, a next state is answered whose reply is NONE, or DONE or DONE-CLAMPED or REFUSED with its code; and where it is
REFUSED, nothing differs but the reply and the end of the transaction. In a joined state the owning checks of R18 to
R22, R98 and R116 to R152: a token as identifier is MALFORMED, one out of range NO-SUCH (a channel, a group, a tag,
WAVE-PLAN's wave, channels and stations, DUTY's index, CALL-END's number). An UNUSED channel refuses HEAT, HEAT-OFF
and CHANNEL-CLEAR with WRONG-KIND; a TRIPPED one HEAT and HEAT-OFF with STATE, and CHANNEL-CLEAR with CONDITION while
FAULTED or at Tmax - 50 or more; one not TRIPPED CHANNEL-CLEAR with STATE; one that is no WARMER LOAD and TAKE with
WRONG-KIND; a tag of no hold on the channel TAKE with NO-SUCH. Without dish line its commands are WRONG-KIND; DISH-ON
in JAM and DISH-RESUME outside JAM are STATE. WAVE-PLAN of a known number is STATE, into 16 waves FULL, on no OVEN
WRONG-KIND, with one source twice CONDITION, in that order. A wave command of no wave is NO-SUCH, WAVE-FIRE of a wave
COOKING or beyond, WAVE-PLATE outside DONE and WAVE-CLOSE outside DONE and PLATING are STATE. (R18, R20, R22, R98,
R116, R117, R129, R131, R146, R151, R184, R185) -/
def Obligations.RefusedCommandsLeaveOnlyTheirReply : Prop :=
  (∀ (code : Byte) (p : List Word) (s : State), portDeaf s = false → catalogueCodes.contains code.toNat = true →
    (p.length ∉ catalogueLengths code.toNat →
      exec (codeCommand code p) s = .next (refusedWith code.toNat .malformed s)) ∧
    (p.length ∈ catalogueLengths code.toNat → stageOk (catalogueStage code.toNat) s.life.station = false →
      exec (codeCommand code p) s = .next (refusedWith code.toNat .stage s)) ∧
    ∃ t, exec (codeCommand code p) s = .next t ∧
      (t.port.reply = .none ∨ (∃ clamped r, t.port.reply = .done code.toNat clamped r) ∨
        ∃ r, t.port.reply = .refused code.toNat r ∧ t = refusedWith code.toNat r s)) ∧
  ∀ (x y z : Word) (s : State) (refuses : List (Nat × Instr) → Reason → Prop), portDeaf s = false → joined s = true →
    (∀ qs r, refuses qs r ↔ ∀ q ∈ qs, exec q.2 s = .next (refusedWith q.1 r s)) →
    (65533 ≤ x.toNat → refuses [(16, .heat [x, y, z]), (17, .heatOff [x]), (18, .channelClear [x]), (48, .load [x, y]),
      (49, .take [x, y]), (49, .take [y, z, x]), (65, .waveFire [x]), (66, .wavePlate [x]), (67, .waveClose [x]),
      (68, .waveCancel [x]), (80, .page [x, y, z, z]), (81, .callEnd [x]), (82, .duty [x, y])] .malformed) ∧
    (8 ≤ x.toNat → x.toNat < 65533 → refuses [(16, .heat [x, y, z]), (17, .heatOff [x]), (18, .channelClear [x]),
      (48, .load [x, y]), (49, .take [x, y]), (80, .page [x, y, z, z])] .noSuch) ∧
    (∀ k : Chan, x.toNat = k.val →
      (s.profile.channels[k].kind = .unused →
        refuses [(16, .heat [x, y, z]), (17, .heatOff [x]), (18, .channelClear [x])] .wrongKind) ∧
      (s.profile.channels[k].kind ≠ .unused →
        (isTripped s.heat.channels[k].state = true → refuses [(16, .heat [x, y, z]), (17, .heatOff [x])] .state ∧
          (flagged s k = true ∨ ((s.profile.channels[k].highLimit - 50 : Nat) : Int) ≤ reading s k →
            refuses [(18, .channelClear [x])] (.condition none))) ∧
        (isTripped s.heat.channels[k].state = false → refuses [(18, .channelClear [x])] .state)) ∧
      (s.profile.channels[k].kind ≠ .warmer → refuses [(48, .load [x, y]), (49, .take [x, y])] .wrongKind ∧
        (z.toNat ≤ 15 → refuses [(49, .take [x, y, z])] .wrongKind)) ∧
      (s.profile.channels[k].kind = .warmer →
        (15 < z.toNat → z.toNat < 65533 → refuses [(49, .take [x, y, z])] .noSuch) ∧
        (z.toNat ≤ 15 → (∀ h ∈ s.stock.holds, ¬ (h.tag = z.toNat ∧ h.channel = k)) →
          refuses [(49, .take [x, y, z])] .noSuch))) ∧
    (s.profile.dish.enable = false → refuses [(32, .dishOn []), (33, .dishOff []), (34, .dishSpeed [x]),
      (35, .dishResume []), (36, .nextRack [x]), (37, .pickup [x])] .wrongKind) ∧
    (s.profile.dish.enable = true → (s.dish.mode = .jam → refuses [(32, .dishOn [])] .state) ∧
      (s.dish.mode ≠ .jam → refuses [(35, .dishResume [])] .state)) ∧
    (∀ (fh fl ph pl c g v a b d e : Word) (k : Chan) (plan : List (Nat × Instr)), 1 ≤ x.toNat → x.toNat ≤ 255 →
      y.toNat = k.val → 1 ≤ a.toNat → a.toNat ≤ 30 → b.toNat ≤ 7 → 1 ≤ d.toNat → d.toNat ≤ 30 → e.toNat ≤ 7 →
      plan = [(64, .wavePlan [x, y, fh, fl, ph, pl, c, g, v, a, b]),
        (64, .wavePlan [x, y, fh, fl, ph, pl, c, g, v, a, b, d, e])] →
      ((∃ w ∈ s.waves, w.number = x.toNat) → refuses plan .state) ∧
      ((∀ w ∈ s.waves, w.number ≠ x.toNat) →
        (16 ≤ s.waves.length → refuses plan .full) ∧
        (s.waves.length < 16 → s.profile.channels[k].kind ≠ .oven → refuses plan .wrongKind) ∧
        (s.waves.length < 16 → s.profile.channels[k].kind = .oven → a = d → b = e →
          refuses (plan.drop 1) (.condition none)))) ∧
    (∀ fh fl ph pl c g v a b d e : Word,
      ((∃ q ∈ [x, y, a, b], 65533 ≤ q.toNat) →
        refuses [(64, .wavePlan [x, y, fh, fl, ph, pl, c, g, v, a, b])] .malformed) ∧
      ((∃ q ∈ [x, y, a, b, d, e], 65533 ≤ q.toNat) →
        refuses [(64, .wavePlan [x, y, fh, fl, ph, pl, c, g, v, a, b, d, e])] .malformed) ∧
      ((∀ q ∈ [x, y, a, b], q.toNat < 65533) →
        x.toNat = 0 ∨ 255 < x.toNat ∨ 7 < y.toNat ∨ a.toNat = 0 ∨ 30 < a.toNat ∨ 7 < b.toNat →
        refuses [(64, .wavePlan [x, y, fh, fl, ph, pl, c, g, v, a, b])] .noSuch) ∧
      ((∀ q ∈ [x, y, a, b, d, e], q.toNat < 65533) →
        x.toNat = 0 ∨ 255 < x.toNat ∨ 7 < y.toNat ∨ a.toNat = 0 ∨ 30 < a.toNat ∨ 7 < b.toNat ∨ d.toNat = 0 ∨
          30 < d.toNat ∨ 7 < e.toNat →
        refuses [(64, .wavePlan [x, y, fh, fl, ph, pl, c, g, v, a, b, d, e])] .noSuch)) ∧
    (31 < x.toNat → x.toNat < 65533 → y.toNat ≤ 1 ∨ y.toNat = 65535 → refuses [(82, .duty [x, y])] .noSuch) ∧
    (x.toNat = 0 ∨ 255 < x.toNat → x.toNat < 65533 → refuses [(81, .callEnd [x])] .noSuch) ∧
    (x.toNat < 65533 → (∀ w ∈ s.waves, w.number ≠ x.toNat) ∨ x.toNat = 0 ∨ 255 < x.toNat →
      refuses [(65, .waveFire [x]), (66, .wavePlate [x]), (67, .waveClose [x]), (68, .waveCancel [x])] .noSuch) ∧
    (∀ w, 1 ≤ x.toNat → x.toNat ≤ 255 → findWave x.toNat s = some w →
      (w.state = .cooking ∨ w.state = .done ∨ w.state = .plating → refuses [(65, .waveFire [x])] .state) ∧
      (w.state ≠ .done → refuses [(66, .wavePlate [x])] .state) ∧
      (w.state ≠ .done → w.state ≠ .plating → refuses [(67, .waveClose [x])] .state))

/-- For every command and every state exec answers a next state, so no command faults or is refused by the model, and the
waiting commands are unchanged. That nothing stops the station is read from the manual's silence (log entry 3).
(00_scope.md, Block overview, R182) -/
def Obligations.EveryCommandCompletesAndKeepsTheQueue : Prop :=
  ∀ (c : Instr) (s : State), ∃ t, exec c s = .next t ∧ t.pending = s.pending

/-- For every frame whose fields fit their bytes and every sender 1..30 other than the receiver, the bytes the sender lays
out are received as the command of that frame from that sender with every field as it was sent; from a sender with the
receiver's identifier they are DUPLICATE-ID of the kind's code. The bytes end in the check word, upper byte first: the
sum of all bytes before it mod 65,536; with any other check word they are a bad frame. (R43, R50, R52, R193,
12_layouts_pins_and_ratings.md, 12.1 Passline frames) -/
def Obligations.FramesAreReadAsTheyAreLaidOut : Prop :=
  ∀ (own sender : Nat) (f : Frame), 1 ≤ sender → sender ≤ 30 → f.fits = true →
    (sender ≠ own → receivedCommand own (frameBytes sender f) = frameCommand sender f) ∧
    (sender = own → receivedCommand own (frameBytes sender f) = .duplicateId (kindCode f)) ∧
    ∃ (body : List Byte) (hi lo : Byte), frameBytes sender f = body ++ [hi, lo] ∧ body.length ≤ 47 ∧
      hi.toNat * 256 + lo.toNat = (body.map (fun b => b.toNat)).sum % 65536 ∧
      ∀ hi' lo' : Byte, (hi', lo') ≠ (hi, lo) → receivedCommand own (body ++ [hi', lo']) = .badFrame (body ++ [hi', lo'])

/-- A command record of code, word count and words, whatever follows it, is the command of that code with those words, and
with fewer bytes it is incomplete with its code; no byte is the status alone. An inbound modem record with its length,
type, fields and check word is RESULT, ACK, DUTY or READY with those fields; with another check word, an unknown type
or another length it is discarded. (R182, R186, R194, 12_layouts_pins_and_ratings.md, 12.2 Panel port records,
12_layouts_pins_and_ratings.md, 12.3 Modem line records) -/
def Obligations.RecordsAreReadAsTheyAreLaidOut : Prop :=
  (∀ (code : Byte) (p : List Word) (more : List Byte), p.length < 256 →
    transactionCommand (code :: byteOf p.length :: (p.flatMap (fun w => twoBytes w.toNat) ++ more)) =
      codeCommand code p ∧
    ∀ n < 2 + 2 * p.length, 1 ≤ n → transactionCommand
      ((code :: byteOf p.length :: p.flatMap (fun w => twoBytes w.toNat)).take n) = .incompleteCommand (some code)) ∧
  transactionCommand [] = .statusOnlyEnd ∧
  (∀ tag address : Nat, tag < 256 → address < 65536 →
    recordCommand (withCheck [3, 3, byteOf tag, 0]) = .result tag .sent ∧
    recordCommand (withCheck [3, 3, byteOf tag, 1]) = .result tag .busy ∧
    recordCommand (withCheck [3, 3, byteOf tag, 2]) = .result tag .fault ∧
    recordCommand (withCheck ([4, 4] ++ twoBytes address ++ [byteOf tag])) = .ack address tag ∧
    recordCommand (withCheck ([4, 5] ++ twoBytes address ++ [1])) = .dutyRecord address true ∧
    recordCommand (withCheck ([4, 5] ++ twoBytes address ++ [0])) = .dutyRecord address false ∧
    recordCommand (withCheck [1, 6]) = .ready) ∧
  (∀ (len type : Byte) (fields check : List Byte),
    (inboundLength type.toNat = none → recordCommand (len :: type :: (fields ++ check)) =
      .modemRecordDiscarded .unknownType) ∧
    (∀ n, inboundLength type.toNat = some n →
      (len.toNat ≠ n → recordCommand (len :: type :: (fields ++ check)) = .modemRecordDiscarded .wrongLength) ∧
      (len.toNat = n → fields.length + 1 = n → check.length = 2 → check ≠ twoBytes (checkSum (len :: type :: fields)) →
        recordCommand (len :: type :: (fields ++ check)) = .modemRecordDiscarded .checkDiffers)))

/-- Out of reset, 250 ms after the one before it, a sweep completion answers a next state. For every temperature input: a
raw value below -600 or above 3600 is bad, sets the good count to 0, adds one to the bad count up to 2, keeps the last
good value, and makes the input FAULTED exactly when it was FAULTED or the bad count comes to 2. Any other raw value
is good, sets the bad count to 0 and adds one to the good count up to 4; clamped silently into -500..3500 it becomes
the last good (and published) value of an input whose fault is clear, and of a FAULTED input whose good count comes to
4, which clears the fault; otherwise the FAULTED input keeps its last good value and its fault. After reset every
input holds 0, clear, 0 and 0, so two bad sweeps leave it FAULTED at 0. In the same step each current reading is its
raw value taken into 0..2000, the draw history has lost its oldest value and gained the larger current as its newest,
the drawing is the sum of the four values divided by 4, and the sweep phase starts again. The station state, profile,
lines, pulse age, peers, share unit, waves and queue are unchanged; in UNJOINED everything but the scanner is. Before
the 250 ms have passed the event changes nothing, since no completion takes place (log entry 47). (R1, R2, R3, R5) -/
def Obligations.SweepConvertsInputsAndCurrents : Prop :=
   ((∀ (c : Conversions) (s : State), awake s = true → 250 ≤ s.scan.phase → ∃ t, exec (.sweepCompletion c) s = .next t ∧
      ∀ k : Chan,
        ((c.t[k] < -600 ∨ 3600 < c.t[k]) →
          t.scan.inputs[k].goodCount = 0 ∧
          t.scan.inputs[k].badCount = min 2 (s.scan.inputs[k].badCount + 1) ∧
          t.scan.inputs[k].lastGood = s.scan.inputs[k].lastGood ∧
          (t.scan.inputs[k].faulted = true ↔ s.scan.inputs[k].faulted = true ∨ t.scan.inputs[k].badCount = 2)) ∧
        (-600 ≤ c.t[k] → c.t[k] ≤ 3600 →
          t.scan.inputs[k].badCount = 0 ∧
          t.scan.inputs[k].goodCount = min 4 (s.scan.inputs[k].goodCount + 1) ∧
          (s.scan.inputs[k].faulted = false ∨ t.scan.inputs[k].goodCount = 4 →
            t.scan.inputs[k].faulted = false ∧ t.scan.inputs[k].lastGood = max (-500) (min 3500 c.t[k])) ∧
          (s.scan.inputs[k].faulted = true → t.scan.inputs[k].goodCount < 4 →
            t.scan.inputs[k].faulted = true ∧ t.scan.inputs[k].lastGood = s.scan.inputs[k].lastGood))) ∧
    ∀ k : Chan, State.reset.scan.inputs[k] = { lastGood := 0, faulted := false, badCount := 0, goodCount := 0 }) ∧
   (∀ (c : Conversions) (s : State), awake s = true →
      (s.scan.phase < 250 → exec (.sweepCompletion c) s = .next s) ∧
      (250 ≤ s.scan.phase → ∃ t, exec (.sweepCompletion c) s = .next t ∧
        (t.scan.i0 : Int) = max 0 (min 2000 c.i0) ∧ (t.scan.i1 : Int) = max 0 (min 2000 c.i1) ∧
        t.scan.history = #v[s.scan.history[1], s.scan.history[2], s.scan.history[3], max t.scan.i0 t.scan.i1] ∧
        drawingOf t.scan = (s.scan.history[1] + s.scan.history[2] + s.scan.history[3] + max t.scan.i0 t.scan.i1) / 4 ∧
        t.scan.phase = 0 ∧
        SameExcept [.scan, .heat, .bus, .dish, .stock, .paging, .port] s t ∧
        (joined s = false → SameExcept [.scan] s t)))

/-- Out of reset a pin change answers a next state in which only that line differs: its pin has the level, its taken level
stands, and its debounce is 50 ms when the level differs from the taken one and absent when it does not. A line edge
whose debounce has run out with the pin still differing answers a next state in which that line's taken level is the
pin's and no debounce runs, every other line is unchanged, and in UNJOINED or on a line without a recipient nothing
else changes. Restarting the debounce at a repeated differing level is the model's reading (log entry 28). In a joined
state the edge of a line resolved to an oven or warmer door answers a next state. The new level opens the door when it
is the line's active level. Opening sets the door flag and the door seen flag and turns the heater of an OVEN off,
leaving that of a WARMER alone. Closing clears the door flag; an OVEN's heater comes on if it heats, the window is not
OVERDRAWN and served time is left. The rest of the channel and every other channel are unchanged, as is everything but
the lines, the heat channels and, for a warmer, the plate stock unit. In a joined state the edge of a line resolved to
DISH-ENTRY. Becoming INACTIVE changes the line alone. Becoming ACTIVE in OFF, or with the newest rack closer than 550
mm, it leaves the dish line alone; with room it registers a rack with the tag or default plates, consuming the tag and
ending the IDLE hold; with twelve racks it sets the ENTRY hold and raises ENTRY-FULL. The edge of the DISH-DOOR line:
opened, the DOOR hold is set and every rack in the rinse zone INTERRUPTED; closed, the hold is clear. A conveyor that
starts has its jam timer at 0, and the clean count is published. (R6, R7, R8, R9, R35, R36, R100, R101, R107, R108,
R114, R127) -/
def Obligations.LineEdgesDebounceAndReachTheDoors : Prop :=
   ((∀ (l : LineNo) (high : Bool) (s : State), awake s = true → ∃ t, exec (.linePinChange l high) s = .next t ∧
      SameExcept [.lines] s t ∧
      t.lines[l] = { pin := high, taken := s.lines[l].taken,
                     debounce := if high = s.lines[l].taken then none else some 50 } ∧
      ∀ j : LineNo, j ≠ l → t.lines[j] = s.lines[j]) ∧
    (∀ (l : LineNo) (s : State), awake s = true → s.lines[l].debounce = some 0 → s.lines[l].pin ≠ s.lines[l].taken →
      ∃ t, exec (.lineEdge l) s = .next t ∧
        t.lines[l] = { pin := s.lines[l].pin, taken := s.lines[l].pin, debounce := none } ∧
        (∀ j : LineNo, j ≠ l → t.lines[j] = s.lines[j]) ∧
        SameExcept [.lines, .heat, .bus, .dish, .stock, .paging, .port] s t ∧
        (joined s = false ∨ resolvedUse s.profile l = .unused → SameExcept [.lines] s t))) ∧
   (∀ (l : LineNo) (k : Chan) (s : State), awake s = true → joined s = true →
      s.lines[l].debounce = some 0 → s.lines[l].pin ≠ s.lines[l].taken →
      (resolvedUse s.profile l = .ovenDoor k → ∃ t, exec (.lineEdge l) s = .next t ∧
        SameExcept [.lines, .heat] s t ∧ (∀ j : Chan, j ≠ k → t.heat.channels[j] = s.heat.channels[j]) ∧
        (s.lines[l].pin = s.profile.lines[l].activeHigh →
          t.heat.channels[k] = { s.heat.channels[k] with doorFlag := true, doorSeen := true, heater := false }) ∧
        (s.lines[l].pin ≠ s.profile.lines[l].activeHigh →
          t.heat.channels[k] = { s.heat.channels[k] with
            doorFlag := false
            heater := s.heat.channels[k].heater ||
              (heating s.heat.channels[k].state && !s.heat.overdrawn &&
                decide (s.heat.channels[k].served < s.heat.channels[k].onTime)) })) ∧
      (resolvedUse s.profile l = .warmerDoor k → ∃ t, exec (.lineEdge l) s = .next t ∧
        SameExcept [.lines, .heat, .stock] s t ∧ (∀ j : Chan, j ≠ k → t.heat.channels[j] = s.heat.channels[j]) ∧
        (s.lines[l].pin = s.profile.lines[l].activeHigh →
          t.stock.warmers[k].doorOpen = true ∧
          t.heat.channels[k] = { s.heat.channels[k] with doorFlag := true, doorSeen := true }) ∧
        (s.lines[l].pin ≠ s.profile.lines[l].activeHigh →
          t.stock.warmers[k].doorOpen = false ∧
          t.heat.channels[k] = { s.heat.channels[k] with doorFlag := false }))) ∧
   (∀ (l : LineNo) (s : State), awake s = true → joined s = true → s.lines[l].debounce = some 0 →
      s.lines[l].pin ≠ s.lines[l].taken →
      (resolvedUse s.profile l = .dishEntry →
        (s.lines[l].pin ≠ s.profile.lines[l].activeHigh → ∃ t, exec (.lineEdge l) s = .next t ∧
          SameExcept [.lines] s t) ∧
        (s.lines[l].pin = s.profile.lines[l].activeHigh →
          (s.dish.mode = .off ∨ (∃ r, s.dish.racks.getLast? = some r ∧ r.position < 5500) →
            ∃ t, exec (.lineEdge l) s = .next t ∧ SameExcept [.lines, .stock] s t ∧ CleanPublished s t) ∧
          (s.dish.mode ≠ .off → (∀ r, s.dish.racks.getLast? = some r → 5500 ≤ r.position) →
            (s.dish.racks.length < 12 → ∃ t, exec (.lineEdge l) s = .next t ∧
              SameExcept [.lines, .dish, .stock] s t ∧ CleanPublished s t ∧
              t.dish = { s.dish with
                racks := s.dish.racks ++ [rackAtEntry s]
                tag := none
                nextNumber := s.dish.nextNumber % 65535 + 1
                holds := { s.dish.holds with idle := false }
                idleTime := 0
                jamTimer := jamTimerAfter s.dish { s.dish.holds with idle := false } }) ∧
            (12 ≤ s.dish.racks.length → ∃ t u, exec (.lineEdge l) s = .next t ∧
              u = (s.setLines (s.lines.set l ⟨s.lines[l].pin, s.lines[l].pin, none⟩)).setDish { s.dish with
                holds := { s.dish.holds with entry := true } } ∧
              SameExcept [.lines, .bus, .dish, .stock, .paging, .port] s t ∧ t.dish = u.dish ∧ CleanPublished s t ∧
              CallRaised .entryFull 0 u t)))) ∧
      (resolvedUse s.profile l = .dishDoor →
        (s.lines[l].pin = s.profile.lines[l].activeHigh → ∃ t, exec (.lineEdge l) s = .next t ∧
          SameExcept [.lines, .dish, .stock] s t ∧ CleanPublished s t ∧
          t.dish = { s.dish with
            holds := { s.dish.holds with door := true }
            racks := s.dish.racks.map (fun r => { r with
              interrupted := r.interrupted || (decide ((s.profile.dish.c : Int) * 10 ≤ (r.position : Int) - 2500) &&
                decide ((r.position : Int) - 2500 < (s.profile.dish.d : Int) * 10)) }) }) ∧
        (s.lines[l].pin ≠ s.profile.lines[l].activeHigh → ∃ t, exec (.lineEdge l) s = .next t ∧
          SameExcept [.lines, .dish, .stock] s t ∧ CleanPublished s t ∧
          t.dish = { s.dish with
            holds := { s.dish.holds with door := false }
            jamTimer := jamTimerAfter s.dish { s.dish.holds with door := false } })))

/-- Out of reset, for a channel whose heater is on and whose served time has reached its on-time, ON_TIME_END answers a
next state in which that heater is off; the rest of its record, every other channel and every other block are
unchanged. While the served time is short of the on-time, or the heater is off, the event finds nothing to do (log
entry 2). In a joined state, for a channel within 0..7 not of kind UNUSED: HEAT-OFF of a channel in RAMP or REGULATE
answers a next state with the channel IDLE, demand, duty and integral 0, on-time equal to served time, heater off and
charge kept; of an IDLE channel it changes nothing but the reply. CHANNEL-CLEAR of a TRIPPED channel whose input is
not FAULTED and whose reading is below Tmax-50 answers a next state with the channel IDLE, the rest of its record
kept, and the call of its trip taken out of the open call list if it is there. Every other channel and the other
blocks are unchanged, and each reply is DONE. For every state and grant, taking the grant makes it the grant in force.
With the window clock stopped, in an OVERDRAWN window, or at or above the sum of charges nothing else changes. No
charge rises. Otherwise the window is cut. Either the charges then sum to the new grant, nothing is reported, and each
channel whose charge fell has the on-time, duty and heater of R33 (the on-time and duty never above the old ones: log
entry 7), while every channel before it in the reversed allocation order has given up all but its served charge,
channels outside the order being the last (log entry 7), or the window is OVERDRAWN: every heater is off, every
on-time is the served time, every charge the smaller of the old charge and the served charge, the duty in RAMP and
REGULATE the served time / 10 but never above the old one (log entry 7), elsewhere 0, and an OVERDRAWN report with the
grant, the charges left and their excess is queued. The duty is claimed where the served time is within the on-time,
as the heater law gives it. (R11, R20, R22, R30, R32, R33, R34, R166) -/
def Obligations.HeatersStopAtTheirEndByCommandAndByCut : Prop :=
   (∀ (k : Chan) (s : State), awake s = true →
      (s.heat.channels[k].heater = true → s.heat.channels[k].onTime ≤ s.heat.channels[k].served →
        ∃ t, exec (.onTimeEnd k) s = .next t ∧ SameExcept [.heat] s t ∧
          t.heat = { s.heat with channels := s.heat.channels.set k { s.heat.channels[k] with heater := false } }) ∧
      (s.heat.channels[k].heater = false ∨ s.heat.channels[k].served < s.heat.channels[k].onTime →
        exec (.onTimeEnd k) s = .next s)) ∧
   (∀ (c : Word) (k : Chan) (s : State), portDeaf s = false → joined s = true → c.toNat = k.val →
      s.profile.channels[k].kind ≠ .unused →
      (heating s.heat.channels[k].state = true → ∃ t, exec (.heatOff [c]) s = .next t ∧
        SameExcept [.heat, .port] s t ∧ Answered 17 false .none s t ∧
        t.heat = { s.heat with channels := s.heat.channels.set k { s.heat.channels[k] with
          state := .idle, demand := 0, duty := 0, integral := 0, onTime := s.heat.channels[k].served,
          heater := false } }) ∧
      (s.heat.channels[k].state = .idle → ∃ t, exec (.heatOff [c]) s = .next t ∧ SameExcept [.port] s t ∧
        Answered 17 false .none s t) ∧
      (∀ cause, s.heat.channels[k].state = .tripped cause → flagged s k = false →
        reading s k < ((s.profile.channels[k].highLimit - 50 : Nat) : Int) →
        ∃ t, exec (.channelClear [c]) s = .next t ∧ SameExcept [.heat, .bus, .paging, .port] s t ∧
          Answered 18 false .none s t ∧
          t.heat = { s.heat with channels := s.heat.channels.set k { s.heat.channels[k] with state := .idle } } ∧
          (openCall (tripReason cause) k s = none → SameExcept [.heat, .port] s t) ∧
          ∀ x, openCall (tripReason cause) k s = some x →
            t.paging.calls = s.paging.calls.filter (fun y => decide (y.number ≠ x.number)))) ∧
   (∀ (g : Nat) (s : State), (takeGrant g s).heat.grant = g ∧ SameExcept [.heat, .port] s (takeGrant g s) ∧
      (s.heat.window.running = false ∨ s.heat.overdrawn = true ∨ chargesSum s.heat.channels ≤ g →
        takeGrant g s = s.setHeat { s.heat with grant := g }) ∧
      (∀ k : Chan, (takeGrant g s).heat.channels[k].charge ≤ s.heat.channels[k].charge) ∧
      (s.heat.window.running = true → s.heat.overdrawn = false → g < chargesSum s.heat.channels →
        ((takeGrant g s).heat.overdrawn = false →
          chargesSum (takeGrant g s).heat.channels = g ∧ (takeGrant g s).port = s.port ∧
          ∀ k : Chan, (takeGrant g s).heat.channels[k].charge < s.heat.channels[k].charge →
            (takeGrant g s).heat.channels[k].onTime = min s.heat.channels[k].onTime
              (max s.heat.channels[k].served
                ((takeGrant g s).heat.channels[k].charge * 10000 / s.profile.channels[k].load)) ∧
            (takeGrant g s).heat.channels[k].duty = (if heating s.heat.channels[k].state
              then min s.heat.channels[k].duty ((takeGrant g s).heat.channels[k].onTime / 10) else 0) ∧
            (takeGrant g s).heat.channels[k].heater = (s.heat.channels[k].heater &&
              decide (s.heat.channels[k].served < (takeGrant g s).heat.channels[k].onTime)) ∧
            (∀ before after, s.heat.order.reverse = before ++ k :: after → k ∉ before → ∀ j ∈ before,
              (takeGrant g s).heat.channels[j].charge = min s.heat.channels[j].charge
                ((s.heat.channels[j].served * s.profile.channels[j].load + 9999) / 10000)) ∧
            (k ∉ s.heat.order → ∀ j ∈ s.heat.order,
              (takeGrant g s).heat.channels[j].charge = min s.heat.channels[j].charge
                ((s.heat.channels[j].served * s.profile.channels[j].load + 9999) / 10000))) ∧
        ((takeGrant g s).heat.overdrawn = true → (takeGrant g s).port =
          (pushReport (.overdrawn g (chargesSum (takeGrant g s).heat.channels)
            (chargesSum (takeGrant g s).heat.channels - g)) s).port ∧ ∀ k : Chan,
          (s.heat.channels[k].served ≤ s.heat.channels[k].onTime →
            (takeGrant g s).heat.channels[k].duty = if heating s.heat.channels[k].state
              then min s.heat.channels[k].duty (s.heat.channels[k].served / 10) else 0) ∧
          (takeGrant g s).heat.channels[k].heater = false ∧
          (takeGrant g s).heat.channels[k].onTime = s.heat.channels[k].served ∧
          (takeGrant g s).heat.channels[k].served = s.heat.channels[k].served ∧
          (takeGrant g s).heat.channels[k].charge =
            min s.heat.channels[k].charge ((s.heat.channels[k].served * s.profile.channels[k].load + 9999) / 10000))))

/-- Out of reset, with the station allowed to send (or a leaving ANNOUNCE waiting in UNJOINED), a frame e at the head and
none on the line, FRAME_START answers a next state. On a line that is not stuck e leaves the waiting frames and is on
the line, the leave timer stops if e is a leaving ANNOUNCE, and nothing else changes. On a stuck line e leaves the
queue: a frame that is no ANNOUNCE changes nothing else, a leaving ANNOUNCE also clears the stuck condition and the
leave timer, and any other ANNOUNCE ends as after FRAME_RESULT with UNACKED on the line: the waiting frames behind it
stay, and one that a block offered adds one to the unacknowledged count, up to 255, with the station ISOLATED if it
was ACTIVE and the count comes to 3, and otherwise nothing else changed. Out of reset, with a frame e on the line that
a block offered while joined, ARBITRATION_LOST answers a next state in which no frame is on the line and only the
controller differs. If no waiting frame of e's replaceable kind exists, the waiting frames are the old ones and e with
its age, and they stand in order if they did. If one exists, e ends: the number of waiting frames is unchanged and
every waiting frame of that kind has e's age. That the leave timer ends when the frame first begins is the model's
reading (log entry 13). (R42, R44, R46, R47, R48, R53, R82, R92) -/
def Obligations.FrameStartAndArbitrationLossMoveTheHead : Prop :=
   (∀ (e : TxEntry) (rest : List TxEntry) (s : State), awake s = true → sends s = true → s.bus.waiting = e :: rest →
      s.bus.onLine = none → ∃ t, exec .frameStart s = .next t ∧
        (s.bus.stuck = false → SameExcept [.bus] s t ∧ t.bus = { s.bus with
          waiting := rest, onLine := some e, leaveTimer := if isLeaving e.frame then none else s.bus.leaveTimer }) ∧
        (s.bus.stuck = true → t.bus.onLine = none ∧
          (kindCode e.frame ≠ 1 → SameExcept [.bus] s t ∧ t.bus = { s.bus with waiting := rest }) ∧
          (isLeaving e.frame = true → SameExcept [.bus] s t ∧
            t.bus = { s.bus with waiting := rest, stuck := false, leaveTimer := none }) ∧
          ∀ b, e.frame = .announce b → b.leaving = false →
            exec .frameStart s = exec (.frameResult false) (s.setBus { s.bus with waiting := rest, onLine := some e }) ∧
            (∀ x ∈ rest, x ∈ t.bus.waiting) ∧
            (e.deliver = true → maySend s = true → t.share.unacked = min 255 (s.share.unacked + 1) ∧
              (s.life.station = .active ∧ s.share.unacked = 2 → t.life.station = .isolated) ∧
              (s.life.station ≠ .active ∨ s.share.unacked ≠ 2 → t = (s.setBus { s.bus with
                waiting := rest }).setShare { s.share with unacked := min 255 (s.share.unacked + 1) })))) ∧
   (∀ (e : TxEntry) (s : State), awake s = true → s.bus.onLine = some e → e.deliver = true →
      ∃ t, exec .arbitrationLost s = .next t ∧ SameExcept [.bus] s t ∧ t.bus.onLine = none ∧
        (s.bus.waiting.any (sameWaiting e.frame) = false →
          t.bus.waiting.Perm (e :: s.bus.waiting) ∧
          (s.bus.waiting.Pairwise (fun a b => goesBefore b a = false) →
            t.bus.waiting.Pairwise (fun a b => goesBefore b a = false))) ∧
        (s.bus.waiting.any (sameWaiting e.frame) = true →
          t.bus.waiting.length = s.bus.waiting.length ∧
          ∀ x ∈ t.bus.waiting, sameWaiting e.frame x = true → x.age = e.age))

/-- Out of reset, for an entry p: at 3,000 ms of silence and LIVE, SILENCE_STALE answers a next state whose entry is p
marked STALE. At 10,000 ms SILENCE_REMOVE answers a next state without the entry, with the holds of that asker
removed, every wave source at it LOST and a PEER report SILENT with the entry's epoch and last sequence the newest; no
grant is formed. At a stock age of 20 s STOCK_AGE_EXPIRY answers a next state whose entry is p without its stock part.
Every other entry and all other blocks are unchanged. Out of reset in a joined state, a STOCK from another station
1..30 answers a next state with the slot dominant. With an entry p for the sender, at most eight warmers of distinct
channels 0..7 and at least a warmer or a clean-awaiting count, the entry is p with a stock part of age 0 that holds
the body's count and its warmers in channel order. Without an entry, or with an invalid body, nothing but the slot
changes. Other entries and blocks are unchanged. (R50, R60, R61, R62, R64, R65, R66, R139, R157) -/
def Obligations.PeersFallSilentAndTheirStockIsReplaced : Prop :=
   (∀ (id : Nat) (p : Peer) (s : State), awake s = true → findPeer id s = some p →
      (3000 ≤ p.silence → p.stale = false → ∃ t, exec (.silenceStale id) s = .next t ∧ SameExcept [.peers] s t ∧
        findPeer id t = some { p with stale := true } ∧ ∀ j, j ≠ id → findPeer j t = findPeer j s) ∧
      (10000 ≤ p.silence → ∃ t, exec (.silenceRemove id) s = .next t ∧
        SameExcept [.peers, .stock, .waves, .port] s t ∧ findPeer id t = none ∧
        (∀ j, j ≠ id → findPeer j t = findPeer j s) ∧
        t.stock.holds = s.stock.holds.filter (fun h => decide (h.asker ≠ id)) ∧
        t.waves = s.waves.map (loseSources id) ∧
        t.port.reports.getLast? = some ⟨s.life.clock, .peer id p.epoch (.silent p.sequence)⟩) ∧
      (∀ q, p.stock = some q → 20000 ≤ q.age → ∃ t, exec (.stockAgeExpiry id) s = .next t ∧ SameExcept [.peers] s t ∧
        findPeer id t = some { p with stock := none } ∧ ∀ j, j ≠ id → findPeer j t = findPeer j s)) ∧
   (∀ (sender : Nat) (b : StockBody) (s : State), awake s = true → joined s = true → 1 ≤ sender → sender ≤ 30 →
      sender ≠ s.profile.stationId → ∃ t, exec (.stock sender b) s = .next t ∧ SameExcept [.bus, .peers] s t ∧
        t.bus = { s.bus with ackSlot := true } ∧ (∀ id, id ≠ sender → findPeer id t = findPeer id s) ∧
        (∀ p, findPeer sender s = some p → b.warmers.length ≤ 8 → (∀ e ∈ b.warmers, e.channel ≤ 7) →
          (b.warmers.map (fun e => e.channel)).Nodup → (b.warmers ≠ [] ∨ b.clean ≠ none) →
          ∃ ws, findPeer sender t = some { p with stock := some { warmers := ws, clean := b.clean, age := 0 } } ∧
            ws.Perm b.warmers ∧ ws.Pairwise (fun x y => x.channel < y.channel)) ∧
        (findPeer sender s = none → t.peers = s.peers) ∧
        (8 < b.warmers.length ∨ (∃ e ∈ b.warmers, 7 < e.channel) ∨ ¬ (b.warmers.map (fun e => e.channel)).Nodup ∨
          (b.warmers = [] ∧ b.clean = none) → t.peers = s.peers))

/-- Out of reset, in LISTENING with the listening timer at 0, LISTENING_TIMER_EXPIRY answers a next state that is ACTIVE
with the listening timer stopped, the first window start due, the announce tick and stock tick clocks running from 0
and the computed grant in force. With no charge standing (as the charge law gives), the newest report is the STATION
report LISTENED. Own asks, sequence, profile, scanner, lines, peers, dish line, waves, paging and queue are unchanged.
Out of reset in LISTENING, ACTIVE or ISOLATED, DUPLICATE_ID answers a next state that is DUPLICATE with no frame
waiting or on the line, the acknowledge slot recessive, an unacknowledged count of 0, the smaller of C and A as the
grant in force and ALLOWANCE as limit point; a STATION report DUPLICATE-ID with the kind is queued; from ISOLATED the
call ISOLATED leaves the list, and otherwise paging stands, the calls of other stations included (log entry 53); from
LISTENING the listening timer stops and the window, tick and stock tick clocks start with the first window start due.
With no frame on the line, a wave with distinct sources keeps its record but for the hold state of a source that is
ASKED by a waiting HOLD-ASK: that one comes back as refused, and the source has the hold state it had before the ask;
and a waiting STOCK that comes back sets the stock-changed flag. Profile, scanner, lines, peers, dish line and queue
of commands are unchanged. In DUPLICATE it changes the acknowledge slot alone, and in UNJOINED nothing. That a frame
on the line is dropped at the entry to DUPLICATE is the model's reading (log entry 11), and so are the first window
start as an event of its own (log entry 29) and an OVERDRAWN report of the grant as the last (log entry 41). (R23,
R52, R53, R70, R77, R78, R79, R91, R93, R97, R141, R157) -/
def Obligations.StationStatesEndListeningAndOnADuplicate : Prop :=
   (∀ s : State, awake s = true → s.life.station = .listening → s.share.listen = some 0 →
      ∃ t, exec .listeningTimerExpiry s = .next t ∧ t.life = { s.life with station := .active } ∧
        t.share.listen = none ∧ t.share.asks = s.share.asks ∧ t.share.nextSequence = s.share.nextSequence ∧
        t.heat.window = { running := true, phase := 0, due := true } ∧
        t.share.tick = { running := true, phase := 0, due := false } ∧
        t.stock = { s.stock with tick := { running := true, phase := 0, due := false } } ∧
        t.heat.grant = (formGrant t).1 ∧ t.share.grant = (formGrant t).1 ∧
        SameExcept [.life, .heat, .share, .stock, .port] s t ∧
        ReportsThenCut s (pushReport (.station .listening .active s.life.joinNumber .listened) s) t ∧
        (chargesSum s.heat.channels = 0 → t.port.reports.getLast? = some ⟨s.life.clock,
          .station .listening .active s.life.joinNumber .listened⟩ ∧ t.heat.channels = s.heat.channels)) ∧
   (∀ (kind : Nat) (s : State), awake s = true →
      (joined s = true → s.life.station ≠ .duplicate → ∃ t, exec (.duplicateId kind) s = .next t ∧
        t.life = { s.life with station := .duplicate } ∧ t.bus.waiting = [] ∧ t.bus.onLine = none ∧
        t.bus.ackSlot = false ∧ t.share.unacked = 0 ∧ t.share.limit = .allowance ∧ t.share.shares = .zero ∧
        t.heat.grant = min s.profile.feeder.ceiling s.profile.feeder.allowance ∧ t.share.grant = t.heat.grant ∧
        (s.life.station = .listening → t.share.listen = none ∧
          t.heat.window = { running := true, phase := 0, due := true } ∧
          t.share.tick = { running := true, phase := 0, due := false } ∧
          t.stock.tick = { running := true, phase := 0, due := false }) ∧
        ReportsThenCut s (pushReport
          (.station s.life.station .duplicate s.life.joinNumber (.duplicateId kind)) s) t ∧
        (s.life.station ≠ .isolated ∨ openCall .isolated s.profile.stationId s = none → t.paging = s.paging) ∧
        (∀ c, s.life.station = .isolated → openCall .isolated s.profile.stationId s = some c →
          t.paging.calls = s.paging.calls.filter (fun x => decide (x.number ≠ c.number))) ∧
        (s.bus.onLine = none →
          (s.bus.waiting.any (fun e => decide (kindCode e.frame = 9)) = true → t.stock.changed = true) ∧
          ∀ (w : Wave) (back : Source → Source), findWave w.number s = some w → sameSources w = false →
            (∀ r, back r = { r with hold := match r.hold with
              | .asked n b => if s.bus.waiting.any (fun e => match e.frame with
                  | .holdAsk a => decide (a.target = r.station) && decide (a.wave = w.number) &&
                      decide (a.channel = r.channel)
                  | _ => false) = true then b.copy else .asked n b
              | h => h }) →
            findWave w.number t = some { w with src1 := back w.src1, src2 := w.src2.map back }) ∧
        SameExcept [.life, .heat, .bus, .share, .stock, .waves, .paging, .port] s t) ∧
      (s.life.station = .duplicate →
        exec (.duplicateId kind) s = .next (s.setBus { s.bus with ackSlot := false })) ∧
      (joined s = false → exec (.duplicateId kind) s = .next s))

/-- RESET_ASSERT from every state, RESET_RELEASE while the pin holds the station, an accepted RESTART, and RESTART_RELEASE
at the end of its 10 ms each answer a next state in which every block is as in the reset state, each line's taken
level is the level on its pin with no debounce, the reply is NONE and no report is queued, and the waiting commands
wait on. The station is held by the pin after the assertion, for 10 ms after RESTART, and is out of reset after a
release. A RESET_RELEASE without the pin holding the station changes nothing. In reset, by the pin or by RESTART,
every command other than RESET_ASSERT, RESET_RELEASE, RESTART_RELEASE and LINE_PIN_CHANGE answers a next state that
differs at most in the transaction on the panel port; a pin change there changes the level on that pin alone (log
entry 1). That the values stand from the assertion on and that nothing is heard is the model's reading (log entry 6).
(R1, R6, R17, R53, R69, R87, R99, R143, R161, R182, R184, R190) -/
def Obligations.ResetsGiveTheResetValuesAndHearNothing : Prop :=
   (∀ s : State,
      (∃ t, exec .resetAssert s = .next t ∧ AtReset s t ∧ t.resetting = .pin ∧ t.pending = s.pending) ∧
      (s.resetting = .pin → ∃ t, exec .resetRelease s = .next t ∧ AtReset s t ∧ t.resetting = .no ∧
        t.pending = s.pending) ∧
      (s.resetting ≠ .pin → exec .resetRelease s = .next s) ∧
      (portDeaf s = false → ∃ t, exec (.restart []) s = .next t ∧ AtReset s t ∧ t.resetting = .restart 10 ∧
        t.pending = s.pending ∧ t.port.transaction = .none) ∧
      (s.resetting = .restart 0 → ∃ t, exec .restartRelease s = .next t ∧ AtReset s t ∧ t.resetting = .no ∧
        t.pending = s.pending)) ∧
   ((∀ (c : Instr) (s : State), s.resetting ≠ .no → c ≠ .resetAssert → c ≠ .resetRelease → c ≠ .restartRelease →
      (∀ l high, c ≠ .linePinChange l high) → ∃ t, exec c s = .next t ∧ SameExcept [.port] s t ∧
        t.port = { s.port with transaction := t.port.transaction }) ∧
    ∀ (l : LineNo) (high : Bool) (s : State), s.resetting ≠ .no →
      exec (.linePinChange l high) s = .next (s.setLines (s.lines.set l { s.lines[l] with pin := high })))

/-- The checks of JOIN pass exactly when the identifier is 1..30; with the dish line enabled exactly one channel is
BOOSTER, exactly one TANK and the edges run a < b <= c < d < e; without it no channel is either; and with a radio
every roster entry in use has a group and no two share an address. The first check that fails names its item: the
identifier (item 1); the kind (4) of the lowest channel that is a second BOOSTER or TANK; the dish enable (16) when
one is missing; without dish line the kind of the lowest channel that is either; the first edge (17) of b, c, d, e out
of order; the group (32) of the lowest roster entry in use without one; the address (31) of the lowest entry whose
address appears at a lower index. In UNJOINED, when a check fails, JOIN answers a next state with REFUSED CONDITION
that names that item, and nothing else changed. With every check passing it answers a next state in LISTENING with the
join number advanced from 255 to 1 and otherwise by one, the clock kept, controller, share unit and heat window at
their beginnings, peer, wave and hold table and rack queue empty, the listening timer at 3,000 ms. Each channel is as
after reset, its state TRIPPED by SENSOR if it is not UNUSED and its input is FAULTED; its door flag is set exactly if
a line resolved to its door is ACTIVE. Each warmer's door state follows its line and the DOOR hold the dish door. The
radio is UP, the duty flags are the default duties, the pointers START; without a trip the call list and page queue
are empty and the report JOINED is the newest. The reply is DONE; profile, scanner, lines, pulse age and command queue
are unchanged. That a frame on the line is dropped there is the model's reading (log entry 9). (R9, R16, R38, R53,
R55, R69, R89, R90, R99, R143, R161, R167) -/
def Obligations.JoinIsCheckedAndEntersListening : Prop :=
   ((∀ p : Profile, joinCheck p = none ↔
      (1 ≤ p.stationId ∧ p.stationId ≤ 30) ∧
      DishStands p ∧
      (p.radio = true → (∀ i : Fin 32, p.roster[i].address ≠ 0 → p.roster[i].group ≠ none) ∧
        ∀ i j : Fin 32, i ≠ j → p.roster[i].address ≠ 0 → p.roster[i].address ≠ p.roster[j].address)) ∧
    (∀ p : Profile,
      (p.stationId = 0 ∨ 30 < p.stationId → joinCheck p = some (1, 0)) ∧
      (1 ≤ p.stationId → p.stationId ≤ 30 →
        (p.dish.enable = true →
          (∀ k : Chan, Lowest (SecondOfKind p) k → joinCheck p = some (4, k.val)) ∧
          ((∀ k : Chan, ¬ SecondOfKind p k) → channelsOf p .booster = [] ∨ channelsOf p .tank = [] →
            joinCheck p = some (16, 0)) ∧
          ((channelsOf p .booster).length = 1 → (channelsOf p .tank).length = 1 →
            (p.dish.b ≤ p.dish.a → joinCheck p = some (17, 1)) ∧
            (p.dish.a < p.dish.b → p.dish.c < p.dish.b → joinCheck p = some (17, 2)) ∧
            (p.dish.a < p.dish.b → p.dish.b ≤ p.dish.c → p.dish.d ≤ p.dish.c → joinCheck p = some (17, 3)) ∧
            (p.dish.a < p.dish.b → p.dish.b ≤ p.dish.c → p.dish.c < p.dish.d → p.dish.e ≤ p.dish.d →
              joinCheck p = some (17, 4)))) ∧
        (p.dish.enable = false → ∀ k : Chan, Lowest (OfDishKind p) k → joinCheck p = some (4, k.val)) ∧
        (p.radio = true → DishStands p →
          (∀ i : Fin 32, Lowest (Groupless p) i → joinCheck p = some (32, i.val)) ∧
          ((∀ i : Fin 32, ¬ Groupless p i) → ∀ i : Fin 32, Lowest (SharesAddress p) i →
            joinCheck p = some (31, i.val))))) ∧
    ∀ (x : Nat × Nat) (s : State), portDeaf s = false → s.life.station = .unjoined → joinCheck s.profile = some x →
      exec (.join []) s = .next (s.setPort { s.port with
        reply := .refused 3 (.condition (some x)), transaction := .none })) ∧
   (∀ s : State, portDeaf s = false → s.life.station = .unjoined → joinCheck s.profile = none →
      ∃ t, exec (.join []) s = .next t ∧
        t.life = { s.life with station := .listening, joinNumber := s.life.joinNumber % 255 + 1 } ∧
        t.bus = Bus.initial ∧ t.bus.waiting = [] ∧ t.bus.onLine = none ∧ t.peers = [] ∧ t.waves = [] ∧ t.stock.holds = [] ∧
        t.share = { Share.initial with listen := some 3000 } ∧ t.heat.grant = 0 ∧ t.heat.window = .stopped ∧
        t.heat.order = [] ∧ t.heat.overdrawn = false ∧ t.stock.tick = .stopped ∧ t.stock.changed = false ∧
        t.stock.clean = 0 ∧
        t.paging.radioUp = true ∧ t.paging.duty = s.profile.roster.map (fun r => r.defaultDuty) ∧
        t.paging.failures = 0 ∧ t.paging.pointer = Vector.replicate 8 none ∧ t.paging.allCall = none ∧
        t.paging.collecting = false ∧ (∀ c ∈ t.paging.calls, c.reason = .sensorFault) ∧
        ((∀ k : Chan, s.profile.channels[k].kind = .unused ∨ flagged s k = false) →
          t.paging.calls = [] ∧ t.paging.nextNumber = 1 ∧ t.paging.queue = [] ∧ t.paging.nextTag = 1 ∧
          t.paging.modem = none ∧ t.port.reports.getLast? =
            some ⟨s.life.clock, .station .unjoined .listening (s.life.joinNumber % 255 + 1) .joined⟩) ∧
        t.dish = { Dish.initial s.profile.dish with
          holds := { HoldSet.empty with door := useActive s .dishDoor } } ∧
        (∀ k : Chan,
          t.heat.channels[k].demand = 0 ∧ t.heat.channels[k].heater = false ∧
          t.heat.channels[k] = { Channel.initial s.profile.channels[k].baseClass with
            state := if s.profile.channels[k].kind ≠ .unused ∧ flagged s k = true then .tripped .sensor else .idle
            doorFlag := useActive s (.ovenDoor k) || useActive s (.warmerDoor k) } ∧
          t.stock.warmers[k] = { Warmer.initial with doorOpen := useActive s (.warmerDoor k) }) ∧
        t.port.reply = .done 3 false .none ∧ t.port.transaction = .none ∧
        SameExcept [.life, .heat, .bus, .peers, .share, .dish, .stock, .waves, .paging, .port] s t)

/-- In a joined state with the dish line enabled. DISH-ON from OFF answers a next state in mode ON: with the entry line
INACTIVE the racks stand and the IDLE hold is set if there is none; with it ACTIVE and room and spacing for a rack,
one rack is registered with the tag or default plates and the IDLE hold is clear; with the newest rack below 550 mm
the queue stands, and with 12 racks the ENTRY hold is set and the call ENTRY-FULL raised. In ON it changes the reply
alone, as DISH-OFF does in OFF. DISH-OFF from ON or JAM answers a next state in mode OFF with every rack INTERRUPTED,
the RINSE, ENTRY and IDLE holds clear, the EXIT and DOOR holds, tag, clean count and last rack kept, the rinse, idle
and jam times 0, and the RINSE-HOLD, ENTRY-FULL and JAM calls gone, with a PAGE-CANCEL waiting for each that was not
LOCAL where the queue has an entry for each. DISH-RESUME from JAM answers a next state in mode ON with racks and holds
kept and the JAM call cancelled. A conveyor that starts has its jam timer at 0. Wherever a command changes the dish
line's mode, the plate stock unit shows the clean-awaiting count, its stock-changed flag set if that changed it, and
stands otherwise. Each reply is DONE. NEXT-RACK answers a next state whose pending tag is the value clamped into
0..60, and PICKUP one whose clean-awaiting count is lower by the value clamped into 0 up to that count, published to
the plate stock unit with the stock-changed flag set if the published count changed; DEFAULT is the default plates per
rack. The reply is DONE-CLAMPED exactly if a clamp changed a value or default. The rest of the dish line and every
other block but the port are unchanged. (R98, R101, R107, R116, R117, R118, R120, R121, R122, R162, R166, R187) -/
def Obligations.DishCommandsSetModeTagAndCleanCount : Prop :=
   (∀ s : State, portDeaf s = false → joined s = true → s.profile.dish.enable = true →
      (s.dish.mode = .off → useActive s .dishEntry = false → ∃ t, exec (.dishOn []) s = .next t ∧
        SameExcept [.dish, .stock, .port] s t ∧ Answered 32 false .none s t ∧
        t.dish = { s.dish with
          mode := .on
          holds := { s.dish.holds with idle := s.dish.holds.idle || s.dish.racks.isEmpty }
          jamTimer := if anyHold { s.dish.holds with idle := s.dish.holds.idle || s.dish.racks.isEmpty }
            then s.dish.jamTimer else 0 } ∧ CleanPublished s t) ∧
      (s.dish.mode = .off → useActive s .dishEntry = true → s.dish.racks.length < 12 →
        (∀ r, s.dish.racks.getLast? = some r → 5500 ≤ r.position) → ∃ t, exec (.dishOn []) s = .next t ∧
        SameExcept [.dish, .stock, .port] s t ∧ Answered 32 false .none s t ∧ t.dish.mode = .on ∧
        t.dish.racks = s.dish.racks ++ [⟨s.dish.nextNumber, s.life.clock, 0, s.dish.tag.getD s.profile.dish.defaultPlates,
          none, 0, none, false, false, .pending, []⟩] ∧
        t.dish.tag = none ∧ t.dish.nextNumber = s.dish.nextNumber % 65535 + 1 ∧ t.dish.idleTime = 0 ∧
        t.dish.holds = { s.dish.holds with idle := false } ∧ t.dish.clean = s.dish.clean ∧ CleanPublished s t) ∧
      (s.dish.mode = .off → useActive s .dishEntry = true → (∃ r, s.dish.racks.getLast? = some r ∧ r.position < 5500) →
        ∃ t, exec (.dishOn []) s = .next t ∧ SameExcept [.dish, .stock, .port] s t ∧ Answered 32 false .none s t ∧
        t.dish = { s.dish with mode := .on, jamTimer := if anyHold s.dish.holds then s.dish.jamTimer else 0 } ∧
        CleanPublished s t) ∧
      (s.dish.mode = .off → useActive s .dishEntry = true → 12 ≤ s.dish.racks.length →
        (∀ r, s.dish.racks.getLast? = some r → 5500 ≤ r.position) →
        ∃ t u, exec (.dishOn []) s = .next t ∧ SameExcept [.bus, .dish, .stock, .paging, .port] s t ∧
        t.dish = { s.dish with mode := .on, holds := { s.dish.holds with entry := true } } ∧ CleanPublished s t ∧
        CallRaised .entryFull 0 (s.setDish t.dish) u ∧ t.paging = u.paging ∧ t.bus = u.bus ∧
        t.port = { u.port with reply := .done 32 false .none, transaction := .none }) ∧
      (s.dish.mode = .on → ∃ t, exec (.dishOn []) s = .next t ∧ SameExcept [.port] s t ∧ Answered 32 false .none s t) ∧
      (s.dish.mode = .off → ∃ t, exec (.dishOff []) s = .next t ∧ SameExcept [.port] s t ∧
        Answered 33 false .none s t) ∧
      (s.dish.mode ≠ .off → ∃ t, exec (.dishOff []) s = .next t ∧
        SameExcept [.bus, .dish, .stock, .paging, .port] s t ∧ Answered 33 false .none s t ∧
        t.dish = { s.dish with
          mode := .off
          racks := s.dish.racks.map (fun r => { r with interrupted := true })
          holds := { s.dish.holds with rinse := false, entry := false, idle := false }
          rinseTime := 0
          idleTime := 0
          jamTimer := 0
          rinseCalled := false } ∧
        CleanPublished s t ∧ CallsEnded [.rinseHold, .entryFull, .jam] 0 [] s t ∧
        (openCall .rinseHold 0 s = none → openCall .entryFull 0 s = none → openCall .jam 0 s = none →
          t.paging = s.paging ∧ t.bus = s.bus)) ∧
      (s.dish.mode = .jam → ∃ t, exec (.dishResume []) s = .next t ∧
        SameExcept [.bus, .dish, .stock, .paging, .port] s t ∧ Answered 35 false .none s t ∧
        t.dish = { s.dish with mode := .on, jamTimer := if anyHold s.dish.holds then s.dish.jamTimer else 0 } ∧
        CallCancelled .jam 0 s t ∧ CleanPublished s t)) ∧
   (∀ (w : Word) (v : Nat) (clamped : Bool) (s : State), portDeaf s = false → joined s = true →
      s.profile.dish.enable = true →
      (Takes 0 60 s.profile.dish.defaultPlates w v clamped → ∃ t, exec (.nextRack [w]) s = .next t ∧
        SameExcept [.dish, .port] s t ∧ t.dish = { s.dish with tag := some v } ∧ Answered 36 clamped .none s t) ∧
      (Takes 0 s.dish.clean s.profile.dish.defaultPlates w v clamped → ∃ t, exec (.pickup [w]) s = .next t ∧
        SameExcept [.dish, .stock, .port] s t ∧ t.dish = { s.dish with clean := s.dish.clean - v } ∧
        Answered 37 clamped .none s t ∧ CleanPublished s t))

/-- Out of reset, for an open call c whose broadcast timer is at its end. In CALLING with 3 broadcasts
BROADCAST_TIMER_EXPIRY answers a next state without c, with its CALL report UNSERVED and its PAGE-CANCEL waiting if
the queue has room. Otherwise, at a station without a radio, the call's PAGE-CALL waits if the queue has room, its
timer is 10,000 ms and its broadcasts one more in CALLING, and 60,000 ms with the broadcasts standing in TAKEN and
SENT; nothing else of the paging unit changes. A timer not at its end, or of a call that is gone, changes nothing (log
entry 2). In ACTIVE or ISOLATED, out of reset, a PAGE-STATE from another station 1..30. When its origin is this
station and an open call c that is not LOCAL carries its number, reason and subject: TAKEN makes a CALLING call TAKEN,
SENT makes it SENT with the pager as last pager, and both start its timer at 60,000 ms and change nothing else; ACKED,
FAILED and DROPPED remove it with a CALL report that carries the pager, or RADIO or EXHAUSTED, and its PAGE-CANCEL
waits if the queue has room. With another origin, or without such a call, only the acknowledge slot changes. The fresh
60,000 ms at a reminder (log entry 35), and EXHAUSTED for a FAILED whose detail is neither 1 nor 2 (log entry 31), are
the model's readings. (R164, R165, R166, R181) -/
def Obligations.OpenCallsFollowTheirTimerAndPageStates : Prop :=
   (∀ (c : Call) (s : State), awake s = true →
      s.paging.calls.find? (fun x => decide (x.number = c.number)) = some c →
      (c.timer = some 0 →
        (c.state = .calling → 3 ≤ c.broadcasts → ∃ t, exec (.broadcastTimerExpiry c.number) s = .next t ∧
          SameExcept [.bus, .paging, .port] s t ∧
          t.paging.calls = s.paging.calls.filter (fun x => decide (x.number ≠ c.number)) ∧
          t.port.reports.getLast? =
            some ⟨s.life.clock, .call (some c.number) c.reason c.subject c.group c.urgency .unserved⟩ ∧
          FrameWaits (.pageCancel c.number) s t) ∧
        (c.state ≠ .calling ∨ c.broadcasts < 3 → s.profile.radio = false →
          ∃ t, exec (.broadcastTimerExpiry c.number) s = .next t ∧ SameExcept [.bus, .paging] s t ∧
            t.paging = { s.paging with calls := s.paging.calls.map (fun x => if x.number = c.number
              then (if x.state = .calling then { x with broadcasts := x.broadcasts + 1, timer := some 10000 }
                else { x with timer := some 60000 }) else x) } ∧
            FrameWaits (.pageCall ⟨c.number, reasonCode c.reason, c.subject, c.group.getD 0, c.urgency⟩) s t)) ∧
      ((∀ x ∈ s.paging.calls, x.number = c.number → x.timer ≠ some 0) →
        exec (.broadcastTimerExpiry c.number) s = .next s)) ∧
   (∀ (sender : Nat) (b : PageStateBody) (s : State), awake s = true → maySend s = true → 1 ≤ sender → sender ≤ 30 →
      sender ≠ s.profile.stationId →
      (b.origin ≠ s.profile.stationId ∨ (∀ c ∈ s.paging.calls,
          ¬ (c.number = b.number ∧ reasonCode c.reason = b.reason ∧ c.subject = b.subject ∧ c.state ≠ .local)) →
        exec (.pageState sender b) s = .next (s.setBus { s.bus with ackSlot := true })) ∧
      (∀ c ∈ s.paging.calls, b.origin = s.profile.stationId → c.number = b.number → reasonCode c.reason = b.reason →
        c.subject = b.subject → c.state ≠ .local → s.paging.calls.Pairwise (fun x y => x.number ≠ y.number) →
        (∀ c' : Call, (b.outcome = 1 ∧ c' = { c with
              state := if c.state = .calling then .taken else c.state, timer := some 60000 }) ∨
            (b.outcome = 2 ∧ c' = { c with state := .sent, lastPager := some b.detail, timer := some 60000 }) →
          exec (.pageState sender b) s = .next ((s.setBus { s.bus with ackSlot := true }).setPaging { s.paging with
            calls := s.paging.calls.map (fun x => if x.number = c.number then c' else x) })) ∧
        (∀ cause : CallCause, (b.outcome = 3 ∧ cause = .acked b.detail) ∨
            (b.outcome = 4 ∧ cause = .failed (decide (b.detail = 1))) ∨ (b.outcome = 5 ∧ cause = .dropped) →
          ∃ t, exec (.pageState sender b) s = .next t ∧ SameExcept [.bus, .paging, .port] s t ∧
            t.paging.calls = s.paging.calls.filter (fun x => decide (x.number ≠ c.number)) ∧
            t.port.reports.getLast? =
              some ⟨s.life.clock, .call (some c.number) c.reason c.subject c.group c.urgency cause⟩ ∧
            FrameWaits (.pageCancel c.number) s t)))

/-- If every list of a state is within its capacity (32 reports, 8 frames with the one on the line, 12 racks, 16 holds, 6
loads a channel, 16 waves, 16 open calls, 24 queued calls), then so is every list after any step. (R49, R100, R132,
R145, R161, R168, R190) -/
def Obligations.StepKeepsTheCapacities : Prop :=
  ∀ s t : State, WithinCapacity s → step s = .next t → WithinCapacity t

/-- If the lists of a state are within their capacities and no two open calls share a number and no two queued calls a tag
or a call identifier, then none do after any step. (R161, R162, R168, R169) -/
def Obligations.StepKeepsTheNames : Prop :=
  ∀ s t : State, WithinCapacity s → NamesLaw s.paging → step s = .next t → NamesLaw t.paging

/-- If a state keeps the heater law and the charge law, so does every state after a step. The heater law: demand at most
1000, allowed duty at most the demand, served time at most the on-time, integral within -1000..1000, demand 0 outside
RAMP and REGULATE, a heater on only in those with on-time and, for an OVEN, with a clear door flag; and outside
ACTIVE, ISOLATED and DUPLICATE no window runs and no heater is on. The charge law: the charges are at most the grant
in force unless the window is OVERDRAWN, and without a running window none stands. (R23, R26, R29, R30, R32, R33, R34,
R35, R39) -/
def Obligations.StepKeepsTheHeaterAndChargeLaws : Prop :=
  ∀ s t : State, HeaterLaw s → ChargeLaw s → step s = .next t → HeaterLaw t ∧ ChargeLaw t

/-- If a state within its capacities keeps the stock law, so does every state after a step: no two holds share a tag or a
key and each holds a plate, every load holds a plate, the loads of a channel fit its capacity, its holds never exceed
its ready plates, the warm time stands in its range, and in UNJOINED no load and no hold stands. (R124, R125, R129,
R130, R132, R133, R136, R138) -/
def Obligations.StepKeepsTheStockLaw : Prop :=
  ∀ s t : State, WithinCapacity s → StockLaw s → step s = .next t → StockLaw t

/-- If the peer table rises strictly by identifier and the wave table by number, so they do after any step. If each rack
stands the minimum spacing behind the one ahead, or that one has reached the end of the scale, so it does after any
step. If the feeder items are in range, so they are after any step. (R55, R68, R100, R103, R145) -/
def Obligations.StepKeepsTheOrdersOfTheTables : Prop :=
  ∀ s t : State, step s = .next t →
    (risingPeers s.peers → risingPeers t.peers) ∧ (risingWaves s.waves → risingWaves t.waves) ∧
      (spacedRacks s.dish.racks → spacedRacks t.dish.racks) ∧ (FeederLaw s.profile.feeder → FeederLaw t.profile.feeder)
end

