-- ==== Sys2Proof/Laws/Frames.lean ====
section
/-! SUPPORT. The frame of each shared operation: the blocks it may change, said once. -/

namespace Sys2Proof.Machine

/-- One more operation at the end of a frame. -/
theorem SameExcept.step {as bs : List Block} {s t u : State} (g : SameExcept as t u) (h : SameExcept bs s t)
    (ha : ∀ b ∈ as, b ∈ bs) : SameExcept bs s u := h.trans (g.mono ha)

/-- A guarded operation at the end of a frame. -/
theorem doWhen_step {bs : List Block} {s t : State} {f : State → State} {c : Bool} (h : SameExcept bs s t)
    (g : SameExcept bs t (f t)) : SameExcept bs s (doWhen c f t) := h.trans (doWhen_frame c t g)

/-- An effect on a wave at the end of a frame. -/
theorem onWave_step {bs : List Block} {s t : State} {n : Nat} {f : Wave → State → State} (h : SameExcept bs s t)
    (g : ∀ w, SameExcept bs t (f w t)) : SameExcept bs s (onWave n f t) := by
  unfold onWave
  split
  · exact h.trans (g _)
  · exact h

/-- A fold at the end of a frame. -/
theorem foldl_step {α : Type} {bs : List Block} {s t : State} {f : State → α → State} {xs : List α}
    (h : SameExcept bs s t) (g : ∀ u a, SameExcept bs u (f u a)) : SameExcept bs s (xs.foldl f t) :=
  h.trans (foldl_frame g xs t)

theorem pushReport_frame (b : ReportBody) (s : State) : SameExcept [.port] s (pushReport b s) := by
  unfold pushReport
  repeat' first
    | with_reducible apply SameExcept.refl
    | decide
    | with_reducible apply SameExcept.step (State.setPort_frame _ _)
    | with_reducible apply doWhen_step
    | dsimp only
    | split

theorem changeStation_frame (dest : Station) (cause : StationCause) (s : State) :
    SameExcept [.life, .port] s (changeStation dest cause s) := by
  unfold changeStation
  repeat' first
    | with_reducible apply SameExcept.refl
    | decide
    | with_reducible apply SameExcept.step (State.setLife_frame _ _)
    | with_reducible apply SameExcept.step (pushReport_frame _ _)

theorem offer_frame (f : Frame) (s : State) : SameExcept [.bus] s (offer f s) := by
  unfold offer
  repeat' first
    | with_reducible apply SameExcept.refl
    | decide
    | with_reducible apply SameExcept.step (State.setBus_frame _ _)
    | with_reducible apply doWhen_step
    | dsimp only
    | split

theorem endTransaction_frame (s : State) : SameExcept [.port] s (endTransaction s) := by
  unfold endTransaction
  repeat' first
    | with_reducible apply SameExcept.refl
    | decide
    | with_reducible apply SameExcept.step (State.setPort_frame _ _)

theorem setReply_frame (r : Reply) (s : State) : SameExcept [.port] s (setReply r s) := by
  unfold setReply
  repeat' first
    | with_reducible apply SameExcept.refl
    | decide
    | with_reducible apply SameExcept.step (State.setPort_frame _ _)

theorem serveCancel_frame (origin : Nat) (number : Nat) (s : State) :
    SameExcept [.paging] s (serveCancel origin number s) := by
  unfold serveCancel
  repeat' first
    | with_reducible apply SameExcept.refl
    | decide
    | with_reducible apply SameExcept.step (State.setPaging_frame _ _)
    | with_reducible apply doWhen_step

theorem updatePaged_frame (tag : Nat) (f : Paged → Paged) (s : State) :
    SameExcept [.paging] s (updatePaged tag f s) := by
  unfold updatePaged
  repeat' first
    | with_reducible apply SameExcept.refl
    | decide
    | with_reducible apply SameExcept.step (State.setPaging_frame _ _)

theorem updateCall_frame (number : Nat) (f : Call → Call) (s : State) :
    SameExcept [.paging] s (updateCall number f s) := by
  unfold updateCall
  repeat' first
    | with_reducible apply SameExcept.refl
    | decide
    | with_reducible apply SameExcept.step (State.setPaging_frame _ _)

theorem dropCall_frame (number : Nat) (s : State) : SameExcept [.paging] s (dropCall number s) := by
  unfold dropCall
  repeat' first
    | with_reducible apply SameExcept.refl
    | decide
    | with_reducible apply SameExcept.step (State.setPaging_frame _ _)

theorem sendCancel_frame (number : Nat) (s : State) : SameExcept [.bus, .paging] s (sendCancel number s) := by
  unfold sendCancel
  repeat' first
    | with_reducible apply SameExcept.refl
    | decide
    | with_reducible apply SameExcept.step (offer_frame _ _)
    | with_reducible apply SameExcept.step (serveCancel_frame _ _ _)

theorem endCall_frame (c : Call) (cause : CallCause) (s : State) :
    SameExcept [.bus, .paging, .port] s (endCall c cause s) := by
  unfold endCall
  repeat' first
    | with_reducible apply SameExcept.refl
    | decide
    | with_reducible apply SameExcept.step (pushReport_frame _ _)
    | with_reducible apply SameExcept.step (dropCall_frame _ _)
    | with_reducible apply SameExcept.step (sendCancel_frame _ _)

theorem withdrawCall_frame (c : Call) (s : State) : SameExcept [.bus, .paging] s (withdrawCall c s) := by
  unfold withdrawCall
  repeat' first
    | with_reducible apply SameExcept.refl
    | decide
    | with_reducible apply SameExcept.step (dropCall_frame _ _)
    | with_reducible apply SameExcept.step (sendCancel_frame _ _)
    | with_reducible apply doWhen_step

theorem pageStateAtOrigin_frame (b : PageStateBody) (s : State) :
    SameExcept [.bus, .paging, .port] s (pageStateAtOrigin b s) := by
  unfold pageStateAtOrigin
  repeat' first
    | with_reducible apply SameExcept.refl
    | decide
    | with_reducible apply SameExcept.step (updateCall_frame _ _ _)
    | with_reducible apply SameExcept.step (endCall_frame _ _ _)
    | with_reducible apply doWhen_step
    | dsimp only
    | split

theorem tellOrigin_frame (c : Paged) (outcome : Nat) (detail : Nat) (s : State) :
    SameExcept [.bus, .paging, .port] s (tellOrigin c outcome detail s) := by
  unfold tellOrigin
  repeat' first
    | with_reducible apply SameExcept.refl
    | decide
    | with_reducible apply SameExcept.step (offer_frame _ _)
    | with_reducible apply SameExcept.step (pageStateAtOrigin_frame _ _)
    | with_reducible apply doWhen_step
    | dsimp only
    | split

theorem finishPaged_frame (c : Paged) (outcome : Nat) (detail : Nat) (s : State) :
    SameExcept [.bus, .paging, .port] s (finishPaged c outcome detail s) := by
  unfold finishPaged
  repeat' first
    | with_reducible apply SameExcept.refl
    | decide
    | with_reducible apply SameExcept.step (State.setPaging_frame _ _)
    | with_reducible apply SameExcept.step (tellOrigin_frame _ _ _ _)

theorem writeRecord_frame (r : OutRecord) (s : State) : SameExcept [.paging] s (writeRecord r s) := by
  unfold writeRecord
  repeat' first
    | with_reducible apply SameExcept.refl
    | decide
    | with_reducible apply SameExcept.step (State.setPaging_frame _ _)

theorem writeSend_frame (c : Paged) (i : Fin 32) (s : State) : SameExcept [.paging] s (writeSend c i s) := by
  unfold writeSend
  repeat' first
    | with_reducible apply SameExcept.refl
    | decide
    | with_reducible apply SameExcept.step (updatePaged_frame _ _ _)
    | with_reducible apply SameExcept.step (writeRecord_frame _ _)

theorem writeAll_frame (a : AllCall) (s : State) : SameExcept [.paging] s (writeAll a s) := by
  unfold writeAll
  repeat' first
    | with_reducible apply SameExcept.refl
    | decide
    | with_reducible apply SameExcept.step (State.setPaging_frame _ _)
    | with_reducible apply SameExcept.step (writeRecord_frame _ _)

theorem grantCalls_frame (n : Nat) (s : State) : SameExcept [.bus, .paging, .port] s (grantCalls n s) := by
  induction n generalizing s with
  | zero => exact SameExcept.refl _ _
  | succ n ih =>
    unfold grantCalls
    split
    · exact SameExcept.refl _ _
    · split
      · exact (writeSend_frame _ _ _).mono (by decide)
      · exact SameExcept.step (ih _) ((finishPaged_frame _ _ _ _).mono (by decide)) (by decide)

theorem arbitrate_frame (s : State) : SameExcept [.bus, .paging, .port] s (arbitrate s) := by
  unfold arbitrate
  repeat' first
    | with_reducible apply SameExcept.refl
    | decide
    | with_reducible apply SameExcept.step (writeAll_frame _ _)
    | with_reducible apply SameExcept.step (grantCalls_frame _ _)
    | with_reducible apply doWhen_step
    | dsimp only
    | split

theorem takePaged_frame (origin : Nat) (b : PageCallBody) (s : State) :
    SameExcept [.bus, .paging, .port] s (takePaged origin b s) := by
  unfold takePaged
  repeat' first
    | with_reducible apply SameExcept.refl
    | decide
    | with_reducible apply SameExcept.step (State.setPaging_frame _ _)
    | with_reducible apply SameExcept.step (tellOrigin_frame _ _ _ _)

theorem dropPaged_frame (origin : Nat) (b : PageCallBody) (s : State) :
    SameExcept [.bus, .paging, .port] s (dropPaged origin b s) := by
  unfold dropPaged
  repeat' first
    | with_reducible apply SameExcept.refl
    | decide
    | with_reducible apply SameExcept.step (offer_frame _ _)
    | with_reducible apply SameExcept.step (pageStateAtOrigin_frame _ _)
    | with_reducible apply doWhen_step
    | dsimp only
    | split

theorem serveCall_frame (origin : Nat) (b : PageCallBody) (s : State) :
    SameExcept [.bus, .paging, .port] s (serveCall origin b s) := by
  unfold serveCall
  repeat' first
    | with_reducible apply SameExcept.refl
    | decide
    | with_reducible apply SameExcept.step (tellOrigin_frame _ _ _ _)
    | with_reducible apply SameExcept.step (finishPaged_frame _ _ _ _)
    | with_reducible apply SameExcept.step (arbitrate_frame _)
    | with_reducible apply SameExcept.step (takePaged_frame _ _ _)
    | with_reducible apply SameExcept.step (dropPaged_frame _ _ _)
    | with_reducible apply doWhen_step
    | dsimp only
    | split

theorem broadcast_frame (c : Call) (s : State) : SameExcept [.bus, .paging, .port] s (broadcast c s) := by
  unfold broadcast
  repeat' first
    | with_reducible apply SameExcept.refl
    | decide
    | with_reducible apply SameExcept.step (offer_frame _ _)
    | with_reducible apply SameExcept.step (updateCall_frame _ _ _)
    | with_reducible apply SameExcept.step (serveCall_frame _ _ _)

theorem enterCall_frame (r : CallReason) (subject : Nat) (group : Option Nat) (urgency : Nat) (s : State) :
    SameExcept [.bus, .paging, .port] s (enterCall r subject group urgency s) := by
  unfold enterCall
  repeat' first
    | with_reducible apply SameExcept.refl
    | decide
    | with_reducible apply SameExcept.step (State.setPaging_frame _ _)
    | with_reducible apply SameExcept.step (pushReport_frame _ _)
    | with_reducible apply SameExcept.step (broadcast_frame _ _)
    | with_reducible apply doWhen_step
    | dsimp only
    | split

theorem makeRoom_frame (u : Nat) (s t : State) (h : makeRoom u s = some t) :
    SameExcept [.bus, .paging, .port] s t := by
  unfold makeRoom at h
  split at h
  · cases h; exact SameExcept.refl _ _
  · split at h
    · split at h
      · cases h
        exact SameExcept.step (pushReport_frame _ _) ((withdrawCall_frame _ _).mono (by decide)) (by decide)
      · cases h
    · cases h

theorem raiseCall_frame (r : CallReason) (subject : Nat) (s : State) :
    SameExcept [.bus, .paging, .port] s (raiseCall r subject s) := by
  unfold raiseCall
  split
  · exact SameExcept.refl _ _
  · split
    · next h =>
        exact SameExcept.step (enterCall_frame _ _ _ _ _) ((makeRoom_frame _ _ _ h).mono (by decide)) (by decide)
    · exact (pushReport_frame _ _).mono (by decide)

theorem cancelCall_frame (r : CallReason) (subject : Nat) (s : State) :
    SameExcept [.bus, .paging] s (cancelCall r subject s) := by
  unfold cancelCall
  repeat' first
    | with_reducible apply SameExcept.refl
    | decide
    | with_reducible apply SameExcept.step (withdrawCall_frame _ _)
    | with_reducible apply doWhen_step
    | dsimp only
    | split

theorem endWait_frame (s : State) : SameExcept [.paging] s (endWait s) := by
  unfold endWait
  repeat' first
    | with_reducible apply SameExcept.refl
    | decide
    | with_reducible apply SameExcept.step (State.setPaging_frame _ _)

theorem pageSent_frame (c : Paged) (address : Nat) (s : State) :
    SameExcept [.bus, .paging, .port] s (pageSent c address s) := by
  unfold pageSent
  repeat' first
    | with_reducible apply SameExcept.refl
    | decide
    | with_reducible apply SameExcept.step (updatePaged_frame _ _ _)
    | with_reducible apply SameExcept.step (tellOrigin_frame _ _ _ _)
    | with_reducible apply doWhen_step
    | dsimp only
    | split

theorem pageBusy_frame (c : Paged) (s : State) : SameExcept [.bus, .paging, .port] s (pageBusy c s) := by
  unfold pageBusy
  repeat' first
    | with_reducible apply SameExcept.refl
    | decide
    | with_reducible apply SameExcept.step (updatePaged_frame _ _ _)
    | with_reducible apply SameExcept.step (finishPaged_frame _ _ _ _)
    | with_reducible apply doWhen_step
    | dsimp only
    | split

theorem sendResult_frame (tag : Nat) (address : Nat) (r : ModemResult) (s : State) :
    SameExcept [.bus, .paging, .port] s (sendResult tag address r s) := by
  unfold sendResult
  repeat' first
    | with_reducible apply SameExcept.refl
    | decide
    | with_reducible apply SameExcept.step (finishPaged_frame _ _ _ _)
    | with_reducible apply SameExcept.step (pageSent_frame _ _ _)
    | with_reducible apply SameExcept.step (pageBusy_frame _ _)
    | with_reducible apply doWhen_step
    | dsimp only
    | split

theorem allResult_frame (r : ModemResult) (s : State) : SameExcept [.paging] s (allResult r s) := by
  unfold allResult
  repeat' first
    | with_reducible apply SameExcept.refl
    | decide
    | with_reducible apply SameExcept.step (State.setPaging_frame _ _)
    | with_reducible apply doWhen_step
    | dsimp only
    | split

theorem recordResult_frame (rec : OutRecord) (r : ModemResult) (s : State) :
    SameExcept [.bus, .paging, .port] s (recordResult rec r s) := by
  unfold recordResult
  repeat' first
    | with_reducible apply SameExcept.refl
    | decide
    | with_reducible apply SameExcept.step (sendResult_frame _ _ _ _)
    | with_reducible apply SameExcept.step (allResult_frame _ _)
    | with_reducible apply doWhen_step
    | dsimp only
    | split

theorem failAll_frame (cs : List Paged) (s : State) : SameExcept [.bus, .paging, .port] s (failAll cs s) := by
  induction cs generalizing s with
  | nil => exact SameExcept.refl _ _
  | cons c cs ih =>
    unfold failAll
    exact SameExcept.step (ih _) ((finishPaged_frame _ _ _ _).mono (by decide)) (by decide)

theorem radioGoesDown_frame (s : State) : SameExcept [.bus, .paging, .port] s (radioGoesDown s) := by
  unfold radioGoesDown
  repeat' first
    | with_reducible apply SameExcept.refl
    | decide
    | with_reducible apply SameExcept.step (State.setPaging_frame _ _)
    | with_reducible apply SameExcept.step (pushReport_frame _ _)
    | with_reducible apply SameExcept.step (failAll_frame _ _)

theorem noteFailure_frame (s : State) : SameExcept [.bus, .paging, .port] s (noteFailure s) := by
  unfold noteFailure
  repeat' first
    | with_reducible apply SameExcept.refl
    | decide
    | with_reducible apply SameExcept.step (State.setPaging_frame _ _)
    | with_reducible apply SameExcept.step (radioGoesDown_frame _)
    | with_reducible apply doWhen_step

theorem clearFailures_frame (s : State) : SameExcept [.paging] s (clearFailures s) := by
  unfold clearFailures
  repeat' first
    | with_reducible apply SameExcept.refl
    | decide
    | with_reducible apply SameExcept.step (State.setPaging_frame _ _)

theorem countResult_frame (r : ModemResult) (s : State) : SameExcept [.bus, .paging, .port] s (countResult r s) := by
  cases r
  · exact (clearFailures_frame s).mono (by decide)
  · exact (clearFailures_frame s).mono (by decide)
  · exact noteFailure_frame s

theorem settleRecord_frame (rec : OutRecord) (r : ModemResult) (s : State) :
    SameExcept [.bus, .paging, .port] s (settleRecord rec r s) := by
  unfold settleRecord
  repeat' first
    | with_reducible apply SameExcept.refl
    | decide
    | with_reducible apply SameExcept.step (arbitrate_frame _)
    | with_reducible apply SameExcept.step (endWait_frame _)
    | with_reducible apply SameExcept.step (recordResult_frame _ _ _)
    | with_reducible apply SameExcept.step (countResult_frame _ _)

theorem stopCollecting_frame (s : State) : SameExcept [.paging] s (stopCollecting s) := by
  unfold stopCollecting
  repeat' first
    | with_reducible apply SameExcept.refl
    | decide
    | with_reducible apply SameExcept.step (State.setPaging_frame _ _)

theorem endAllCall_frame (timed : Bool) (s : State) : SameExcept [.bus, .paging, .port] s (endAllCall timed s) := by
  unfold endAllCall
  repeat' first
    | with_reducible apply SameExcept.refl
    | decide
    | with_reducible apply SameExcept.step (State.setPaging_frame _ _)
    | with_reducible apply SameExcept.step (pushReport_frame _ _)
    | with_reducible apply SameExcept.step (arbitrate_frame _)

theorem startAllCall_frame (sec : Nat) (s : State) : SameExcept [.bus, .paging, .port] s (startAllCall sec s) := by
  unfold startAllCall
  repeat' first
    | with_reducible apply SameExcept.refl
    | decide
    | with_reducible apply SameExcept.step (State.setPaging_frame _ _)
    | with_reducible apply SameExcept.step (arbitrate_frame _)

theorem setDuty_frame (i : Fin 32) (on : Bool) (s : State) : SameExcept [.paging] s (setDuty i on s) := by
  unfold setDuty
  repeat' first
    | with_reducible apply SameExcept.refl
    | decide
    | with_reducible apply SameExcept.step (State.setPaging_frame _ _)

theorem broadcastExpiry_frame (n : Nat) (s : State) : SameExcept [.bus, .paging, .port] s (broadcastExpiry n s) := by
  unfold broadcastExpiry
  repeat' first
    | with_reducible apply SameExcept.refl
    | decide
    | with_reducible apply SameExcept.step (endCall_frame _ _ _)
    | with_reducible apply SameExcept.step (broadcast_frame _ _)
    | with_reducible apply doWhen_step
    | dsimp only
    | split

theorem markAllDue_frame (s : State) : SameExcept [.paging] s (markAllDue s) := by
  unfold markAllDue
  repeat' first
    | with_reducible apply SameExcept.refl
    | decide
    | with_reducible apply SameExcept.step (State.setPaging_frame _ _)

theorem resultMissing_frame (s : State) : SameExcept [.bus, .paging, .port] s (resultMissing s) := by
  unfold resultMissing
  repeat' first
    | with_reducible apply SameExcept.refl
    | decide
    | with_reducible apply SameExcept.step (settleRecord_frame _ _ _)
    | with_reducible apply doWhen_step
    | dsimp only
    | split

theorem recordSent_frame (s : State) : SameExcept [.paging] s (recordSent s) := by
  unfold recordSent
  repeat' first
    | with_reducible apply SameExcept.refl
    | decide
    | with_reducible apply SameExcept.step (State.setPaging_frame _ _)
    | with_reducible apply doWhen_step
    | dsimp only
    | split

theorem takeResult_frame (tag : Nat) (r : ModemResult) (s : State) :
    SameExcept [.bus, .paging, .port] s (takeResult tag r s) := by
  unfold takeResult
  repeat' first
    | with_reducible apply SameExcept.refl
    | decide
    | with_reducible apply SameExcept.step (settleRecord_frame _ _ _)
    | with_reducible apply doWhen_step
    | dsimp only
    | split

theorem movePointer_frame (address : Nat) (s : State) : SameExcept [.paging] s (movePointer address s) := by
  unfold movePointer
  repeat' first
    | with_reducible apply SameExcept.refl
    | decide
    | with_reducible apply SameExcept.step (State.setPaging_frame _ _)
    | with_reducible apply doWhen_step
    | dsimp only
    | split

theorem takeAck_frame (address : Nat) (tag : Nat) (s : State) :
    SameExcept [.bus, .paging, .port] s (takeAck address tag s) := by
  unfold takeAck
  repeat' first
    | with_reducible apply SameExcept.refl
    | decide
    | with_reducible apply SameExcept.step (finishPaged_frame _ _ _ _)
    | with_reducible apply SameExcept.step (movePointer_frame _ _)
    | with_reducible apply doWhen_step
    | dsimp only
    | split

theorem takeDuty_frame (address : Nat) (on : Bool) (s : State) : SameExcept [.paging] s (takeDuty address on s) := by
  unfold takeDuty
  repeat' first
    | with_reducible apply SameExcept.refl
    | decide
    | with_reducible apply SameExcept.step (setDuty_frame _ _ _)
    | with_reducible apply doWhen_step
    | dsimp only
    | split

theorem takeReady_frame (s : State) : SameExcept [.bus, .paging, .port] s (takeReady s) := by
  unfold takeReady
  repeat' first
    | with_reducible apply SameExcept.refl
    | decide
    | with_reducible apply SameExcept.step (State.setPaging_frame _ _)
    | with_reducible apply SameExcept.step (pushReport_frame _ _)
    | with_reducible apply SameExcept.step (arbitrate_frame _)
    | with_reducible apply SameExcept.step (clearFailures_frame _)
    | with_reducible apply doWhen_step
    | dsimp only
    | split

theorem setChannels_frame (cs : Vector Channel 8) (s : State) : SameExcept [.heat] s (setChannels cs s) := by
  unfold setChannels
  repeat' first
    | with_reducible apply SameExcept.refl
    | decide
    | with_reducible apply SameExcept.step (State.setHeat_frame _ _)

theorem updateChannel_frame (k : Chan) (f : Channel → Channel) (s : State) :
    SameExcept [.heat] s (updateChannel k f s) := by
  unfold updateChannel
  repeat' first
    | with_reducible apply SameExcept.refl
    | decide
    | with_reducible apply SameExcept.step (setChannels_frame _ _)

theorem windowStart_frame (s : State) : SameExcept [.heat] s (windowStart s) := by
  unfold windowStart
  repeat' first
    | with_reducible apply SameExcept.refl
    | decide
    | with_reducible apply SameExcept.step (State.setHeat_frame _ _)

theorem cut_frame (g : Nat) (s : State) : SameExcept [.heat, .port] s (cut g s) := by
  unfold cut
  repeat' first
    | with_reducible apply SameExcept.refl
    | decide
    | with_reducible apply SameExcept.step (State.setHeat_frame _ _)
    | with_reducible apply SameExcept.step (pushReport_frame _ _)
    | with_reducible apply SameExcept.step (setChannels_frame _ _)
    | with_reducible apply doWhen_step
    | dsimp only
    | split

theorem takeGrant_frame (g : Nat) (s : State) : SameExcept [.heat, .port] s (takeGrant g s) := by
  unfold takeGrant
  repeat' first
    | with_reducible apply SameExcept.refl
    | decide
    | with_reducible apply SameExcept.step (State.setHeat_frame _ _)
    | with_reducible apply SameExcept.step (cut_frame _ _)
    | with_reducible apply doWhen_step
    | dsimp only
    | split

theorem computeWants_frame (s : State) : SameExcept [.heat] s (computeWants s) := by
  unfold computeWants
  repeat' first
    | with_reducible apply SameExcept.refl
    | decide
    | with_reducible apply SameExcept.step (setChannels_frame _ _)

theorem ovenDoor_frame (k : Chan) (opened : Bool) (s : State) : SameExcept [.heat] s (ovenDoor k opened s) := by
  unfold ovenDoor
  repeat' first
    | with_reducible apply SameExcept.refl
    | decide
    | with_reducible apply SameExcept.step (updateChannel_frame _ _ _)

theorem warmerDoorFlag_frame (k : Chan) (opened : Bool) (s : State) :
    SameExcept [.heat] s (warmerDoorFlag k opened s) := by
  unfold warmerDoorFlag
  repeat' first
    | with_reducible apply SameExcept.refl
    | decide
    | with_reducible apply SameExcept.step (updateChannel_frame _ _ _)

theorem doorInitially_frame (k : Chan) (opened : Bool) (s : State) :
    SameExcept [.heat] s (doorInitially k opened s) := by
  unfold doorInitially
  repeat' first
    | with_reducible apply SameExcept.refl
    | decide
    | with_reducible apply SameExcept.step (updateChannel_frame _ _ _)

theorem trip_frame (k : Chan) (cause : TripCause) (s : State) :
    SameExcept [.heat, .bus, .paging, .port] s (trip k cause s) := by
  unfold trip
  repeat' first
    | with_reducible apply SameExcept.refl
    | decide
    | with_reducible apply SameExcept.step (pushReport_frame _ _)
    | with_reducible apply SameExcept.step (raiseCall_frame _ _ _)
    | with_reducible apply SameExcept.step (updateChannel_frame _ _ _)

theorem tripCheck_frame (entries : Vector Bool 8) (k : Chan) (s : State) :
    SameExcept [.heat, .bus, .paging, .port] s (tripCheck entries k s) := by
  unfold tripCheck
  repeat' first
    | with_reducible apply SameExcept.refl
    | decide
    | with_reducible apply SameExcept.step (trip_frame _ _ _)
    | with_reducible apply doWhen_step
    | dsimp only
    | split

theorem tripChecks_frame (entries : Vector Bool 8) (s : State) :
    SameExcept [.heat, .bus, .paging, .port] s (tripChecks entries s) := by
  unfold tripChecks
  repeat' first
    | with_reducible apply SameExcept.refl
    | decide
    | with_reducible apply SameExcept.step (tripCheck_frame _ _ _)
    | with_reducible apply doWhen_step
    | with_reducible apply foldl_step
    | with_reducible intro u a

theorem tripsAtJoin_frame (s : State) : SameExcept [.heat, .bus, .paging, .port] s (tripsAtJoin s) := by
  unfold tripsAtJoin
  repeat' first
    | with_reducible apply SameExcept.refl
    | decide
    | with_reducible apply SameExcept.step (trip_frame _ _ _)
    | with_reducible apply doWhen_step
    | with_reducible apply foldl_step
    | with_reducible intro u a
    | dsimp only
    | split

theorem writeTarget_frame (k : Chan) (target : Nat) (s : State) :
    SameExcept [.heat] s (writeTarget k target s).1 := by
  unfold writeTarget
  repeat' first
    | with_reducible apply SameExcept.refl
    | decide
    | with_reducible apply SameExcept.step (updateChannel_frame _ _ _)
    | with_reducible apply doWhen_step
    | dsimp only
    | split

theorem clearTrip_frame (k : Chan) (cause : TripCause) (s : State) :
    SameExcept [.heat, .bus, .paging] s (clearTrip k cause s) := by
  unfold clearTrip
  repeat' first
    | with_reducible apply SameExcept.refl
    | decide
    | with_reducible apply SameExcept.step (cancelCall_frame _ _ _)
    | with_reducible apply SameExcept.step (updateChannel_frame _ _ _)

theorem deliverGrant_frame (s : State) : SameExcept [.heat, .share, .port] s (deliverGrant s) := by
  unfold deliverGrant
  repeat' first
    | with_reducible apply SameExcept.refl
    | decide
    | with_reducible apply SameExcept.step (State.setShare_frame _ _)
    | with_reducible apply SameExcept.step (takeGrant_frame _ _)

theorem startClocks_frame (s : State) : SameExcept [.heat, .share, .stock] s (startClocks s) := by
  unfold startClocks
  repeat' first
    | with_reducible apply SameExcept.refl
    | decide
    | with_reducible apply SameExcept.step (State.setHeat_frame _ _)
    | with_reducible apply SameExcept.step (State.setShare_frame _ _)
    | with_reducible apply SameExcept.step (State.setStock_frame _ _)

theorem endListening_frame (s : State) : SameExcept [.life, .heat, .share, .stock, .port] s (endListening s) := by
  unfold endListening
  repeat' first
    | with_reducible apply SameExcept.refl
    | decide
    | with_reducible apply SameExcept.step (changeStation_frame _ _ _)
    | with_reducible apply SameExcept.step (deliverGrant_frame _)
    | with_reducible apply SameExcept.step (startClocks_frame _)

theorem isolate_frame (s : State) : SameExcept [.life, .heat, .bus, .share, .paging, .port] s (isolate s) := by
  unfold isolate
  repeat' first
    | with_reducible apply SameExcept.refl
    | decide
    | with_reducible apply SameExcept.step (changeStation_frame _ _ _)
    | with_reducible apply SameExcept.step (raiseCall_frame _ _ _)
    | with_reducible apply SameExcept.step (deliverGrant_frame _)

theorem rejoin_frame (s : State) : SameExcept [.life, .heat, .bus, .share, .paging, .port] s (rejoin s) := by
  unfold rejoin
  repeat' first
    | with_reducible apply SameExcept.refl
    | decide
    | with_reducible apply SameExcept.step (changeStation_frame _ _ _)
    | with_reducible apply SameExcept.step (cancelCall_frame _ _ _)
    | with_reducible apply SameExcept.step (deliverGrant_frame _)

theorem announceResult_frame (acked : Bool) (s : State) :
    SameExcept [.life, .heat, .bus, .share, .paging, .port] s (announceResult acked s) := by
  unfold announceResult
  repeat' first
    | with_reducible apply SameExcept.refl
    | decide
    | with_reducible apply SameExcept.step (State.setShare_frame _ _)
    | with_reducible apply SameExcept.step (isolate_frame _)
    | with_reducible apply SameExcept.step (rejoin_frame _)
    | with_reducible apply doWhen_step
    | dsimp only
    | split

theorem offerAnnounce_frame (s : State) : SameExcept [.bus, .share] s (offerAnnounce s) := by
  unfold offerAnnounce
  repeat' first
    | with_reducible apply SameExcept.refl
    | decide
    | with_reducible apply SameExcept.step (State.setShare_frame _ _)
    | with_reducible apply SameExcept.step (offer_frame _ _)
    | with_reducible apply doWhen_step

theorem formAsks_frame (s : State) : SameExcept [.heat, .share] s (formAsks s) := by
  unfold formAsks
  repeat' first
    | with_reducible apply SameExcept.refl
    | decide
    | with_reducible apply SameExcept.step (State.setShare_frame _ _)
    | with_reducible apply SameExcept.step (computeWants_frame _)

theorem offerStock_frame (s : State) : SameExcept [.bus, .stock] s (offerStock s) := by
  unfold offerStock
  repeat' first
    | with_reducible apply SameExcept.refl
    | decide
    | with_reducible apply SameExcept.step (State.setStock_frame _ _)
    | with_reducible apply SameExcept.step (offer_frame _ _)
    | with_reducible apply doWhen_step

theorem announceTick_frame (s : State) : SameExcept [.heat, .bus, .share, .stock, .port] s (announceTick s) := by
  unfold announceTick
  repeat' first
    | with_reducible apply SameExcept.refl
    | decide
    | with_reducible apply SameExcept.step (deliverGrant_frame _)
    | with_reducible apply SameExcept.step (offerAnnounce_frame _)
    | with_reducible apply SameExcept.step (formAsks_frame _)
    | with_reducible apply SameExcept.step (offerStock_frame _)
    | with_reducible apply doWhen_step

theorem stockTick_frame (s : State) : SameExcept [.bus, .stock] s (stockTick s) := by
  unfold stockTick
  repeat' first
    | with_reducible apply SameExcept.refl
    | decide
    | with_reducible apply SameExcept.step (State.setStock_frame _ _)
    | with_reducible apply SameExcept.step (offerStock_frame _)

theorem changeStock_frame (t : Stock) (s : State) : SameExcept [.stock] s (changeStock t s) := by
  unfold changeStock
  repeat' first
    | with_reducible apply SameExcept.refl
    | decide
    | with_reducible apply SameExcept.step (State.setStock_frame _ _)

theorem publishClean_frame (s : State) : SameExcept [.stock] s (publishClean s) := by
  unfold publishClean
  repeat' first
    | with_reducible apply SameExcept.refl
    | decide
    | with_reducible apply SameExcept.step (State.setStock_frame _ _)

theorem updateWave_frame (n : Nat) (f : Wave → Wave) (s : State) : SameExcept [.waves] s (updateWave n f s) := by
  unfold updateWave
  repeat' first
    | with_reducible apply SameExcept.refl
    | decide
    | with_reducible apply SameExcept.step (State.setWaves_frame _ _)

theorem renewHold_frame (h : Hold) (asker : Nat) (b : HoldAskBody) (s : State) :
    SameExcept [.stock] s (renewHold h asker b s).1 := by
  unfold renewHold
  repeat' first
    | with_reducible apply SameExcept.refl
    | decide
    | with_reducible apply SameExcept.step (changeStock_frame _ _)
    | with_reducible apply doWhen_step
    | dsimp only
    | split

theorem createHold_frame (k : Chan) (asker : Nat) (b : HoldAskBody) (s : State) :
    SameExcept [.stock] s (createHold k asker b s).1 := by
  unfold createHold
  repeat' first
    | with_reducible apply SameExcept.refl
    | decide
    | with_reducible apply SameExcept.step (changeStock_frame _ _)
    | with_reducible apply doWhen_step
    | dsimp only
    | split

theorem askHold_frame (asker : Nat) (b : HoldAskBody) (s : State) : SameExcept [.stock] s (askHold asker b s).1 := by
  unfold askHold
  repeat' first
    | with_reducible apply SameExcept.refl
    | decide
    | with_reducible apply SameExcept.step (renewHold_frame _ _ _ _)
    | with_reducible apply SameExcept.step (createHold_frame _ _ _ _)
    | with_reducible apply doWhen_step
    | dsimp only
    | split

theorem freeHold_frame (asker : Nat) (tag : Nat) (wave : Nat) (channel : Nat) (s : State) :
    SameExcept [.stock] s (freeHold asker tag wave channel s) := by
  unfold freeHold
  repeat' first
    | with_reducible apply SameExcept.refl
    | decide
    | with_reducible apply SameExcept.step (changeStock_frame _ _)

theorem sendFree_frame (station : Nat) (tag : Nat) (wave : Nat) (channel : Nat) (s : State) :
    SameExcept [.bus, .stock] s (sendFree station tag wave channel s) := by
  unfold sendFree
  repeat' first
    | with_reducible apply SameExcept.refl
    | decide
    | with_reducible apply SameExcept.step (offer_frame _ _)
    | with_reducible apply SameExcept.step (freeHold_frame _ _ _ _ _)
    | with_reducible apply doWhen_step
    | dsimp only
    | split

theorem takeAnswer_frame (sender : Nat) (b : HoldAnswerBody) (s : State) :
    SameExcept [.bus, .stock, .waves, .port] s (takeAnswer sender b s) := by
  unfold takeAnswer
  repeat' first
    | with_reducible apply SameExcept.refl
    | decide
    | with_reducible apply SameExcept.step (pushReport_frame _ _)
    | with_reducible apply SameExcept.step (updateWave_frame _ _ _)
    | with_reducible apply SameExcept.step (sendFree_frame _ _ _ _ _)
    | with_reducible apply doWhen_step
    | dsimp only
    | split

theorem takeHoldState_frame (sender : Nat) (b : HoldStateBody) (s : State) :
    SameExcept [.waves] s (takeHoldState sender b s) := by
  unfold takeHoldState
  repeat' first
    | with_reducible apply SameExcept.refl
    | decide
    | with_reducible apply SameExcept.step (updateWave_frame _ _ _)
    | with_reducible apply doWhen_step
    | dsimp only
    | split

theorem tellAsker_frame (h : Hold) (cause : Nat) (count : Nat) (s : State) :
    SameExcept [.bus, .waves] s (tellAsker h cause count s) := by
  unfold tellAsker
  repeat' first
    | with_reducible apply SameExcept.refl
    | decide
    | with_reducible apply SameExcept.step (offer_frame _ _)
    | with_reducible apply SameExcept.step (takeHoldState_frame _ _ _)
    | with_reducible apply doWhen_step
    | dsimp only
    | split

theorem answerPeer_frame (sender : Nat) (b : HoldAskBody) (s : State) :
    SameExcept [.bus, .stock] s (answerPeer sender b s) := by
  unfold answerPeer
  repeat' first
    | with_reducible apply SameExcept.refl
    | decide
    | with_reducible apply SameExcept.step (offer_frame _ _)
    | with_reducible apply SameExcept.step (askHold_frame _ _ _)

theorem goneNotice_frame (id : Nat) (s : State) : SameExcept [.stock, .waves] s (goneNotice id s) := by
  unfold goneNotice
  repeat' first
    | with_reducible apply SameExcept.refl
    | decide
    | with_reducible apply SameExcept.step (State.setWaves_frame _ _)
    | with_reducible apply SameExcept.step (changeStock_frame _ _)

theorem sweepWarmer_frame (k : Chan) (s : State) : SameExcept [.stock] s (sweepWarmer k s) := by
  unfold sweepWarmer
  repeat' first
    | with_reducible apply SameExcept.refl
    | decide
    | with_reducible apply SameExcept.step (changeStock_frame _ _)
    | with_reducible apply doWhen_step
    | dsimp only
    | split

theorem sweepStock_frame (s : State) : SameExcept [.stock] s (sweepStock s) := by
  unfold sweepStock
  repeat' first
    | with_reducible apply SameExcept.refl
    | decide
    | with_reducible apply SameExcept.step (sweepWarmer_frame _ _)
    | with_reducible apply doWhen_step
    | with_reducible apply foldl_step
    | with_reducible intro u a

theorem trimHolds_frame (hs : List Hold) (e : Nat) (r : Nat × State) :
    SameExcept [.bus, .stock, .waves] r.2 (trimHolds hs e r).2 := by
  induction hs generalizing e r with
  | nil => exact SameExcept.refl _ _
  | cons h hs ih =>
    unfold trimHolds
    dsimp only
    split
    · exact ih _ _
    · refine SameExcept.step (ih _ _) ?_ (by decide)
      exact SameExcept.step (tellAsker_frame _ _ _ _) ((changeStock_frame _ _).mono (by decide)) (by decide)

theorem trimChannel_frame (k : Chan) (s : State) : SameExcept [.bus, .stock, .waves] s (trimChannel k s).2 :=
  trimHolds_frame _ _ (0, s)

theorem uncredit_frame (k : Chan) (s : State) : SameExcept [.stock] s (uncredit k s) := by
  unfold uncredit
  repeat' first
    | with_reducible apply SameExcept.refl
    | decide
    | with_reducible apply SameExcept.step (changeStock_frame _ _)

theorem coolingReset_frame (k : Chan) (s : State) :
    SameExcept [.bus, .stock, .waves, .port] s (coolingReset k s) := by
  unfold coolingReset
  repeat' first
    | with_reducible apply SameExcept.refl
    | decide
    | with_reducible apply SameExcept.step (pushReport_frame _ _)
    | with_reducible apply SameExcept.step (trimChannel_frame _ _)
    | with_reducible apply SameExcept.step (uncredit_frame _ _)
    | with_reducible apply doWhen_step

theorem expireHold_frame (tag : Nat) (s : State) : SameExcept [.bus, .stock, .waves] s (expireHold tag s) := by
  unfold expireHold
  repeat' first
    | with_reducible apply SameExcept.refl
    | decide
    | with_reducible apply SameExcept.step (changeStock_frame _ _)
    | with_reducible apply SameExcept.step (tellAsker_frame _ _ _ _)
    | with_reducible apply doWhen_step
    | dsimp only
    | split

theorem warmerDoorState_frame (k : Chan) (opened : Bool) (s : State) :
    SameExcept [.stock] s (warmerDoorState k opened s) := by
  unfold warmerDoorState
  repeat' first
    | with_reducible apply SameExcept.refl
    | decide
    | with_reducible apply SameExcept.step (State.setStock_frame _ _)

theorem sendAsk_frame (second : Bool) (w : Wave) (r : Source) (need : Nat) (s : State) :
    SameExcept [.bus, .stock, .waves, .port] s (sendAsk second w r need s) := by
  unfold sendAsk
  repeat' first
    | with_reducible apply SameExcept.refl
    | decide
    | with_reducible apply SameExcept.step (offer_frame _ _)
    | with_reducible apply SameExcept.step (updateWave_frame _ _ _)
    | with_reducible apply SameExcept.step (askHold_frame _ _ _)
    | with_reducible apply SameExcept.step (takeAnswer_frame _ _ _)
    | with_reducible apply doWhen_step
    | dsimp only
    | split

theorem giveUp_frame (w : Wave) (r : Source) (tag : Nat) (s : State) :
    SameExcept [.bus, .stock, .waves] s (giveUp w r tag s) := by
  unfold giveUp
  repeat' first
    | with_reducible apply SameExcept.refl
    | decide
    | with_reducible apply SameExcept.step (updateWave_frame _ _ _)
    | with_reducible apply SameExcept.step (sendFree_frame _ _ _ _ _)

theorem checkSource_frame (second : Bool) (w : Wave) (s : State) :
    SameExcept [.bus, .stock, .waves, .port] s (checkSource second w s) := by
  unfold checkSource
  repeat' first
    | with_reducible apply SameExcept.refl
    | decide
    | with_reducible apply SameExcept.step (sendAsk_frame _ _ _ _ _)
    | with_reducible apply SameExcept.step (giveUp_frame _ _ _ _)
    | with_reducible apply doWhen_step
    | dsimp only
    | split

theorem askSources_frame (n : Nat) (s : State) : SameExcept [.bus, .stock, .waves, .port] s (askSources n s) := by
  unfold askSources
  repeat' first
    | with_reducible apply SameExcept.refl
    | decide
    | with_reducible apply SameExcept.step (checkSource_frame _ _ _)
    | with_reducible apply doWhen_step
    | with_reducible apply onWave_step
    | with_reducible intro w

theorem cancelShortage_frame (n : Nat) (s : State) : SameExcept [.bus, .paging] s (cancelShortage n s) := by
  unfold cancelShortage
  repeat' first
    | with_reducible apply SameExcept.refl
    | decide
    | with_reducible apply SameExcept.step (cancelCall_frame _ _ _)

theorem waveCovered_frame (w : Wave) (s : State) : SameExcept [.bus, .waves, .paging, .port] s (waveCovered w s) := by
  unfold waveCovered
  repeat' first
    | with_reducible apply SameExcept.refl
    | decide
    | with_reducible apply SameExcept.step (pushReport_frame _ _)
    | with_reducible apply SameExcept.step (updateWave_frame _ _ _)
    | with_reducible apply SameExcept.step (cancelShortage_frame _ _)
    | with_reducible apply doWhen_step

theorem waveShort_frame (w : Wave) (s : State) : SameExcept [.bus, .waves, .paging, .port] s (waveShort w s) := by
  unfold waveShort
  repeat' first
    | with_reducible apply SameExcept.refl
    | decide
    | with_reducible apply SameExcept.step (pushReport_frame _ _)
    | with_reducible apply SameExcept.step (raiseCall_frame _ _ _)
    | with_reducible apply SameExcept.step (cancelCall_frame _ _ _)
    | with_reducible apply SameExcept.step (updateWave_frame _ _ _)
    | with_reducible apply doWhen_step

theorem shortageCheck_frame (n : Nat) (s : State) :
    SameExcept [.bus, .waves, .paging, .port] s (shortageCheck n s) := by
  unfold shortageCheck
  repeat' first
    | with_reducible apply SameExcept.refl
    | decide
    | with_reducible apply SameExcept.step (updateWave_frame _ _ _)
    | with_reducible apply SameExcept.step (waveCovered_frame _ _)
    | with_reducible apply SameExcept.step (waveShort_frame _ _)
    | with_reducible apply doWhen_step
    | with_reducible apply onWave_step
    | with_reducible intro w
    | dsimp only
    | split

theorem firstShortage_frame (n : Nat) (s : State) :
    SameExcept [.bus, .waves, .paging, .port] s (firstShortage n s) := by
  unfold firstShortage
  repeat' first
    | with_reducible apply SameExcept.refl
    | decide
    | with_reducible apply SameExcept.step (shortageCheck_frame _ _)
    | with_reducible apply doWhen_step
    | with_reducible apply onWave_step
    | with_reducible intro w

theorem writeOvenTarget_frame (w : Wave) (s : State) : SameExcept [.heat, .port] s (writeOvenTarget w s) := by
  unfold writeOvenTarget
  repeat' first
    | with_reducible apply SameExcept.refl
    | decide
    | with_reducible apply SameExcept.step (pushReport_frame _ _)
    | with_reducible apply SameExcept.step (writeTarget_frame _ _ _)
    | with_reducible apply doWhen_step
    | dsimp only
    | split

theorem enterPreheat_frame (n : Nat) (s : State) :
    SameExcept [.heat, .bus, .stock, .waves, .paging, .port] s (enterPreheat n s) := by
  unfold enterPreheat
  repeat' first
    | with_reducible apply SameExcept.refl
    | decide
    | with_reducible apply SameExcept.step (pushReport_frame _ _)
    | with_reducible apply SameExcept.step (updateWave_frame _ _ _)
    | with_reducible apply SameExcept.step (askSources_frame _ _)
    | with_reducible apply SameExcept.step (firstShortage_frame _ _)
    | with_reducible apply SameExcept.step (writeOvenTarget_frame _ _)
    | with_reducible apply doWhen_step
    | with_reducible apply onWave_step
    | with_reducible intro w

theorem enterFireDue_frame (n : Nat) (s : State) :
    SameExcept [.bus, .waves, .paging, .port] s (enterFireDue n s) := by
  unfold enterFireDue
  repeat' first
    | with_reducible apply SameExcept.refl
    | decide
    | with_reducible apply SameExcept.step (pushReport_frame _ _)
    | with_reducible apply SameExcept.step (raiseCall_frame _ _ _)
    | with_reducible apply SameExcept.step (updateWave_frame _ _ _)
    | with_reducible apply doWhen_step
    | with_reducible apply onWave_step
    | with_reducible intro w

theorem makeLate_frame (n : Nat) (s : State) : SameExcept [.bus, .waves, .paging, .port] s (makeLate n s) := by
  unfold makeLate
  repeat' first
    | with_reducible apply SameExcept.refl
    | decide
    | with_reducible apply SameExcept.step (pushReport_frame _ _)
    | with_reducible apply SameExcept.step (raiseCall_frame _ _ _)
    | with_reducible apply SameExcept.step (updateWave_frame _ _ _)
    | with_reducible apply doWhen_step
    | with_reducible apply onWave_step
    | with_reducible intro w

theorem judgeWave_frame (n : Nat) (s : State) :
    SameExcept [.heat, .bus, .stock, .waves, .paging, .port] s (judgeWave n s) := by
  unfold judgeWave
  repeat' first
    | with_reducible apply SameExcept.refl
    | decide
    | with_reducible apply SameExcept.step (firstShortage_frame _ _)
    | with_reducible apply SameExcept.step (enterPreheat_frame _ _)
    | with_reducible apply SameExcept.step (enterFireDue_frame _ _)
    | with_reducible apply SameExcept.step (makeLate_frame _ _)
    | with_reducible apply doWhen_step
    | with_reducible apply onWave_step
    | with_reducible intro w

theorem judgeWaves_frame (s : State) : SameExcept [.heat, .bus, .stock, .waves, .paging, .port] s (judgeWaves s) := by
  unfold judgeWaves
  repeat' first
    | with_reducible apply SameExcept.refl
    | decide
    | with_reducible apply SameExcept.step (judgeWave_frame _ _)
    | with_reducible apply doWhen_step
    | with_reducible apply foldl_step
    | with_reducible intro u a

theorem clockSecond_frame (s : State) :
    SameExcept [.life, .heat, .bus, .stock, .waves, .paging, .port] s (clockSecond s) := by
  unfold clockSecond
  repeat' first
    | with_reducible apply SameExcept.refl
    | decide
    | with_reducible apply SameExcept.step (State.setLife_frame _ _)
    | with_reducible apply SameExcept.step (judgeWaves_frame _)

theorem cookEnds_frame (n : Nat) (s : State) : SameExcept [.bus, .waves, .paging, .port] s (cookEnds n s) := by
  unfold cookEnds
  repeat' first
    | with_reducible apply SameExcept.refl
    | decide
    | with_reducible apply SameExcept.step (pushReport_frame _ _)
    | with_reducible apply SameExcept.step (raiseCall_frame _ _ _)
    | with_reducible apply SameExcept.step (updateWave_frame _ _ _)
    | with_reducible apply doWhen_step
    | with_reducible apply onWave_step
    | with_reducible intro w

theorem cookSecond_frame (n : Nat) (s : State) : SameExcept [.bus, .waves, .paging, .port] s (cookSecond n s) := by
  unfold cookSecond
  repeat' first
    | with_reducible apply SameExcept.refl
    | decide
    | with_reducible apply SameExcept.step (updateWave_frame _ _ _)
    | with_reducible apply SameExcept.step (cookEnds_frame _ _)
    | with_reducible apply doWhen_step
    | with_reducible apply onWave_step
    | with_reducible intro w

theorem askCheck_frame (n : Nat) (s : State) :
    SameExcept [.bus, .stock, .waves, .paging, .port] s (askCheck n s) := by
  unfold askCheck
  repeat' first
    | with_reducible apply SameExcept.refl
    | decide
    | with_reducible apply SameExcept.step (updateWave_frame _ _ _)
    | with_reducible apply SameExcept.step (askSources_frame _ _)
    | with_reducible apply SameExcept.step (shortageCheck_frame _ _)
    | with_reducible apply doWhen_step
    | with_reducible apply onWave_step
    | with_reducible intro w

theorem answerExpiry_frame (n : Nat) (second : Bool) (s : State) :
    SameExcept [.waves] s (answerExpiry n second s) := by
  unfold answerExpiry
  repeat' first
    | with_reducible apply SameExcept.refl
    | decide
    | with_reducible apply SameExcept.step (updateWave_frame _ _ _)

theorem startCooking_frame (n : Nat) (s : State) : SameExcept [.waves] s (startCooking n s) := by
  unfold startCooking
  repeat' first
    | with_reducible apply SameExcept.refl
    | decide
    | with_reducible apply SameExcept.step (updateWave_frame _ _ _)

theorem reportFired_frame (n : Nat) (before : WaveState) (s : State) :
    SameExcept [.port] s (reportFired n before s) := by
  unfold reportFired
  repeat' first
    | with_reducible apply SameExcept.refl
    | decide
    | with_reducible apply SameExcept.step (pushReport_frame _ _)
    | with_reducible apply doWhen_step
    | with_reducible apply onWave_step
    | with_reducible intro w

theorem fireFromPlanned_frame (w : Wave) (s : State) :
    SameExcept [.heat, .bus, .stock, .waves, .paging, .port] s (fireFromPlanned w s) := by
  unfold fireFromPlanned
  repeat' first
    | with_reducible apply SameExcept.refl
    | decide
    | with_reducible apply SameExcept.step (updateWave_frame _ _ _)
    | with_reducible apply SameExcept.step (askSources_frame _ _)
    | with_reducible apply SameExcept.step (firstShortage_frame _ _)
    | with_reducible apply SameExcept.step (writeOvenTarget_frame _ _)
    | with_reducible apply SameExcept.step (startCooking_frame _ _)
    | with_reducible apply SameExcept.step (reportFired_frame _ _ _)

theorem plateWave_frame (w : Wave) (s : State) : SameExcept [.bus, .waves, .paging, .port] s (plateWave w s) := by
  unfold plateWave
  repeat' first
    | with_reducible apply SameExcept.refl
    | decide
    | with_reducible apply SameExcept.step (pushReport_frame _ _)
    | with_reducible apply SameExcept.step (cancelCall_frame _ _ _)
    | with_reducible apply SameExcept.step (updateWave_frame _ _ _)
    | with_reducible apply SameExcept.step (cancelShortage_frame _ _)

theorem freeSource_frame (n : Nat) (r : Source) (s : State) : SameExcept [.bus, .stock] s (freeSource n r s) := by
  unfold freeSource
  repeat' first
    | with_reducible apply SameExcept.refl
    | decide
    | with_reducible apply SameExcept.step (sendFree_frame _ _ _ _ _)
    | with_reducible apply doWhen_step
    | dsimp only
    | split

theorem freeSources_frame (w : Wave) (s : State) : SameExcept [.bus, .stock] s (freeSources w s) := by
  unfold freeSources
  repeat' first
    | with_reducible apply SameExcept.refl
    | decide
    | with_reducible apply SameExcept.step (freeSource_frame _ _ _)
    | with_reducible apply doWhen_step
    | dsimp only
    | split

theorem dropWave_frame (n : Nat) (s : State) : SameExcept [.waves] s (dropWave n s) := by
  unfold dropWave
  repeat' first
    | with_reducible apply SameExcept.refl
    | decide
    | with_reducible apply SameExcept.step (State.setWaves_frame _ _)

theorem closeWave_frame (w : Wave) (s : State) :
    SameExcept [.bus, .stock, .waves, .paging, .port] s (closeWave w s) := by
  unfold closeWave
  repeat' first
    | with_reducible apply SameExcept.refl
    | decide
    | with_reducible apply SameExcept.step (pushReport_frame _ _)
    | with_reducible apply SameExcept.step (cancelCall_frame _ _ _)
    | with_reducible apply SameExcept.step (cancelShortage_frame _ _)
    | with_reducible apply SameExcept.step (freeSources_frame _ _)
    | with_reducible apply SameExcept.step (dropWave_frame _ _)

theorem cancelWave_frame (w : Wave) (s : State) :
    SameExcept [.bus, .stock, .waves, .paging, .port] s (cancelWave w s) := by
  unfold cancelWave
  repeat' first
    | with_reducible apply SameExcept.refl
    | decide
    | with_reducible apply SameExcept.step (pushReport_frame _ _)
    | with_reducible apply SameExcept.step (cancelCall_frame _ _ _)
    | with_reducible apply SameExcept.step (cancelShortage_frame _ _)
    | with_reducible apply SameExcept.step (freeSources_frame _ _)
    | with_reducible apply SameExcept.step (dropWave_frame _ _)

theorem updateDish_frame (f : Dish → Dish) (s : State) : SameExcept [.dish] s (updateDish f s) := by
  unfold updateDish
  repeat' first
    | with_reducible apply SameExcept.refl
    | decide
    | with_reducible apply SameExcept.step (State.setDish_frame _ _)

theorem updateHolds_frame (f : HoldSet → HoldSet) (s : State) : SameExcept [.dish] s (updateHolds f s) := by
  unfold updateHolds
  repeat' first
    | with_reducible apply SameExcept.refl
    | decide
    | with_reducible apply SameExcept.step (updateDish_frame _ _)

theorem dishEvent_frame {bs : List Block} {f : State → State} (hf : ∀ t, SameExcept bs t (f t))
    (hb : ∀ b ∈ [Block.dish, .stock], b ∈ bs) (s : State) : SameExcept bs s (dishEvent f s) := by
  unfold dishEvent
  refine SameExcept.step (publishClean_frame _) ?_ (fun b hm => hb b (by revert hm; cases b <;> decide))
  refine doWhen_step (hf s) ?_
  exact (updateDish_frame _ _).mono (fun b hm => hb b (by revert hm; cases b <;> decide))

/-- A dish event at the end of a frame. -/
theorem dishEvent_step {bs : List Block} {s t : State} {f : State → State} (h : SameExcept bs s t)
    (hf : ∀ t, SameExcept bs t (f t)) (hb : ∀ b ∈ [Block.dish, .stock], b ∈ bs) : SameExcept bs s (dishEvent f t) :=
  h.trans (dishEvent_frame hf hb t)

theorem register_frame (s : State) : SameExcept [.dish] s (register s) := by
  unfold register
  repeat' first
    | with_reducible apply SameExcept.refl
    | decide
    | with_reducible apply SameExcept.step (updateDish_frame _ _)
    | with_reducible apply doWhen_step

theorem endRinse_frame (s : State) : SameExcept [.bus, .dish, .paging] s (endRinse s) := by
  unfold endRinse
  repeat' first
    | with_reducible apply SameExcept.refl
    | decide
    | with_reducible apply SameExcept.step (cancelCall_frame _ _ _)
    | with_reducible apply SameExcept.step (updateDish_frame _ _)

theorem judgeRinse_frame (booster : Temp) (flag : Bool) (s : State) :
    SameExcept [.bus, .dish, .paging] s (judgeRinse booster flag s) := by
  unfold judgeRinse
  repeat' first
    | with_reducible apply SameExcept.refl
    | decide
    | with_reducible apply SameExcept.step (updateHolds_frame _ _)
    | with_reducible apply SameExcept.step (endRinse_frame _)
    | with_reducible apply doWhen_step
    | dsimp only
    | split

theorem sampleRacks_frame (tank : Temp) (booster : Temp) (tankFlag : Bool) (boosterFlag : Bool) (s : State) :
    SameExcept [.dish] s (sampleRacks tank booster tankFlag boosterFlag s) := by
  unfold sampleRacks
  repeat' first
    | with_reducible apply SameExcept.refl
    | decide
    | with_reducible apply SameExcept.step (updateDish_frame _ _)

theorem sweepDish_frame (s : State) : SameExcept [.bus, .dish, .stock, .paging] s (sweepDish s) := by
  unfold sweepDish
  repeat' first
    | with_reducible apply SameExcept.refl
    | decide
    | with_reducible apply dishEvent_step
    | with_reducible intro t
    | with_reducible apply SameExcept.step (judgeRinse_frame _ _ _)
    | with_reducible apply SameExcept.step (sampleRacks_frame _ _ _ _ _)
    | with_reducible apply doWhen_step
    | dsimp only
    | split

theorem entryActive_frame (s : State) : SameExcept [.bus, .dish, .paging, .port] s (entryActive s) := by
  unfold entryActive
  repeat' first
    | with_reducible apply SameExcept.refl
    | decide
    | with_reducible apply SameExcept.step (raiseCall_frame _ _ _)
    | with_reducible apply SameExcept.step (updateHolds_frame _ _)
    | with_reducible apply SameExcept.step (register_frame _)
    | with_reducible apply doWhen_step
    | dsimp only
    | split

theorem releaseEntry_frame (s : State) : SameExcept [.bus, .dish, .paging] s (releaseEntry s) := by
  unfold releaseEntry
  repeat' first
    | with_reducible apply SameExcept.refl
    | decide
    | with_reducible apply SameExcept.step (cancelCall_frame _ _ _)
    | with_reducible apply SameExcept.step (updateHolds_frame _ _)
    | with_reducible apply SameExcept.step (register_frame _)
    | with_reducible apply doWhen_step

theorem removeFront_frame (r : Rack) (s : State) : SameExcept [.bus, .dish, .paging] s (removeFront r s) := by
  unfold removeFront
  repeat' first
    | with_reducible apply SameExcept.refl
    | decide
    | with_reducible apply SameExcept.step (updateDish_frame _ _)
    | with_reducible apply SameExcept.step (releaseEntry_frame _)

theorem arriveAtExit_frame (r : Rack) (s : State) : SameExcept [.dish, .port] s (arriveAtExit r s) := by
  unfold arriveAtExit
  repeat' first
    | with_reducible apply SameExcept.refl
    | decide
    | with_reducible apply SameExcept.step (pushReport_frame _ _)
    | with_reducible apply SameExcept.step (updateDish_frame _ _)

theorem exitActive_frame (s : State) : SameExcept [.dish, .port] s (exitActive s) := by
  unfold exitActive
  repeat' first
    | with_reducible apply SameExcept.refl
    | decide
    | with_reducible apply SameExcept.step (pushReport_frame _ _)
    | with_reducible apply SameExcept.step (arriveAtExit_frame _ _)
    | with_reducible apply doWhen_step
    | dsimp only
    | split

theorem exitInactive_frame (s : State) : SameExcept [.bus, .dish, .paging] s (exitInactive s) := by
  unfold exitInactive
  repeat' first
    | with_reducible apply SameExcept.refl
    | decide
    | with_reducible apply SameExcept.step (updateHolds_frame _ _)
    | with_reducible apply SameExcept.step (removeFront_frame _ _)
    | with_reducible apply doWhen_step
    | dsimp only
    | split

theorem missExit_frame (r : Rack) (s : State) : SameExcept [.bus, .dish, .paging, .port] s (missExit r s) := by
  unfold missExit
  repeat' first
    | with_reducible apply SameExcept.refl
    | decide
    | with_reducible apply SameExcept.step (pushReport_frame _ _)
    | with_reducible apply SameExcept.step (updateDish_frame _ _)
    | with_reducible apply SameExcept.step (removeFront_frame _ _)

theorem advanceRacks_frame (s : State) : SameExcept [.dish] s (advanceRacks s) := by
  unfold advanceRacks
  repeat' first
    | with_reducible apply SameExcept.refl
    | decide
    | with_reducible apply SameExcept.step (updateDish_frame _ _)

theorem testMissed_frame (s : State) : SameExcept [.bus, .dish, .paging, .port] s (testMissed s) := by
  unfold testMissed
  repeat' first
    | with_reducible apply SameExcept.refl
    | decide
    | with_reducible apply SameExcept.step (missExit_frame _ _)
    | with_reducible apply doWhen_step
    | dsimp only
    | split

theorem dishPulse_frame (s : State) : SameExcept [.bus, .dish, .paging, .port] s (dishPulse s) := by
  unfold dishPulse
  repeat' first
    | with_reducible apply SameExcept.refl
    | decide
    | with_reducible apply SameExcept.step (updateHolds_frame _ _)
    | with_reducible apply SameExcept.step (advanceRacks_frame _)
    | with_reducible apply SameExcept.step (testMissed_frame _)
    | with_reducible apply doWhen_step

theorem pulse_frame (s : State) : SameExcept [.pulseAge, .bus, .dish, .stock, .paging, .port] s (pulse s) := by
  unfold pulse
  repeat' first
    | with_reducible apply SameExcept.refl
    | decide
    | with_reducible apply SameExcept.step (State.setPulseAge_frame _ _)
    | with_reducible apply dishEvent_step
    | with_reducible intro t
    | with_reducible apply SameExcept.step (dishPulse_frame _)
    | with_reducible apply doWhen_step

theorem dishDoor_frame (opened : Bool) (s : State) : SameExcept [.dish] s (dishDoor opened s) := by
  unfold dishDoor
  repeat' first
    | with_reducible apply SameExcept.refl
    | decide
    | with_reducible apply SameExcept.step (updateDish_frame _ _)
    | with_reducible apply SameExcept.step (updateHolds_frame _ _)
    | with_reducible apply doWhen_step
    | dsimp only
    | split

theorem jam_frame (s : State) : SameExcept [.bus, .dish, .paging, .port] s (jam s) := by
  unfold jam
  repeat' first
    | with_reducible apply SameExcept.refl
    | decide
    | with_reducible apply SameExcept.step (raiseCall_frame _ _ _)
    | with_reducible apply SameExcept.step (updateDish_frame _ _)

theorem startDish_frame (s : State) : SameExcept [.bus, .dish, .paging, .port] s (startDish s) := by
  unfold startDish
  repeat' first
    | with_reducible apply SameExcept.refl
    | decide
    | with_reducible apply SameExcept.step (updateDish_frame _ _)
    | with_reducible apply SameExcept.step (updateHolds_frame _ _)
    | with_reducible apply SameExcept.step (entryActive_frame _)
    | with_reducible apply doWhen_step

theorem stopDish_frame (s : State) : SameExcept [.bus, .dish, .paging] s (stopDish s) := by
  unfold stopDish
  repeat' first
    | with_reducible apply SameExcept.refl
    | decide
    | with_reducible apply SameExcept.step (cancelCall_frame _ _ _)
    | with_reducible apply SameExcept.step (updateDish_frame _ _)

theorem resumeDish_frame (s : State) : SameExcept [.bus, .dish, .paging] s (resumeDish s) := by
  unfold resumeDish
  repeat' first
    | with_reducible apply SameExcept.refl
    | decide
    | with_reducible apply SameExcept.step (cancelCall_frame _ _ _)
    | with_reducible apply SameExcept.step (updateDish_frame _ _)

theorem deliverSweep_frame (entries : Vector Bool 8) (s : State) :
    SameExcept [.heat, .bus, .dish, .stock, .paging, .port] s (deliverSweep entries s) := by
  unfold deliverSweep
  repeat' first
    | with_reducible apply SameExcept.refl
    | decide
    | with_reducible apply SameExcept.step (tripChecks_frame _ _)
    | with_reducible apply SameExcept.step (sweepStock_frame _)
    | with_reducible apply SameExcept.step (sweepDish_frame _)
    | with_reducible apply doWhen_step

theorem sweep_frame (c : Conversions) (s : State) :
    SameExcept [.scan, .heat, .bus, .dish, .stock, .paging, .port] s (sweep c s) := by
  unfold sweep
  repeat' first
    | with_reducible apply SameExcept.refl
    | decide
    | with_reducible apply SameExcept.step (State.setScan_frame _ _)
    | with_reducible apply SameExcept.step (deliverSweep_frame _ _)

theorem updateLine_frame (l : LineNo) (f : Line → Line) (s : State) : SameExcept [.lines] s (updateLine l f s) := by
  unfold updateLine
  repeat' first
    | with_reducible apply SameExcept.refl
    | decide
    | with_reducible apply SameExcept.step (State.setLines_frame _ _)

theorem deliverLine_frame (u : LineUse) (on : Bool) (s : State) :
    SameExcept [.heat, .bus, .dish, .stock, .paging, .port] s (deliverLine u on s) := by
  unfold deliverLine
  repeat' first
    | with_reducible apply SameExcept.refl
    | decide
    | with_reducible apply SameExcept.step (ovenDoor_frame _ _ _)
    | with_reducible apply SameExcept.step (warmerDoorFlag_frame _ _ _)
    | with_reducible apply SameExcept.step (warmerDoorState_frame _ _ _)
    | with_reducible apply dishEvent_step
    | with_reducible intro t
    | with_reducible apply SameExcept.step (entryActive_frame _)
    | with_reducible apply SameExcept.step (exitActive_frame _)
    | with_reducible apply SameExcept.step (exitInactive_frame _)
    | with_reducible apply SameExcept.step (dishDoor_frame _ _)
    | with_reducible apply doWhen_step
    | dsimp only
    | split

theorem lineEdge_frame (l : LineNo) (s : State) :
    SameExcept [.lines, .heat, .bus, .dish, .stock, .paging, .port] s (lineEdge l s) := by
  unfold lineEdge
  repeat' first
    | with_reducible apply SameExcept.refl
    | decide
    | with_reducible apply SameExcept.step (updateLine_frame _ _ _)
    | with_reducible apply SameExcept.step (deliverLine_frame _ _ _)
    | with_reducible apply doWhen_step

theorem initialLine_frame (u : LineUse) (on : Bool) (s : State) :
    SameExcept [.heat, .dish, .stock] s (initialLine u on s) := by
  unfold initialLine
  repeat' first
    | with_reducible apply SameExcept.refl
    | decide
    | with_reducible apply SameExcept.step (doorInitially_frame _ _ _)
    | with_reducible apply SameExcept.step (warmerDoorState_frame _ _ _)
    | with_reducible apply SameExcept.step (updateHolds_frame _ _)
    | with_reducible apply doWhen_step
    | dsimp only
    | split

theorem initialLines_frame (s : State) : SameExcept [.heat, .dish, .stock] s (initialLines s) := by
  unfold initialLines
  repeat' first
    | with_reducible apply SameExcept.refl
    | decide
    | with_reducible apply SameExcept.step (initialLine_frame _ _ _)
    | with_reducible apply doWhen_step
    | with_reducible apply foldl_step
    | with_reducible intro u a

theorem updateBus_frame (f : Bus → Bus) (s : State) : SameExcept [.bus] s (updateBus f s) := by
  unfold updateBus
  repeat' first
    | with_reducible apply SameExcept.refl
    | decide
    | with_reducible apply SameExcept.step (State.setBus_frame _ _)

theorem deliverResult_frame (f : Frame) (acked : Bool) (s : State) :
    SameExcept [.life, .heat, .bus, .share, .paging, .port] s (deliverResult f acked s) := by
  unfold deliverResult
  repeat' first
    | with_reducible apply SameExcept.refl
    | decide
    | with_reducible apply SameExcept.step (announceResult_frame _ _)
    | with_reducible apply doWhen_step
    | dsimp only
    | split

theorem fallSilent_frame (s : State) : SameExcept [.bus] s (fallSilent s) := by
  unfold fallSilent
  repeat' first
    | with_reducible apply SameExcept.refl
    | decide
    | with_reducible apply SameExcept.step (updateBus_frame _ _)

theorem frameEnded_frame (e : TxEntry) (acked : Bool) (s : State) :
    SameExcept [.life, .heat, .bus, .share, .paging, .port] s (frameEnded e acked s) := by
  unfold frameEnded
  repeat' first
    | with_reducible apply SameExcept.refl
    | decide
    | with_reducible apply SameExcept.step (deliverResult_frame _ _ _)
    | with_reducible apply SameExcept.step (fallSilent_frame _)
    | with_reducible apply doWhen_step
    | dsimp only
    | split

theorem endOnLine_frame (acked : Bool) (s : State) :
    SameExcept [.life, .heat, .bus, .share, .paging, .port] s (endOnLine acked s) := by
  unfold endOnLine
  repeat' first
    | with_reducible apply SameExcept.refl
    | decide
    | with_reducible apply SameExcept.step (updateBus_frame _ _)
    | with_reducible apply SameExcept.step (frameEnded_frame _ _ _)
    | with_reducible apply doWhen_step
    | dsimp only
    | split

theorem startHead_frame (s : State) : SameExcept [.life, .heat, .bus, .share, .paging, .port] s (startHead s) := by
  unfold startHead
  repeat' first
    | with_reducible apply SameExcept.refl
    | decide
    | with_reducible apply SameExcept.step (updateBus_frame _ _)
    | with_reducible apply SameExcept.step (frameEnded_frame _ _ _)
    | with_reducible apply doWhen_step
    | dsimp only
    | split

theorem findStuck_frame (s : State) : SameExcept [.bus, .port] s (findStuck s) := by
  unfold findStuck
  repeat' first
    | with_reducible apply SameExcept.refl
    | decide
    | with_reducible apply SameExcept.step (pushReport_frame _ _)
    | with_reducible apply SameExcept.step (updateBus_frame _ _)
    | with_reducible apply doWhen_step

theorem findClear_frame (s : State) : SameExcept [.bus, .port] s (findClear s) := by
  unfold findClear
  repeat' first
    | with_reducible apply SameExcept.refl
    | decide
    | with_reducible apply SameExcept.step (pushReport_frame _ _)
    | with_reducible apply SameExcept.step (updateBus_frame _ _)
    | with_reducible apply doWhen_step

theorem dropLeaving_frame (s : State) : SameExcept [.bus] s (dropLeaving s) := by
  unfold dropLeaving
  repeat' first
    | with_reducible apply SameExcept.refl
    | decide
    | with_reducible apply SameExcept.step (updateBus_frame _ _)
    | with_reducible apply SameExcept.step (fallSilent_frame _)

theorem askReturned_frame (b : HoldAskBody) (s : State) : SameExcept [.waves] s (askReturned b s) := by
  unfold askReturned
  apply onWave_step (SameExcept.refl _ _)
  intro w
  split
  · exact updateWave_frame _ _ _
  · exact SameExcept.refl _ _

theorem frameReturned_frame (f : Frame) (s : State) : SameExcept [.stock, .waves] s (frameReturned f s) := by
  unfold frameReturned
  split
  · exact (askReturned_frame _ _).mono (by decide)
  · exact (State.setStock_frame _ _).mono (by decide)
  · exact SameExcept.refl _ _

theorem returnFrames_frame (s : State) : SameExcept [.bus, .stock, .waves] s (returnFrames s) := by
  unfold returnFrames
  exact foldl_step ((State.setBus_frame _ _).mono (by decide)) (fun u a => (frameReturned_frame _ u).mono (by decide))

theorem enterDuplicate_frame (kind : Nat) (s : State) :
    SameExcept [.life, .heat, .bus, .share, .stock, .waves, .paging, .port] s (enterDuplicate kind s) := by
  unfold enterDuplicate
  repeat' first
    | with_reducible apply SameExcept.refl
    | decide
    | with_reducible apply SameExcept.step (State.setShare_frame _ _)
    | with_reducible apply SameExcept.step (changeStation_frame _ _ _)
    | with_reducible apply SameExcept.step (cancelCall_frame _ _ _)
    | with_reducible apply SameExcept.step (deliverGrant_frame _)
    | with_reducible apply SameExcept.step (startClocks_frame _)
    | with_reducible apply SameExcept.step (returnFrames_frame _)
    | with_reducible apply doWhen_step

theorem duplicateEvent_frame (kind : Nat) (s : State) :
    SameExcept [.life, .heat, .bus, .share, .stock, .waves, .paging, .port] s (duplicateEvent kind s) := by
  unfold duplicateEvent
  repeat' first
    | with_reducible apply SameExcept.refl
    | decide
    | with_reducible apply SameExcept.step (enterDuplicate_frame _ _)
    | with_reducible apply doWhen_step

theorem driveSlot_frame (dominant : Bool) (s : State) : SameExcept [.bus] s (driveSlot dominant s) := by
  unfold driveSlot
  repeat' first
    | with_reducible apply SameExcept.refl
    | decide
    | with_reducible apply SameExcept.step (updateBus_frame _ _)

theorem receive_frame {bs : List Block} {sender kind : Nat} {d : Bool} {f : State → State}
    (hf : ∀ t, SameExcept bs t (f t)) (hb : ∀ b ∈ [Block.life, .heat, .bus, .share, .stock, .waves, .paging, .port], b ∈ bs)
    (s : State) : SameExcept bs s (receive sender kind d f s) := by
  unfold receive
  split
  · exact SameExcept.refl _ _
  · have hd : ∀ c, SameExcept bs s (driveSlot c s) := fun c =>
      (driveSlot_frame c s).mono (fun b hm => hb b (by revert hm; cases b <;> decide))
    split
    · exact hd false
    · split
      · exact SameExcept.trans (hd false) ((duplicateEvent_frame _ _).mono hb)
      · exact doWhen_step (hd true) (hf _)

theorem addressed_frame {bs : List Block} {n : Nat} {f : State → State} (hf : ∀ t, SameExcept bs t (f t)) (s : State) :
    SameExcept bs s (addressed n f s) := doWhen_frame _ s (hf s)

theorem takePageState_frame (b : PageStateBody) (s : State) :
    SameExcept [.bus, .paging, .port] s (takePageState b s) := by
  unfold takePageState
  repeat' first
    | with_reducible apply SameExcept.refl
    | decide
    | with_reducible apply SameExcept.step (pageStateAtOrigin_frame _ _)
    | with_reducible apply doWhen_step

theorem updatePeer_frame (id : Nat) (f : Peer → Peer) (s : State) : SameExcept [.peers] s (updatePeer id f s) := by
  unfold updatePeer
  repeat' first
    | with_reducible apply SameExcept.refl
    | decide
    | with_reducible apply SameExcept.step (State.setPeers_frame _ _)

theorem dropPeer_frame (id : Nat) (s : State) : SameExcept [.peers] s (dropPeer id s) := by
  unfold dropPeer
  repeat' first
    | with_reducible apply SameExcept.refl
    | decide
    | with_reducible apply SameExcept.step (State.setPeers_frame _ _)

theorem restartPeer_frame (b : AnnounceBody) (p : Peer) (s : State) :
    SameExcept [.peers, .stock, .waves, .port] s (restartPeer b p s) := by
  unfold restartPeer
  repeat' first
    | with_reducible apply SameExcept.refl
    | decide
    | with_reducible apply SameExcept.step (pushReport_frame _ _)
    | with_reducible apply SameExcept.step (goneNotice_frame _ _)
    | with_reducible apply SameExcept.step (updatePeer_frame _ _ _)

theorem peerLeaves_frame (id : Nat) (s : State) : SameExcept [.peers, .stock, .waves, .port] s (peerLeaves id s) := by
  unfold peerLeaves
  repeat' first
    | with_reducible apply SameExcept.refl
    | decide
    | with_reducible apply SameExcept.step (pushReport_frame _ _)
    | with_reducible apply SameExcept.step (goneNotice_frame _ _)
    | with_reducible apply SameExcept.step (dropPeer_frame _ _)
    | with_reducible apply doWhen_step
    | dsimp only
    | split

theorem announceAtTable_frame (sender : Nat) (b : AnnounceBody) (s : State) :
    SameExcept [.peers, .stock, .waves, .port] s (announceAtTable sender b s) := by
  unfold announceAtTable
  repeat' first
    | with_reducible apply SameExcept.refl
    | decide
    | with_reducible apply SameExcept.step (State.setPeers_frame _ _)
    | with_reducible apply SameExcept.step (updatePeer_frame _ _ _)
    | with_reducible apply SameExcept.step (restartPeer_frame _ _ _)
    | with_reducible apply SameExcept.step (peerLeaves_frame _ _)
    | with_reducible apply doWhen_step
    | dsimp only
    | split

theorem removeSilent_frame (id : Nat) (s : State) :
    SameExcept [.peers, .stock, .waves, .port] s (removeSilent id s) := by
  unfold removeSilent
  repeat' first
    | with_reducible apply SameExcept.refl
    | decide
    | with_reducible apply SameExcept.step (pushReport_frame _ _)
    | with_reducible apply SameExcept.step (goneNotice_frame _ _)
    | with_reducible apply SameExcept.step (dropPeer_frame _ _)
    | with_reducible apply doWhen_step
    | dsimp only
    | split

theorem stockAtTable_frame (sender : Nat) (b : StockBody) (s : State) :
    SameExcept [.peers] s (stockAtTable sender b s) := by
  unfold stockAtTable
  repeat' first
    | with_reducible apply SameExcept.refl
    | decide
    | with_reducible apply SameExcept.step (updatePeer_frame _ _ _)
    | with_reducible apply doWhen_step

theorem showBaseClass_frame (k : Chan) (s : State) : SameExcept [.heat] s (showBaseClass k s) := by
  unfold showBaseClass
  repeat' first
    | with_reducible apply SameExcept.refl
    | decide
    | with_reducible apply SameExcept.step (State.setHeat_frame _ _)

theorem storeItem_frame (item : Nat) (element : Nat) (v : Nat) (s : State) :
    SameExcept [.profile, .heat] s (storeItem item element v s) := by
  unfold storeItem
  repeat' first
    | with_reducible apply SameExcept.refl
    | decide
    | with_reducible apply SameExcept.step (State.setProfile_frame _ _)
    | with_reducible apply SameExcept.step (showBaseClass_frame _ _)
    | with_reducible apply doWhen_step

theorem joinBlocks_frame (s : State) :
    SameExcept [.heat, .bus, .peers, .share, .dish, .stock, .waves, .paging] s (joinBlocks s) := by
  unfold joinBlocks
  repeat' first
    | with_reducible apply SameExcept.refl
    | decide
    | with_reducible apply SameExcept.step (State.setHeat_frame _ _)
    | with_reducible apply SameExcept.step (State.setBus_frame _ _)
    | with_reducible apply SameExcept.step (State.setPeers_frame _ _)
    | with_reducible apply SameExcept.step (State.setShare_frame _ _)
    | with_reducible apply SameExcept.step (State.setDish_frame _ _)
    | with_reducible apply SameExcept.step (State.setStock_frame _ _)
    | with_reducible apply SameExcept.step (State.setWaves_frame _ _)
    | with_reducible apply SameExcept.step (State.setPaging_frame _ _)

theorem joinStation_frame (s : State) :
    SameExcept [.life, .heat, .bus, .peers, .share, .dish, .stock, .waves, .paging, .port] s (joinStation s) := by
  unfold joinStation
  repeat' first
    | with_reducible apply SameExcept.refl
    | decide
    | with_reducible apply SameExcept.step (State.setLife_frame _ _)
    | with_reducible apply SameExcept.step (changeStation_frame _ _ _)
    | with_reducible apply SameExcept.step (tripsAtJoin_frame _)
    | with_reducible apply SameExcept.step (deliverGrant_frame _)
    | with_reducible apply SameExcept.step (initialLines_frame _)
    | with_reducible apply SameExcept.step (joinBlocks_frame _)

theorem leaveBlocks_frame (s : State) :
    SameExcept [.heat, .bus, .peers, .share, .dish, .stock, .waves, .paging, .port] s (leaveBlocks s) := by
  unfold leaveBlocks
  repeat' first
    | with_reducible apply SameExcept.refl
    | decide
    | with_reducible apply SameExcept.step (State.setHeat_frame _ _)
    | with_reducible apply SameExcept.step (State.setBus_frame _ _)
    | with_reducible apply SameExcept.step (State.setPeers_frame _ _)
    | with_reducible apply SameExcept.step (State.setShare_frame _ _)
    | with_reducible apply SameExcept.step (State.setDish_frame _ _)
    | with_reducible apply SameExcept.step (State.setStock_frame _ _)
    | with_reducible apply SameExcept.step (State.setWaves_frame _ _)
    | with_reducible apply SameExcept.step (State.setPaging_frame _ _)
    | with_reducible apply SameExcept.step (State.setPort_frame _ _)

theorem setTransaction_frame (t : Transaction) (s : State) : SameExcept [.port] s (setTransaction t s) := by
  unfold setTransaction
  repeat' first
    | with_reducible apply SameExcept.refl
    | decide
    | with_reducible apply SameExcept.step (State.setPort_frame _ _)

theorem nothingCommand_frame (p : List Word) (s : State) : SameExcept [.port] s (nothingCommand p s) := by
  unfold nothingCommand
  repeat' first
    | with_reducible apply SameExcept.refl
    | decide
    | with_reducible apply SameExcept.step (setReply_frame _ _)
    | with_reducible apply doWhen_step
    | dsimp only
    | split

end Sys2Proof.Machine
end

