-- ==== Sys2Proof/Laws/PerInstr.lean ====
section
/-! SUPPORT. What a well-formed command guarantees of its fields: each fits the byte or the two bytes that carry it
(chapter 12), for every constructor of Instr. -/

namespace Sys2Proof.Laws.Fits

/-- The fields of a command that travel in one byte, with a panel command's word count (chapter 12). -/
@[simp] def byteFields : Instr → List Nat
  | .announce sender b => [sender, b.epoch, b.sequence]
  | .stock sender b => sender :: b.warmers.map (fun e => e.channel)
  | .holdAsk sender b => [sender, b.target, b.wave, b.channel]
  | .holdFree sender b => [sender, b.target, b.tag, b.wave, b.channel]
  | .holdAnswer sender b => [sender, b.target, b.wave, b.channel, b.result, b.tag]
  | .holdState sender b => [sender, b.target, b.tag, b.wave, b.channel, b.cause]
  | .pageCall sender b => [sender, b.number, b.reason, b.group, b.urgency]
  | .pageState sender b => [sender, b.origin, b.number, b.reason, b.outcome]
  | .pageCancel sender number => [sender, number]
  | .duplicateId kind => [kind]
  | .silenceStale peer => [peer]
  | .silenceRemove peer => [peer]
  | .stockAgeExpiry peer => [peer]
  | .holdExpiry tag => [tag]
  | .cookTimer wave => [wave]
  | .askCheck wave => [wave]
  | .answerTimerExpiry wave _ => [wave]
  | .broadcastTimerExpiry number => [number]
  | .busyTimerExpiry tag => [tag]
  | .ackTimerExpiry tag => [tag]
  | .result tag _ => [tag]
  | .ack _ tag => [tag]
  | .dutyRecord _ _ => []
  | .restart p => [p.length]
  | .heat p => [p.length]
  | .heatOff p => [p.length]
  | .channelClear p => [p.length]
  | .profilePut p => [p.length]
  | .join p => [p.length]
  | .leave p => [p.length]
  | .setClock p => [p.length]
  | .dishOn p => [p.length]
  | .dishOff p => [p.length]
  | .dishSpeed p => [p.length]
  | .dishResume p => [p.length]
  | .nextRack p => [p.length]
  | .pickup p => [p.length]
  | .load p => [p.length]
  | .take p => [p.length]
  | .wavePlan p => [p.length]
  | .waveFire p => [p.length]
  | .wavePlate p => [p.length]
  | .waveClose p => [p.length]
  | .waveCancel p => [p.length]
  | .page p => [p.length]
  | .callEnd p => [p.length]
  | .duty p => [p.length]
  | .allCall p => [p.length]
  | .allCallEnd p => [p.length]
  | .nothing p => [p.length]
  | .query p => [p.length]
  | .readReport p => [p.length]
  | .resetAssert | .resetRelease | .restartRelease | .sweepCompletion _ | .linePinChange _ _ | .lineEdge _ |
  .encoderPulse | .windowStart | .onTimeEnd _ | .frameStart | .arbitrationLost | .bitFault | .frameResult _ |
  .lineStuck | .lineClear | .badFrame _ | .frameMismatch _ | .leavingAnnounceTimeout | .announceTick |
  .listeningTimerExpiry | .clockSecond | .jamTimerExpiry | .rinseHoldTimeExpiry | .idleTimeExpiry |
  .coolingReset _ | .stockTick | .modemRecordSent | .resultTimeout | .ready | .modemInterbyteTimeout |
  .allRecordDue | .allCallExpiry | .transactionStart | .incompleteCommand _ | .statusOnlyEnd | .unknownCommand _
  | .startByte | .modemRecordDiscarded _ => []

/-- The fields of a command that travel in two bytes (chapter 12). -/
@[simp] def wordFields : Instr → List Nat
  | .announce _ b => [b.asks.c3, b.asks.c2, b.asks.c1, b.asks.c0, b.drawing]
  | .stock _ b => b.clean.toList ++ (b.warmers.map (fun e => e.ready) ++ b.warmers.map (fun e => e.available))
  | .holdAsk _ b => [b.count, b.duration]
  | .holdAnswer _ b => [b.count]
  | .holdState _ b => [b.count]
  | .pageCall _ b => [b.subject]
  | .pageState _ b => [b.subject, b.detail]
  | .ack address _ => [address]
  | .dutyRecord address _ => [address]
  | .resetAssert | .resetRelease | .restart _ | .restartRelease | .sweepCompletion _ | .linePinChange _ _ |
  .lineEdge _ | .encoderPulse | .windowStart | .onTimeEnd _ | .heat _ | .heatOff _ | .channelClear _ |
  .frameStart | .arbitrationLost | .bitFault | .frameResult _ | .lineStuck | .lineClear | .badFrame _ |
  .frameMismatch _ | .duplicateId _ | .leavingAnnounceTimeout | .silenceStale _ | .silenceRemove _ |
  .stockAgeExpiry _ | .announceTick | .listeningTimerExpiry | .profilePut _ | .join _ | .leave _ | .setClock _ |
  .clockSecond | .dishOn _ | .dishOff _ | .dishSpeed _ | .dishResume _ | .nextRack _ | .pickup _ |
  .jamTimerExpiry | .rinseHoldTimeExpiry | .idleTimeExpiry | .load _ | .take _ | .coolingReset _ | .holdFree _ _
  | .holdExpiry _ | .stockTick | .wavePlan _ | .waveFire _ | .wavePlate _ | .waveClose _ | .waveCancel _ |
  .cookTimer _ | .askCheck _ | .answerTimerExpiry _ _ | .page _ | .callEnd _ | .duty _ | .allCall _ |
  .allCallEnd _ | .broadcastTimerExpiry _ | .pageCancel _ _ | .modemRecordSent | .result _ _ | .resultTimeout |
  .ready | .modemInterbyteTimeout | .busyTimerExpiry _ | .ackTimerExpiry _ | .allRecordDue | .allCallExpiry |
  .transactionStart | .incompleteCommand _ | .statusOnlyEnd | .unknownCommand _ | .nothing _ | .query _ |
  .readReport _ | .startByte | .modemRecordDiscarded _ => []

/-- In a well-formed command every field fits what carries it. -/
def Statement (i : Instr) : Prop :=
  i.wellFormed = true → (∀ n ∈ byteFields i, n < 256) ∧ ∀ n ∈ wordFields i, n < 65536

theorem resetAssert : Statement (.resetAssert) := by
  simp [Statement]

theorem resetRelease : Statement (.resetRelease) := by
  simp [Statement]

theorem restart (p : List Word) : Statement (.restart p) := by
  simp [Statement]

theorem restartRelease : Statement (.restartRelease) := by
  simp [Statement]

theorem sweepCompletion (c : Conversions) : Statement (.sweepCompletion c) := by
  simp [Statement]

theorem linePinChange (l : LineNo) (high : Bool) : Statement (.linePinChange l high) := by
  simp [Statement]

theorem lineEdge (l : LineNo) : Statement (.lineEdge l) := by
  simp [Statement]

theorem encoderPulse : Statement (.encoderPulse) := by
  simp [Statement]

theorem windowStart : Statement (.windowStart) := by
  simp [Statement]

theorem onTimeEnd (k : Chan) : Statement (.onTimeEnd k) := by
  simp [Statement]

theorem heat (p : List Word) : Statement (.heat p) := by
  simp [Statement]

theorem heatOff (p : List Word) : Statement (.heatOff p) := by
  simp [Statement]

theorem channelClear (p : List Word) : Statement (.channelClear p) := by
  simp [Statement]

theorem frameStart : Statement (.frameStart) := by
  simp [Statement]

theorem arbitrationLost : Statement (.arbitrationLost) := by
  simp [Statement]

theorem bitFault : Statement (.bitFault) := by
  simp [Statement]

theorem frameResult (acked : Bool) : Statement (.frameResult acked) := by
  simp [Statement]

theorem lineStuck : Statement (.lineStuck) := by
  simp [Statement]

theorem lineClear : Statement (.lineClear) := by
  simp [Statement]

theorem badFrame (bytes : List Byte) : Statement (.badFrame bytes) := by
  simp [Statement]

theorem frameMismatch (bytes : List Byte) : Statement (.frameMismatch bytes) := by
  simp [Statement]

theorem duplicateId (kind : Nat) : Statement (.duplicateId kind) := by
  intro h
  simp at h ⊢
  omega

theorem leavingAnnounceTimeout : Statement (.leavingAnnounceTimeout) := by
  simp [Statement]

theorem announce (sender : Nat) (b : AnnounceBody) : Statement (.announce sender b) := by
  intro h
  simp at h ⊢
  omega

theorem silenceStale (peer : Nat) : Statement (.silenceStale peer) := by
  intro h
  simp at h ⊢
  omega

theorem silenceRemove (peer : Nat) : Statement (.silenceRemove peer) := by
  intro h
  simp at h ⊢
  omega

theorem stock (sender : Nat) (b : StockBody) : Statement (.stock sender b) := by
  intro h
  simp at h ⊢
  obtain ⟨hs, ⟨hc, hw⟩, -⟩ := h
  refine ⟨⟨by omega, fun e he => (hw e he).1.1⟩, ?_⟩
  rintro n (hn | ⟨e, he, rfl⟩ | ⟨e, he, rfl⟩)
  · simpa using (Option.all_eq_true _ _).1 hc n hn
  · exact (hw e he).1.2
  · exact (hw e he).2

theorem stockAgeExpiry (peer : Nat) : Statement (.stockAgeExpiry peer) := by
  intro h
  simp at h ⊢
  omega

theorem announceTick : Statement (.announceTick) := by
  simp [Statement]

theorem listeningTimerExpiry : Statement (.listeningTimerExpiry) := by
  simp [Statement]

theorem profilePut (p : List Word) : Statement (.profilePut p) := by
  simp [Statement]

theorem join (p : List Word) : Statement (.join p) := by
  simp [Statement]

theorem leave (p : List Word) : Statement (.leave p) := by
  simp [Statement]

theorem setClock (p : List Word) : Statement (.setClock p) := by
  simp [Statement]

theorem clockSecond : Statement (.clockSecond) := by
  simp [Statement]

theorem dishOn (p : List Word) : Statement (.dishOn p) := by
  simp [Statement]

theorem dishOff (p : List Word) : Statement (.dishOff p) := by
  simp [Statement]

theorem dishSpeed (p : List Word) : Statement (.dishSpeed p) := by
  simp [Statement]

theorem dishResume (p : List Word) : Statement (.dishResume p) := by
  simp [Statement]

theorem nextRack (p : List Word) : Statement (.nextRack p) := by
  simp [Statement]

theorem pickup (p : List Word) : Statement (.pickup p) := by
  simp [Statement]

theorem jamTimerExpiry : Statement (.jamTimerExpiry) := by
  simp [Statement]

theorem rinseHoldTimeExpiry : Statement (.rinseHoldTimeExpiry) := by
  simp [Statement]

theorem idleTimeExpiry : Statement (.idleTimeExpiry) := by
  simp [Statement]

theorem load (p : List Word) : Statement (.load p) := by
  simp [Statement]

theorem take (p : List Word) : Statement (.take p) := by
  simp [Statement]

theorem coolingReset (k : Chan) : Statement (.coolingReset k) := by
  simp [Statement]

theorem holdAsk (sender : Nat) (b : HoldAskBody) : Statement (.holdAsk sender b) := by
  intro h
  simp at h ⊢
  omega

theorem holdFree (sender : Nat) (b : HoldFreeBody) : Statement (.holdFree sender b) := by
  intro h
  simp at h ⊢
  omega

theorem holdExpiry (tag : Nat) : Statement (.holdExpiry tag) := by
  intro h
  simp at h ⊢
  omega

theorem stockTick : Statement (.stockTick) := by
  simp [Statement]

theorem wavePlan (p : List Word) : Statement (.wavePlan p) := by
  simp [Statement]

theorem waveFire (p : List Word) : Statement (.waveFire p) := by
  simp [Statement]

theorem wavePlate (p : List Word) : Statement (.wavePlate p) := by
  simp [Statement]

theorem waveClose (p : List Word) : Statement (.waveClose p) := by
  simp [Statement]

theorem waveCancel (p : List Word) : Statement (.waveCancel p) := by
  simp [Statement]

theorem cookTimer (wave : Nat) : Statement (.cookTimer wave) := by
  intro h
  simp at h ⊢
  omega

theorem askCheck (wave : Nat) : Statement (.askCheck wave) := by
  intro h
  simp at h ⊢
  omega

theorem answerTimerExpiry (wave : Nat) (second : Bool) : Statement (.answerTimerExpiry wave second) := by
  intro h
  simp at h ⊢
  omega

theorem holdAnswer (sender : Nat) (b : HoldAnswerBody) : Statement (.holdAnswer sender b) := by
  intro h
  simp at h ⊢
  omega

theorem holdState (sender : Nat) (b : HoldStateBody) : Statement (.holdState sender b) := by
  intro h
  simp at h ⊢
  omega

theorem page (p : List Word) : Statement (.page p) := by
  simp [Statement]

theorem callEnd (p : List Word) : Statement (.callEnd p) := by
  simp [Statement]

theorem duty (p : List Word) : Statement (.duty p) := by
  simp [Statement]

theorem allCall (p : List Word) : Statement (.allCall p) := by
  simp [Statement]

theorem allCallEnd (p : List Word) : Statement (.allCallEnd p) := by
  simp [Statement]

theorem broadcastTimerExpiry (number : Nat) : Statement (.broadcastTimerExpiry number) := by
  intro h
  simp at h ⊢
  omega

theorem pageCall (sender : Nat) (b : PageCallBody) : Statement (.pageCall sender b) := by
  intro h
  simp at h ⊢
  omega

theorem pageState (sender : Nat) (b : PageStateBody) : Statement (.pageState sender b) := by
  intro h
  simp at h ⊢
  omega

theorem pageCancel (sender : Nat) (number : Nat) : Statement (.pageCancel sender number) := by
  intro h
  simp at h ⊢
  omega

theorem modemRecordSent : Statement (.modemRecordSent) := by
  simp [Statement]

theorem result (tag : Nat) (r : ModemResult) : Statement (.result tag r) := by
  intro h
  simp at h ⊢
  omega

theorem resultTimeout : Statement (.resultTimeout) := by
  simp [Statement]

theorem ack (address : Nat) (tag : Nat) : Statement (.ack address tag) := by
  intro h
  simp at h ⊢
  omega

theorem dutyRecord (address : Nat) (on : Bool) : Statement (.dutyRecord address on) := by
  intro h
  simp at h ⊢
  omega

theorem ready : Statement (.ready) := by
  simp [Statement]

theorem modemInterbyteTimeout : Statement (.modemInterbyteTimeout) := by
  simp [Statement]

theorem busyTimerExpiry (tag : Nat) : Statement (.busyTimerExpiry tag) := by
  intro h
  simp at h ⊢
  omega

theorem ackTimerExpiry (tag : Nat) : Statement (.ackTimerExpiry tag) := by
  intro h
  simp at h ⊢
  omega

theorem allRecordDue : Statement (.allRecordDue) := by
  simp [Statement]

theorem allCallExpiry : Statement (.allCallExpiry) := by
  simp [Statement]

theorem transactionStart : Statement (.transactionStart) := by
  simp [Statement]

theorem incompleteCommand (code : Option Byte) : Statement (.incompleteCommand code) := by
  simp [Statement]

theorem statusOnlyEnd : Statement (.statusOnlyEnd) := by
  simp [Statement]

theorem unknownCommand (code : Byte) : Statement (.unknownCommand code) := by
  simp [Statement]

theorem nothing (p : List Word) : Statement (.nothing p) := by
  simp [Statement]

theorem query (p : List Word) : Statement (.query p) := by
  simp [Statement]

theorem readReport (p : List Word) : Statement (.readReport p) := by
  simp [Statement]

theorem startByte : Statement (.startByte) := by
  simp [Statement]

theorem modemRecordDiscarded (c : DiscardCause) : Statement (.modemRecordDiscarded c) := by
  simp [Statement]

end Sys2Proof.Laws.Fits
end

