-- ==== Sys2Proof/Laws/Waves.lean ====
section
/-! SUPPORT. What the operations on a wave, the notice to an asker and the delivery of a grant can do, said once in the terms of
the statements. -/

namespace Sys2Proof.Machine

/-! ## The wave table -/

theorem findWave_number {n : Nat} {s : State} {w : Wave} (h : findWave n s = some w) : w.number = n := by
  simpa [findWave] using List.find?_some h

/-- A block frame that leaves the wave table alone leaves every wave. -/
theorem SameExcept.findWave {bs : List Block} {s t : State} (h : SameExcept bs s t) (hb : Block.waves ∉ bs) (n : Nat) :
    findWave n t = Machine.findWave n s := by
  have : t.waves = s.waves := h .waves hb
  simp only [Machine.findWave, this]

theorem find_map_number (n m : Nat) (f : Wave → Wave) (hf : ∀ w, (f w).number = w.number) (ws : List Wave) :
    (ws.map (fun w => if w.number = n then f w else w)).find? (fun w => decide (w.number = m)) =
      (ws.find? (fun w => decide (w.number = m))).map (fun w => if m = n then f w else w) := by
  induction ws with
  | nil => rfl
  | cons x xs ih =>
    rw [List.map_cons, List.find?_cons, List.find?_cons]
    by_cases hx : x.number = m
    · subst hx
      by_cases hn : x.number = n <;> simp [hn, hf]
    · by_cases hn : x.number = n
      · have hm : n ≠ m := fun e => hx (hn.trans e)
        simpa [hn, hf, hm] using ih
      · simpa [hn, hx] using ih

/-- A change of the wave `n` that keeps its number shows in that wave alone. -/
theorem findWave_updateWave (n m : Nat) (f : Wave → Wave) (hf : ∀ w, (f w).number = w.number) (s : State) :
    findWave m (updateWave n f s) = (findWave m s).map (fun w => if m = n then f w else w) :=
  find_map_number n m f hf s.waves

/-- A changed wave is found changed. -/
theorem findWave_changed {n : Nat} {s : State} {w : Wave} {f : Wave → Wave} (h : findWave n s = some w)
    (hf : ∀ w, (f w).number = w.number) : findWave n (updateWave n f s) = some (f w) := by
  simp [findWave_updateWave n n f hf, h]

/-- Two changes of one wave are one. -/
theorem updateWave_updateWave (n : Nat) (f g : Wave → Wave) (hf : ∀ w, (f w).number = w.number) (s : State) :
    updateWave n g (updateWave n f s) = updateWave n (fun w => g (f w)) s := by
  unfold updateWave State.setWaves
  simp only [List.map_map]
  congr 1
  apply List.map_congr_left
  intro w _
  simp only [Function.comp]
  by_cases h : w.number = n <;> simp [h, hf]

theorem changeSource_number (b : Bool) (f : Source → Source) (w : Wave) : (changeSource b f w).number = w.number := by
  cases b <;> rfl

/-! ## The timeline (R148, R153, R158) -/

/-- Everything the entry to FIRE-DUE can do. -/
theorem enterFireDue_entered {n : Nat} {s : State} {w : Wave} (h : findWave n s = some w) :
    FireDueEntered w s (enterFireDue n s) := by
  have hn := findWave_number h
  have h3 : findWave n (raiseCall .fireDue n (updateWave n (fun w => { w with state := .fireDue }) s)) =
      some { w with state := .fireDue } := by
    rw [(raiseCall_frame _ _ _).findWave (by decide)]
    exact findWave_changed h (fun _ => rfl)
  unfold FireDueEntered enterFireDue onWave
  rw [h3, ← hn]
  rfl

/-- Everything that becoming late can do. -/
theorem makeLate_late {n : Nat} {s : State} {w : Wave} (h : findWave n s = some w) : MadeLate w s (makeLate n s) := by
  have hn := findWave_number h
  have h3 : findWave n (raiseCall .waveLate n (updateWave n (fun w => { w with late := true }) s)) =
      some { w with late := true } := by
    rw [(raiseCall_frame _ _ _).findWave (by decide)]
    exact findWave_changed h (fun _ => rfl)
  unfold MadeLate makeLate onWave
  rw [h3, ← hn]
  rfl

theorem coverSum_eq (w : Wave) : coverSum w = heldFigure w.src1.hold + (w.src2.map (fun r => heldFigure r.hold)).getD 0 +
    w.src1.taken + (w.src2.map (fun r => r.taken)).getD 0 := by
  unfold coverSum held2 taken2
  cases w.src2 <;> simp

theorem peerHasClean_iff (n : Nat) (s : State) :
    peerHasClean n s = true ↔ ∃ x ∈ s.peers, ∃ q m, x.stock = some q ∧ q.clean = some m ∧ n ≤ m := by
  unfold peerHasClean
  simp only [List.any_eq_true]
  refine ⟨?_, ?_⟩
  · rintro ⟨x, hx, h⟩
    cases hs : x.stock with
    | none => simp [hs] at h
    | some q =>
      cases hc : q.clean with
      | none => simp [hs, hc] at h
      | some m => exact ⟨x, hx, q, m, hs, hc, by simpa [hs, hc] using h⟩
  · rintro ⟨x, hx, q, m, hs, hc, h⟩
    exact ⟨x, hx, by simpa [hs, hc] using h⟩

/-- Everything a shortage check can do. -/
theorem shortageCheck_begun {n : Nat} {s : State} {w : Wave} (h : findWave n s = some w) :
    ShortageBegun w s (shortageCheck n s) := by
  obtain rfl := findWave_number h
  have h2 : findWave w.number (updateWave w.number (fun w => { w with shortage := true }) s) = some { w with shortage := true } :=
    findWave_changed h (fun _ => rfl)
  have hs : coverSum { w with shortage := true } = coverSum w := rfl
  refine ⟨_, _, rfl, rfl, ?_, ?_⟩
  · rintro h0 v rfl
    have hc : covered { w with shortage := true } = true := by
      unfold covered
      rw [hs, coverSum_eq]
      simpa using Nat.sub_eq_zero_iff_le.mp h0
    unfold shortageCheck onWave
    rw [h2]
    simp only [hc, if_true, waveCovered, cancelShortage, h0, doWhen, waveNote, waveReport]
    rw [updateWave_updateWave w.number (fun w : Wave => { w with shortage := true }) (fun w : Wave => { w with short := false })
      (fun _ => rfl)]
    rfl
  · intro h0
    have hc : covered { w with shortage := true } = false := by
      unfold covered
      rw [hs, coverSum_eq]
      simp only [decide_eq_false_iff_not]
      omega
    have hd := decide_eq_true h0
    have e : shortageReasons { w with shortage := true } (updateWave w.number (fun w => { w with shortage := true }) s) =
        shortageReasons w s := rfl
    rw [← coverSum_eq] at h0
    refine ⟨(shortageReasons w s).1, (shortageReasons w s).2, ?_, ?_, ?_⟩
    · intro hp
      have := (peerHasClean_iff _ s).2 (coverSum_eq w ▸ hp)
      simp [shortageReasons, this]
    · intro hp
      have : peerHasClean (w.covers - coverSum w) s = false := by
        rw [← Bool.not_eq_true, peerHasClean_iff, coverSum_eq]
        exact hp
      simp [shortageReasons, this]
    · rintro v rfl
      unfold shortageCheck onWave
      rw [h2]
      simp only [hc, Bool.false_eq_true, if_false, waveShort]
      rw [e]
      simp only [hd, doWhen, waveNote, waveReport]
      rw [updateWave_updateWave w.number (fun w : Wave => { w with shortage := true }) (fun w : Wave => { w with short := true })
        (fun _ => rfl)]
      cases w.short <;> simp

/-! ## Notices and grants -/

/-- A hold's copy follows a notice of TAKEN, CUT or EXPIRED, the last with no plate left, as R156 says. -/
theorem followState_eq (b : HoldStateBody) (hc : b.cause = 1 ∨ b.cause = 2 ∨ b.cause = 3 ∧ b.count = 0) (r : Source) :
    followState b r = match r.hold with
      | .held n g =>
        if g = b.tag then { r with
          taken := if b.cause = 1 then r.taken + (n - b.count) else r.taken
          hold := if b.count = 0 then .none else .held b.count g }
        else r
      | _ => r := by
  unfold followState heldOrNone
  rcases hc with h | h | ⟨h, h0⟩
  · cases r.hold <;> simp [h]
  · cases r.hold <;> simp [h]
  · cases r.hold <;> simp [h, h0]

/-- Everything a notice to an asker can do. -/
theorem tellAsker_told (h : Hold) (cause count : Nat) (hc : cause = 1 ∨ cause = 2 ∨ cause = 3 ∧ count = 0) (s : State) :
    (h.asker ≠ s.profile.stationId →
      tellAsker h cause count s = offer (.holdState ⟨h.asker, h.tag, h.wave, h.channel.val, cause, count⟩) s) ∧
    (h.asker = s.profile.stationId → (tellAsker h cause count s).bus = s.bus ∧
      (∀ m, m ≠ h.wave → findWave m (tellAsker h cause count s) = findWave m s) ∧
      findWave h.wave (tellAsker h cause count s) =
        (findWave h.wave s).map (afterNotice s.profile.stationId h.channel h.tag cause count)) := by
  refine ⟨fun ha => if_neg ha, fun ha => ?_⟩
  rw [show tellAsker h cause count s =
    takeHoldState h.asker ⟨h.asker, h.tag, h.wave, h.channel.val, cause, count⟩ s from if_pos ha]
  unfold takeHoldState
  cases hw : findWave h.wave s with
  | none => exact ⟨rfl, fun _ _ => rfl, hw⟩
  | some w =>
    have hn := findWave_number hw
    cases hm : matchSource h.asker h.channel.val w with
    | none =>
      simp only [Option.bind_some, hm, Option.map_none, Option.map_some]
      refine ⟨trivial, fun _ _ => trivial, ?_⟩
      rw [hw]
      simp [afterNotice, ← ha, hm]
    | some i =>
      simp only [Option.bind_some, hm, Option.map_some]
      refine ⟨rfl, fun m hne => ?_, ?_⟩
      · rw [findWave_updateWave _ _ _ (fun w => changeSource_number _ _ w), hn]
        simp [hne]
      · rw [findWave_updateWave _ _ _ (fun w => changeSource_number _ _ w), hn, hw]
        simp only [Option.map_some, if_true, afterNotice, ← ha, hm]
        congr 2
        funext r
        exact followState_eq _ hc r

/-- The port after a report depends on the port and the service clock alone. -/
theorem pushReport_port (b : ReportBody) {s t : State} (hp : t.port = s.port) (hl : t.life = s.life) :
    (pushReport b t).port = (pushReport b s).port := by
  unfold pushReport
  rw [hp, hl]
  simp only
  by_cases h : s.port.reports.length < Config.maxReports
  · rw [if_pos h, if_pos h]
    rfl
  · rw [if_neg h, if_neg h]
    rfl

/-- One entry of a list changed, in a sum over it. -/
theorem sum_map_set {α : Type} (f : α → Nat) (a : α) : ∀ (l : List α) (i : Nat) (h : i < l.length),
    ((l.set i a).map f).sum + f l[i] = (l.map f).sum + f a
  | x :: xs, 0, _ => by simp; omega
  | x :: xs, i + 1, h => by
    have := sum_map_set f a xs i (by simpa using h)
    simp only [List.set_cons_succ, List.map_cons, List.sum_cons, List.getElem_cons_succ]
    omega

theorem chargesSum_set (cs : Vector Channel 8) (k : Chan) (c : Channel) :
    chargesSum (cs.set k c) + cs[k].charge = chargesSum cs + c.charge := by
  have := sum_map_set (fun c : Channel => c.charge) c cs.toList k.val (by simp)
  simpa [chargesSum, Vector.toList_set] using this

/-- A walk takes from the charges what it takes from the excess. -/
theorem cutWalk_charges (p : Profile) : ∀ (ks : List Chan) (e : Nat) (cs : Vector Channel 8),
    chargesSum (cutWalk p ks e cs).2 + e = chargesSum cs + (cutWalk p ks e cs).1
  | [], _, _ => rfl
  | k :: ks, e, cs => by
    unfold cutWalk
    split
    · simp_all
    · split
      · exact cutWalk_charges p ks e cs
      · simp only
        have ih := cutWalk_charges p ks (e - cutOf p.channels[k].load e cs[k])
          (cs.set k (cutChannel p.channels[k].load (cutOf p.channels[k].load e cs[k]) cs[k]))
        have hs := chargesSum_set cs k (cutChannel p.channels[k].load (cutOf p.channels[k].load e cs[k]) cs[k])
        have hx : cutOf p.channels[k].load e cs[k] ≤ e := Nat.min_le_left _ _
        have hy : cutOf p.channels[k].load e cs[k] ≤ cs[k].charge := (Nat.min_le_right _ _).trans (Nat.sub_le _ _)
        have hc : (cutChannel p.channels[k].load (cutOf p.channels[k].load e cs[k]) cs[k]).charge =
          cs[k].charge - cutOf p.channels[k].load e cs[k] := rfl
        omega

theorem chargesSum_overdrawn (cs : Vector Channel 8) : chargesSum (cs.map overdrawnChannel) = chargesSum cs := by
  simp [chargesSum, Vector.toList_map, Function.comp_def, overdrawnChannel]

/-- Everything a cut does to the grant, the OVERDRAWN flag and the port. -/
theorem cut_reports (g : Nat) (s : State) (hs : s.heat.overdrawn = false) (hg : g ≤ chargesSum s.heat.channels) :
    (cut g s).heat.grant = s.heat.grant ∧
    (cut g s).port = if (cut g s).heat.overdrawn = true
      then (pushReport (.overdrawn g (chargesSum (cut g s).heat.channels)
        (chargesSum (cut g s).heat.channels - g)) s).port
      else s.port := by
  unfold cut
  have hw := cutWalk_charges s.profile (walkOrder s.heat) (chargesSum s.heat.channels - g) s.heat.channels
  generalize cutWalk s.profile (walkOrder s.heat) (chargesSum s.heat.channels - g) s.heat.channels = r at hw ⊢
  by_cases h : r.1 = 0
  · simp only [if_pos h]
    refine ⟨rfl, ?_⟩
    rw [if_neg (by rw [show (setChannels r.2 s).heat.overdrawn = _ from hs]; decide)]
    rfl
  · simp only [if_neg h]
    rw [show (pushReport _ _).heat = _ from pushReport_frame _ _ .heat (by decide)]
    refine ⟨rfl, ?_⟩
    have he : chargesSum r.2 - g = r.1 := by omega
    simp only [State.setHeat, if_true, chargesSum_overdrawn, he]
    exact pushReport_port _ rfl rfl

/-- Everything the delivery of a grant does to the grant in force and the port. -/
theorem takeGrant_reports (g : Nat) (s : State) : (takeGrant g s).heat.grant = g ∧ ReportsThenCut s s (takeGrant g s) := by
  unfold takeGrant
  simp only
  by_cases h : (s.heat.window.running && !s.heat.overdrawn && decide (g < chargesSum s.heat.channels)) = true
  · rw [if_pos (by exact h)]
    simp only [Bool.and_eq_true, Bool.not_eq_true', decide_eq_true_eq] at h
    obtain ⟨hg, hp⟩ := cut_reports g (s.setHeat { s.heat with grant := g }) h.1.2 h.2.le
    refine ⟨hg, fun hle => absurd (Nat.lt_of_lt_of_le h.2 (hle.trans_eq hg)) (Nat.lt_irrefl _), ?_⟩
    rw [hp, hg]
    simp only [h.1.2, true_and]
    split
    · exact pushReport_port _ rfl rfl
    · rfl
  · rw [if_neg (by exact h)]
    refine ⟨rfl, fun _ => rfl, ?_⟩
    rw [if_neg]
    · rfl
    · rintro ⟨a, b⟩
      exact absurd (a.symm.trans b) (by decide)

/-- Everything the forming and delivery of a grant does to the grant in force and the port. -/
theorem deliverGrant_reports (s : State) :
    (deliverGrant s).heat.grant = (formGrant s).1 ∧ ReportsThenCut s s (deliverGrant s) := by
  obtain ⟨hg, hk, hr⟩ := takeGrant_reports (formGrant s).1
    (s.setShare { s.share with grant := (formGrant s).1, shares := (formGrant s).2.1, limit := (formGrant s).2.2 })
  exact ⟨hg, hk, hr.trans (if_congr Iff.rfl (pushReport_port _ rfl rfl) rfl)⟩

end Sys2Proof.Machine
end

