-- ==== Sys2Proof/Tests/Slice0.lean ====
section
/-! SUPPORT. Tests: the smoke test of well-formedness, the manual's worked cases on one step each, and for every statement
with hypotheses a witness that meets them. Expected values come from the chapter that a test names. -/

namespace Sys2Proof.Tests

open Sys2Proof.Machine

set_option Elab.async false

/-! ## States for the tests -/

/-- The state after a command. -/
def after (c : Instr) (s : State) : State :=
  match exec c s with
  | .next t => t
  | _ => s

/-- A parameter word. -/
def word (n : Nat) : Word := BitVec.ofNat 16 n

/-- A byte. -/
def byte (n : Nat) : Byte := BitVec.ofNat 8 n

/-- The channels of the test profile: 0 BOOSTER, 1 TANK, 2 OVEN, 3 and 4 WARMER. -/
def testChannels : Vector ChanProfile 8 :=
  Vector.ofFn (fun k : Chan => { ChanProfile.initial k with
    kind := match k.val with
      | 0 => .booster
      | 1 => .tank
      | 2 => .oven
      | 3 => .warmer
      | 4 => .warmer
      | _ => .unused })

/-- The roster of the test profile: two pagers of group 1, one of group 2 and one of group 0. -/
def testRoster : Vector RosterEntry 32 :=
  Vector.ofFn (fun i : Fin 32 => match i.val with
    | 0 => ⟨2000, some 0, true⟩
    | 1 => ⟨2201, some 2, true⟩
    | 4 => ⟨2104, some 1, true⟩
    | 9 => ⟨2109, some 1, true⟩
    | _ => ⟨0, none, false⟩)

/-- A profile of station 5 with an oven door, a warmer door and a dish line on its lines, and a radio or none. -/
def testProfile (radio : Bool) : Profile :=
  { Profile.initial with
    stationId := 5
    channels := testChannels
    lines := #v[⟨false, .ovenDoor 2⟩, ⟨false, .warmerDoor 3⟩, ⟨false, .dishEntry⟩, ⟨false, .dishExit⟩,
      ⟨false, .dishDoor⟩, ⟨false, .unused⟩]
    dish := { DishProfile.initial with enable := true }
    radio := radio
    roster := testRoster
    escalation := (Vector.replicate 8 none).set 2 (some 0)
    callMap := Vector.replicate 11 (some 1) }

/-- Station 5 in a station state, everything else as after reset, with a radio or none. -/
def station (st : Station) (radio : Bool) : State :=
  { State.reset with
    life := { Life.initial with station := st, joinNumber := 1 }
    profile := testProfile radio
    dish := Dish.initial (testProfile radio).dish
    paging := Paging.initial (testProfile radio) }

/-- Station 5, ACTIVE, without a radio. -/
def active : State := station .active false

/-- Station 5, ACTIVE, with a radio. -/
def radio : State := station .active true

/-- Station 5 in UNJOINED. -/
def unjoined : State := station .unjoined false

/-- Change one heat channel. -/
def withChannel (k : Chan) (f : Channel → Channel) (s : State) : State :=
  s.setHeat { s.heat with channels := s.heat.channels.set k (f s.heat.channels[k]) }

/-- Change one temperature input. -/
def withInput (k : Chan) (x : TempInput) (s : State) : State :=
  s.setScan { s.scan with inputs := s.scan.inputs.set k x }

/-- Change one switch line. -/
def withLine (l : LineNo) (x : Line) (s : State) : State := s.setLines (s.lines.set l x)

/-- A line whose debounce has run out toward a level. -/
def edgeTo (l : LineNo) (high : Bool) (s : State) : State := withLine l ⟨high, !high, some 0⟩ s

/-- Change the profile. -/
def withProfile (f : Profile → Profile) (s : State) : State := s.setProfile (f s.profile)

/-- Change one warmer's loads. -/
def withLoads (k : Chan) (ls : List Load) (s : State) : State :=
  s.setStock { s.stock with warmers := s.stock.warmers.set k { s.stock.warmers[k] with loads := ls } }

/-- Put holds into the hold table. -/
def withHolds (hs : List Hold) (s : State) : State := s.setStock { s.stock with holds := hs }

/-- Put a frame on the line. -/
def onLine (f : Frame) (s : State) : State :=
  s.setBus { s.bus with onLine := some { frame := f, sender := 5, age := 7, deliver := true } }

/-- Put a frame into the queue. -/
def waiting (f : Frame) (s : State) : State :=
  s.setBus { s.bus with waiting := [{ frame := f, sender := 5, age := 7, deliver := true }] }

/-- An ordinary ANNOUNCE of this station. -/
def announcement : AnnounceBody := ⟨1, 0, .zero, 0, false⟩

/-- A setpoint in progress. -/
def setpoint (target ramp w : Nat) : Setpoint := { target := target, ramp := ramp, w := w }

/-- A rack with a number and a position. -/
def rackAt (number position : Nat) : Rack :=
  { number := number, entryClock := 0, position := position, plates := 20, washMin := none, dwell := 0, rinseMin := none,
    interrupted := false, missed := false, verdict := .pending, trace := [] }

/-- A state at the moment of a sweep completion. -/
def sweeping (s : State) : State := s.setScan { s.scan with phase := 250 }

/-- Change the dish line. -/
def withDish (f : Dish → Dish) (s : State) : State := s.setDish (f s.dish)

/-- A wave on oven 2 with one source at this station. -/
def testWave (n : Nat) (st : WaveState) (r : Source) : Wave :=
  { number := n, oven := 2, fire := 70200, pass := 71400, cook := 900, target := 1800, covers := 180, src1 := r,
    src2 := none, state := st, cookLeft := none, late := false, short := false, check := none, cookMs := 0,
    shortage := false }

/-- A source with its copy of a hold. -/
def source (st ch : Nat) (h : HoldCopy) : Source := ⟨st, ch, h, 0⟩

/-- A peer entry with its silence. -/
def peer (id silence : Nat) : Peer :=
  { id := id, stale := false, epoch := 4, sequence := 5, silence := silence, asks := .zero, drawing := 0, stock := none }

/-- A queued call with a tag and a state. -/
def paged (tag urgency : Nat) (st : PagedState) : Paged :=
  { origin := 3, number := 23, tag := tag, reason := 8, subject := 0, group := 1, urgency := urgency, state := st,
    escalated := false, tried := [], current := none, busyRetries := 0, busyTimer := none, ackTimer := none,
    sentPager := none }

/-- An open call. -/
def openedCall (n : Nat) (r : CallReason) (st : CallState) (t : Option Nat) : Call :=
  { number := n, reason := r, subject := n, group := some 1, urgency := 1, state := st, broadcasts := 1, timer := t,
    lastPager := none }

/-- Change the paging unit. -/
def withPaging (f : Paging → Paging) (s : State) : State := s.setPaging (f s.paging)

/-- The modem awaits the result of the SEND of tag 61. -/
def sending (timer : Option Nat) : Option ModemWait := some ⟨.send 61 2104 8 0 2, timer⟩

/-- A MISSED report of a rack number. -/
def missedOf (n : Nat) : RackReport := ⟨n, 0, 0, 0, none, none, false, true, .rewash, 0⟩

/-- A conversion with every temperature at `x`. -/
def conversion (x i0 i1 : Int) : Conversions := ⟨Vector.replicate 8 x, i0, i1⟩

/-- What the statements say of numeric parameters, on words, the values they stand for and whether they count as clamped. -/
def takes (lo hi d : Nat) (qs : List (Nat × Nat × Bool)) : Bool :=
  qs.all (fun q => decide (Takes lo hi d (word q.1) q.2.1 q.2.2))

/-- The same of wide parameters, on both words. -/
def takesWide (lo hi d : Nat) (qs : List (Nat × Nat × Nat × Bool)) : Bool :=
  qs.all (fun q => decide (TakesWide lo hi d (word q.1) (word q.2.1) q.2.2.1 q.2.2.2))

/-! ## Well-formedness: each check refuses an ill-formed term -/

theorem test_wf_record : (Instr.heat (List.replicate 256 0)).wellFormed = false := by decide +kernel

theorem test_wf_bad_frame : (Instr.badFrame (List.replicate 54 0)).wellFormed = false := by decide +kernel

theorem test_wf_frame_bytes : (Instr.frameMismatch [133, 9, 0, 0]).wellFormed = false := by decide +kernel

theorem test_wf_kind : (Instr.duplicateId 256).wellFormed = false := by decide +kernel

theorem test_wf_sender : (Instr.announce 31 announcement).wellFormed = false := by decide +kernel

theorem test_wf_frame_field : (Instr.holdFree 3 ⟨5, 256, 14, 2⟩).wellFormed = false := by decide +kernel

theorem test_wf_asks : (Instr.announce 3 { announcement with asks := ⟨65536, 0, 0, 0⟩ }).wellFormed = false := by
  decide +kernel

theorem test_wf_warmers : (Instr.stock 3 ⟨none, List.replicate 9 ⟨1, 0, 0⟩⟩).wellFormed = false := by decide +kernel

theorem test_wf_peer : (Instr.silenceStale 0).wellFormed = false := by decide +kernel

theorem test_wf_tag : (Instr.holdExpiry 16).wellFormed = false := by decide +kernel

theorem test_wf_number : (Instr.cookTimer 0).wellFormed = false := by decide +kernel

theorem test_wf_result_tag : (Instr.result 256 .sent).wellFormed = false := by decide +kernel

theorem test_wf_address : (Instr.ack 65536 1).wellFormed = false := by decide +kernel

theorem test_wf_code : (Instr.unknownCommand 16).wellFormed = false := by decide +kernel

theorem test_wf_accepts : (Instr.unknownCommand 8).wellFormed = true ∧ (Instr.heat [2, 1800, 0]).wellFormed = true ∧
    (Instr.holdFree 5 ⟨3, 0, 14, 2⟩).wellFormed = true := by decide +kernel

/-! ## The manual's worked cases -/

/-- Chapter 1, the failing probe: sweeps 5 and 6. -/
theorem test_second_bad_sweep_faults :
    (after (.sweepCompletion (conversion 3800 0 0)) (withInput 2 ⟨1810, false, 1, 0⟩ (sweeping active))).scan.inputs[(2 : Chan)] =
      ⟨1810, true, 2, 0⟩ := by decide +kernel

/-- Chapter 1, the failing probe: sweep 10. -/
theorem test_fourth_good_sweep_clears :
    (after (.sweepCompletion (conversion 1825 0 0)) (withInput 2 ⟨1810, true, 0, 3⟩ (sweeping active))).scan.inputs[(2 : Chan)] =
      ⟨1825, false, 0, 4⟩ := by decide +kernel

/-- Chapter 1, the drawing: completion 5, raw 2270 and 1990 after 1200, 1350, 980 and 1410. -/
theorem test_drawing :
    drawingOf (after (.sweepCompletion (conversion 20 2270 1990))
      (active.setScan { active.scan with phase := 250, history := #v[1200, 1350, 980, 1410] })).scan = 1435 := by decide +kernel

/-- Chapter 1, the cabinet at JOIN: the open oven door sets the door flag, a use taken by a lower line is UNUSED. -/
theorem test_join_reads_the_doors :
    (after (.join []) (withLine 0 ⟨false, false, none⟩ (unjoined.setProfile { unjoined.profile with
      lines := unjoined.profile.lines.set 5 ⟨true, .ovenDoor 2⟩ }))).heat.channels[(2 : Chan)].doorFlag = true ∧
    resolvedUse { unjoined.profile with lines := unjoined.profile.lines.set 5 ⟨true, .ovenDoor 2⟩ } 5 = .unused := by
  decide +kernel

/-- A due window start at which channel 2, with PB 300, Ki 6 and L 350, holds W 1800. -/
def demandCase (reading : Int) (duty demand : Nat) : State :=
  withProfile (fun p => { p with channels := p.channels.set 2 { p.channels[(2 : Chan)] with
      band := 300, integralWindows := 6, load := 350 } })
    (withInput 2 ⟨reading, false, 0, 4⟩
      (withChannel 2 (fun c => { c with
          state := .regulate (setpoint 1800 0 1800), integral := 120, demand := demand, duty := duty })
        (active.setHeat { active.heat with window := ⟨true, 0, true⟩, grant := 600 })))

/-- Chapter 2, one channel's demand: 703 with the integral at 203. -/
theorem test_demand :
    (after .windowStart (demandCase 1650 700 700)).heat.channels[(2 : Chan)].demand = 703 ∧
      (after .windowStart (demandCase 1650 700 700)).heat.channels[(2 : Chan)].integral = 203 := by decide +kernel

/-- Chapter 2, one channel's demand: frozen it is 620, and at 1830 the truncation toward zero gives 4. -/
theorem test_demand_frozen_and_negative :
    (after .windowStart (demandCase 1650 620 700)).heat.channels[(2 : Chan)].demand = 620 ∧
      (after .windowStart (demandCase 1830 700 700)).heat.channels[(2 : Chan)].demand = 4 := by decide +kernel

/-- Chapter 2, the ramp: 50 from the target within 100 enters REGULATE. -/
theorem test_ramp_reaches_target :
    (after .windowStart (withChannel 2 (fun c => { c with state := .ramp (setpoint 1800 100 1750) })
      (demandCase 1750 0 0))).heat.channels[(2 : Chan)].state = .regulate (setpoint 1800 100 1800) := by decide +kernel

/-- The four channels of chapter 2's allocation case: loads 350, 350, 120, 120, the third a warmer. -/
def allocationProfile : Profile :=
  { testProfile false with
    channels := Vector.ofFn (fun k : Chan => { ChanProfile.initial k with
      kind := match k.val with
        | 0 => .oven
        | 1 => .oven
        | 2 => .warmer
        | 3 => .oven
        | _ => .unused
      load := if k.val < 2 then 350 else 120
      baseClass := if k.val = 2 then 1 else 2
      band := 100
      integralWindows := 0 }) }

/-- The allocation case's channels with demands 900, 700, 500 and 1000 at the window start, grant 600. -/
def allocationCase : State :=
  let heated (w : Nat) (c : Channel) : Channel := { c with state := .regulate (setpoint w 0 w) }
  withChannel 0 (heated 90) (withChannel 1 (heated 70) (withChannel 2 (heated 50) (withChannel 3 (heated 100)
    ((active.setProfile allocationProfile).setHeat
      { active.heat with window := ⟨true, 0, true⟩, grant := 600 }))))

/-- Chapter 2, allocation under a grant of 600. -/
theorem test_allocation :
    (after .windowStart allocationCase).heat.channels.toList.map (fun c => (c.duty, c.charge)) =
      [(900, 315), (700, 245), (0, 0), (333, 40), (0, 0), (0, 0), (0, 0), (0, 0)] := by decide +kernel

/-- The allocation case with `ms` served by channels 0 and 1, up to their on-times, and 3,330 by channel 3. -/
def served (ms : Nat) : State :=
  let run (c : Channel) : Channel :=
    { c with served := min ms c.onTime, heater := c.heater && decide (min ms c.onTime < c.onTime) }
  withChannel 0 run (withChannel 1 run (withChannel 3 run (after .windowStart allocationCase)))

/-- Chapter 2, a cut at 4,000 ms to a grant of 450. -/
theorem test_cut :
    (takeGrant 450 (served 4000)).heat.channels.toList.map (fun c => (c.charge, c.onTime)) =
      [(270, 7714), (140, 4000), (0, 0), (40, 3330), (0, 0), (0, 0), (0, 0), (0, 0)] := by decide +kernel

/-- Chapter 2, an OVERDRAWN window at 8,000 ms: grant 200, sum 565, excess 365. -/
theorem test_overdrawn :
    (takeGrant 200 (served 8000)).port.reports = [⟨0, .overdrawn 200 565 365⟩] ∧
      (takeGrant 200 (served 8000)).heat.overdrawn = true ∧
      (takeGrant 200 (served 8000)).heat.channels[(0 : Chan)].duty = 800 := by decide +kernel

/-- Chapter 3, the arbitration bytes of S5's ANNOUNCE, S9's ANNOUNCE and S2's PAGE-CALL. -/
theorem test_arbitration_bytes :
    arbitration 5 (.announce announcement) = 37 ∧ arbitration 9 (.announce announcement) = 41 ∧
      arbitration 2 (.pageCall ⟨1, 1, 1, 1, 1⟩) = 66 := by decide +kernel

/-- The queue of chapter 3's busy second, offered at 1,000, 1,004, 990, 1,002 and 995 ms. -/
def busySecond : State :=
  [Frame.holdAsk ⟨3, 1, 1, 1, 60⟩, .stock ⟨none, []⟩, .announce announcement, .holdAsk ⟨3, 2, 1, 1, 60⟩,
    .pageCall ⟨1, 1, 1, 1, 1⟩].foldl (fun s f => offer f s) active

/-- Chapter 3, a busy second: the order of the queue. -/
theorem test_queue_order :
    busySecond.bus.waiting.map (fun e => (kindCode e.frame, e.age)) = [(1, 2), (2, 4), (5, 0), (5, 3), (9, 1)] := by
  decide +kernel

/-- Chapter 3, a busy second: a STOCK replaces the waiting one in a full queue, and a HOLD-FREE is refused. -/
theorem test_full_queue :
    let full := [1, 2, 3].foldl (fun s n => offer (.holdFree ⟨3, n, 1, 1⟩) s) busySecond
    occupied full.bus = 8 ∧ offer (.holdFree ⟨3, 9, 1, 1⟩) full = full ∧
      (offer (.stock ⟨some 4, []⟩) full).bus.waiting.length = 8 := by decide +kernel

/-- Chapter 4, one peer seen from S5: epoch 4, sequence 4 after 2 updates; sequence 0 after 5 restarts by SEQUENCE. -/
theorem test_forward_distance :
    (after (.announce 7 ⟨4, 7, .zero, 0, false⟩) (active.setPeers [peer 7 1000])).peers.map
      (fun p => (p.sequence, p.silence)) = [(7, 0)] ∧
    (after (.announce 7 ⟨4, 0, .zero, 0, false⟩) (active.setPeers [peer 7 1000])).port.reports =
      [⟨0, .peer 7 4 (.restarted 4 false)⟩] := by decide +kernel

/-- Chapter 5, one station's grant: own asks 0, 900, 600, 0, drawing 1400, and three peers. -/
def grantCase : State :=
  let p (id : Nat) (a : Asks) (d : Nat) : Peer := { peer id 0 with asks := a, drawing := d }
  (active.setPeers [p 2 ⟨450, 1200, 0, 200⟩ 2100, p 7 ⟨0, 800, 700, 0⟩ 900, p 9 ⟨0, 0, 500, 400⟩ 300]).setShare
    { active.share with asks := ⟨0, 900, 600, 0⟩, drawing := 1400 }

/-- Chapter 5, one station's grant: 966 at limit point class 1. -/
theorem test_grant : formGrant grantCase = (966, ⟨0, 900, 66, 0⟩, .class 1) := by decide +kernel

/-- Chapter 5, three stations that agree: S3's grant is 1042. -/
theorem test_three_stations :
    (formGrant ((withProfile (fun p => { p with feeder := ⟨3000, 300, 1500, 300⟩ }) (active.setPeers
      [{ peer 4 0 with asks := ⟨0, 900, 250, 0⟩ }, { peer 6 0 with asks := ⟨0, 700, 150, 0⟩ }])).setShare
      { active.share with asks := ⟨400, 600, 300, 0⟩ })).1 = 1042 := by decide +kernel

/-- Chapter 5, isolation: the third UNACKED result gives ISOLATED and the allowance 300; the next ACKED gives ACTIVE. -/
theorem test_isolation :
    let s := onLine (.announce announcement) (active.setShare { active.share with unacked := 2 })
    (after (.frameResult false) s).life.station = .isolated ∧ (after (.frameResult false) s).heat.grant = 300 ∧
      (after (.frameResult true) (onLine (.announce announcement) (station .isolated false))).life.station = .active := by
  decide +kernel

/-- Chapter 6, one evening: JOIN without an identifier is refused with CONDITION naming item 1. -/
theorem test_join_names_the_identifier :
    (after (.join []) State.reset).port.reply = .refused 3 (.condition (some (1, 0))) := by decide +kernel

/-- Chapter 6, one evening: an accepted JOIN, and a PROFILE-PUT of Tsan after it. -/
theorem test_join_then_put :
    (after (.join []) unjoined).life.joinNumber = 2 ∧
      (after (.profilePut [21, 0, 0, 800]) (after (.join []) unjoined)).port.reply = .refused 2 .stage := by
  decide +kernel

/-- Chapter 7, two racks: 125 mm/s and level 106; a rack at 3806 mm with proof of wash and rinse is CLEAN. -/
theorem test_clean_rack :
    let s := edgeTo 3 false (withDish (fun d => { d with
      mode := .on, clean := 140, racks := [{ rackAt 41 38060 with dwell := 8000, washMin := some 672 }] }) active)
    (after (.lineEdge 3) s).dish.clean = 160 ∧
      (after (.lineEdge 3) s).dish.racks.map (fun r => r.verdict) = [.clean] := by decide +kernel

/-- Chapter 7, two racks: an ENTRY event 150 mm behind the newest rack is the same rack. -/
theorem test_same_rack :
    (after (.lineEdge 2) (edgeTo 2 false (withDish (fun d => { d with mode := .on, racks := [rackAt 41 1500] })
      active))).dish.racks.length = 1 := by decide +kernel

/-- Chapter 7, the booster falls behind: sweep 1 at 812 sets the RINSE hold, sweep 4 at 822 adds dwell and keeps it. -/
theorem test_rinse_hold :
    let s (hold : Bool) := withDish (fun d => { d with
      mode := .on, holds := { d.holds with rinse := hold }, racks := [{ rackAt 57 26500 with dwell := 3250 }] }) (sweeping active)
    (after (.sweepCompletion (conversion 812 0 0)) (s false)).dish.holds.rinse = true ∧
      (after (.sweepCompletion (conversion 822 0 0)) (s true)).dish.holds.rinse = true ∧
      (after (.sweepCompletion (conversion 822 0 0)) (s true)).dish.racks.map (fun r => r.dwell) = [3500] ∧
      (after (.sweepCompletion (conversion 833 0 0)) (s true)).dish.holds.rinse = false := by decide +kernel

/-- A station with loads of 80, 80 and 80 plates on warmer 3 and a capacity of 240; the first is ready. -/
def warmerCase : State :=
  withLoads 3 [⟨1, 80, 0, 1200000⟩, ⟨2, 80, 0, 650000⟩, ⟨3, 80, 0, 630000⟩]
    (withProfile (fun p => { p with warmers := p.warmers.set 3 ⟨240, 600, 1200⟩ }) active)

/-- Chapter 8, one warmer: a LOAD of 100 into 80 free loads 80 and is DONE-CLAMPED; a full warmer refuses with FULL. -/
theorem test_load :
    (after (.load [3, 100]) (withLoads 3 [⟨1, 80, 0, 590000⟩, ⟨2, 80, 0, 20000⟩] warmerCase)).port.reply =
      .done 48 true (.loaded 80 1 false) ∧
    (after (.load [3, 10]) warmerCase).port.reply = .refused 48 .full := by decide +kernel

/-- Chapter 8, one warmer: S3 holds 50 of 80 ready plates; an untagged TAKE of 40 takes 30. -/
theorem test_untagged_take :
    (after (.take [3, 40]) (withHolds [⟨0, 3, 12, 3, 50, 900000⟩] warmerCase)).port.reply =
      .done 49 true (.taken 80 30 none) := by decide +kernel

/-- Chapter 8, one warmer: a tagged TAKE of 20 leaves 30 in the hold. -/
theorem test_tagged_take :
    let s := after (.take [3, 20, 0]) (withHolds [⟨0, 3, 12, 3, 50, 900000⟩]
      (withLoads 3 [⟨1, 50, 0, 1200000⟩] warmerCase))
    s.port.reply = .done 49 false (.taken 50 20 (some 30)) ∧ s.stock.holds.map (fun h => h.count) = [30] := by
  decide +kernel

/-- Chapter 8, holds on a cooling warmer: the reset cuts every hold and reports 3 loads, 190 ready and 3 holds. -/
theorem test_cooling_reset :
    let s := withHolds [⟨0, 3, 12, 3, 30, 900000⟩, ⟨1, 4, 7, 3, 100, 900000⟩, ⟨2, 5, 9, 3, 60, 900000⟩]
      (withLoads 3 [⟨1, 30, 0, 1200000⟩, ⟨2, 80, 0, 1200000⟩, ⟨3, 80, 0, 1200000⟩]
        (active.setStock { active.stock with
          warmers := active.stock.warmers.set 3 { Warmer.initial with cooling := 120000 } }))
    (after (.coolingReset 3) s).stock.holds = [] ∧
      (after (.coolingReset 3) s).port.reports = [⟨0, .cooled 3 3 190 3⟩] := by decide +kernel

/-- Chapter 9, a main course: at 5 s need 1 is 130 and need 2 is 50; at 1205 s need 1 is 180. -/
theorem test_needs :
    let w : Wave := { testWave 14 .preheat (source 5 1 (.held 130 3)) with src2 := some (source 3 2 (.held 50 5)) }
    need1 w = 130 ∧ need2 w = 50 ∧ need1 { w with src2 := some (source 3 2 .none) } = 180 := by decide +kernel

/-- Chapter 9, a cook timer that waits: 1650 counts a second, 1649 and an IDLE oven do not. -/
theorem test_cook_second :
    let s (x : Int) (st : ChanState) := withInput 2 ⟨x, false, 0, 4⟩ (withChannel 2 (fun c => { c with state := st })
      (active.setWaves [{ testWave 15 .cooking (source 5 1 .none) with cookLeft := some 400 }]))
    (after (.cookTimer 15) (s 1650 (.regulate (setpoint 1800 0 1800)))).waves.map (fun w => w.cookLeft) = [some 399] ∧
      (after (.cookTimer 15) (s 1649 (.regulate (setpoint 1800 0 1800)))).waves.map (fun w => w.cookLeft) =
        [some 400] ∧
      (after (.cookTimer 15) (s 1700 .idle)).waves.map (fun w => w.cookLeft) = [some 400] := by decide +kernel

/-- Chapter 10, a jam paged by rotation: taken and sent at once to index 4; the second page goes to index 9. -/
theorem test_rotation :
    (after (.pageCall 3 ⟨23, 8, 0, 1, 2⟩) radio).paging.modem = some ⟨.send 1 2104 8 0 2, none⟩ ∧
      (after (.ackTimerExpiry 61) (withPaging (fun g => { g with
        queue := [{ paged 61 2 .awaitAck with tried := [4], ackTimer := some 0 }] }) radio)).paging.modem =
        some ⟨.send 61 2109 8 0 2, none⟩ := by decide +kernel

/-- Chapter 10, a jam paged by rotation: a late ACK of 2104 ends the call and moves the pointer of group 1 to 4. -/
theorem test_late_ack :
    let s := after (.ack 2104 61) (withPaging (fun g => { g with collecting := true, queue := [paged 61 2 .awaitAck] }) radio)
    s.paging.queue = [] ∧ s.paging.pointer.toList.getD 1 none = some 4 := by decide +kernel

/-- Chapter 10, an oven swept and escalated: with group 2 exhausted the page goes to 2000 in group 0. -/
theorem test_escalation :
    (after (.ackTimerExpiry 62) (withPaging (fun g => { g with
      queue := [{ paged 62 3 .awaitAck with group := 2, tried := [1, 2], ackTimer := some 0 }] }) radio)).paging.modem =
      some ⟨.send 62 2000 8 0 3, none⟩ := by decide +kernel

/-- Chapter 11, transactions and reports: HEAT with target 3000 acts on 2450; a token for an identifier is MALFORMED. -/
theorem test_panel_replies :
    (after (.heat [2, 3000, 65535]) active).port.reply = .done 16 true .none ∧
      (after (.waveFire [65534]) active).port.reply = .refused 65 .malformed ∧
      (after (.waveFire [300]) active).port.reply = .refused 65 .noSuch := by decide +kernel

/-- Chapter 11, transactions and reports: a tripped oven refuses HEAT with STATE and shows in the status byte. -/
theorem test_status_of_a_trip :
    let s := withChannel 2 (fun c => { c with state := .tripped .overheat }) active
    (after (.heat [2, 1800, 0]) s).port.reply = .refused 16 .state ∧ statusByte s = 73 := by decide +kernel

/-- Chapter 11: the report that overflows the queue removes the oldest, and the next READ-REPORT carries GAP. -/
theorem test_gap :
    let s := (List.range 33).foldl (fun s n => pushReport (.missed (missedOf n)) s) active
    s.port.reports.length = 32 ∧ s.port.gap = true ∧ (after (.readReport []) s).port.gap = false ∧
      (after (.readReport []) s).port.reply = .done 7 false (.report true (some ⟨0, .missed (missedOf 1)⟩)) := by
  decide +kernel

/-- Section 12.1: the check word of the HOLD-FREE from S5 to S3 is sent as 0 and 164. -/
theorem test_check_word : frameBytes 5 (.holdFree ⟨3, 0, 14, 2⟩) = [133, 8, 4, 3, 0, 14, 2, 0, 164] := by decide +kernel

/-- Section 12.1: those bytes are received at S3 as that HOLD-FREE, and with another check word as a bad frame. -/
theorem test_received_frame :
    receivedCommand 3 [133, 8, 4, 3, 0, 14, 2, 0, 164] = .holdFree 5 ⟨3, 0, 14, 2⟩ ∧
      receivedCommand 3 [133, 8, 4, 3, 0, 14, 2, 0, 165] = .badFrame [133, 8, 4, 3, 0, 14, 2, 0, 165] := by
  decide +kernel

/-- Section 12.2: a whole HEAT record, its status alone, and a record cut short. -/
theorem test_command_records :
    transactionCommand [16, 3, 0, 2, 7, 8, 0, 100] = .heat [2, 1800, 100] ∧ transactionCommand [] = .statusOnlyEnd ∧
      transactionCommand [16, 3, 0, 2] = .incompleteCommand (some 16) := by decide +kernel

/-- Section 12.3: an ACK record of pager 2104 for tag 61 with its check word. -/
theorem test_modem_record :
    recordCommand [4, 4, 8, 56, 61, 0, 133] = .ack 2104 61 ∧
      recordBytes (.send 61 2104 8 0 2) = [126, 8, 1, 61, 8, 56, 8, 0, 0, 2, 0, 144] := by decide +kernel

/-! ## Witnesses: the hypotheses of each statement, met clause by clause -/

theorem witness_StepTakesFrontCommand :
    (active.setPending [.statusOnlyEnd, .startByte]).pending = .statusOnlyEnd :: [.startByte] := by decide +kernel

theorem witness_LeaveClearsTheRuntimeTables :
    (portDeaf active = false ∧ joined active = true ∧ maySend active = true) ∧
      portDeaf (station .duplicate false) = false ∧ joined (station .duplicate false) = true ∧
      maySend (station .duplicate false) = false := by decide +kernel

theorem witness_TransactionsReadTheStatusAndTheReports :
    let run (r : Reply) := active.setPort { active.port with reply := r, transaction := .running 65 }
    (awake active = true ∧ portDeaf active = false ∧ active.port.reports = []) ∧
      (awake (active.setResetting .pin) = false ∧ portDeaf (active.setResetting .pin) = true) ∧
      portDeaf (active.setPort { active.port with transaction := .dead }) = true ∧
      (pushReport (.radio true) active).port.reports = ⟨0, .radio true⟩ :: [] ∧
      ((run .none).port.transaction = .running 65 ∧ (run .none).port.reply = .none ∧
        (run (.done 48 true (.loaded 80 1 false))).port.reply = .done 48 true (.loaded 80 1 false) ∧
        (run (.refused 16 .state)).port.reply = .refused 16 .state ∧
        (resultBytes (run .none).port.reply).length + 5 ≤ 5) := by decide +kernel

theorem witness_LineFaultsAndDiscardedFramesAreContained :
    let bytes (n : Nat) : List Byte := [byte n, 9, 0, 0, 0]
    awake active = true ∧ joined active = true ∧ joined unjoined = false ∧ active.bus.stuck = false ∧
      (active.setBus { active.bus with stuck := true }).bus.stuck = true ∧
      (unjoined.setBus { unjoined.bus with leaveTimer := some 500 }).bus.leaveTimer = some 500 ∧
      (1 ≤ senderOf (bytes 161) ∧ senderOf (bytes 161) ≠ active.profile.stationId) ∧
      (senderOf (bytes 190) ≤ 30 ∧ senderOf (bytes 190) ≠ active.profile.stationId) ∧ senderOf (bytes 160) = 0 ∧
      senderOf (bytes 191) = 31 ∧ senderOf (bytes 165) = active.profile.stationId := by decide +kernel

theorem witness_ClockIsSetAndTimePassesOnAnEmptyQueue :
    let second := active.setLife { active.life with second := ⟨true, 0, true⟩ }
    (portDeaf active = false ∧ joined active = true ∧ takesWide 0 86399 0 [(1, 20863, 86399, false),
        (1, 20864, 86399, true), (65533, 9, 0, false), (65534, 0, 86399, false), (65535, 0, 0, false)] = true) ∧
      (awake second = true ∧ second.life.second.due = true ∧ second.waves = [] ∧ second.pending = [] ∧
        nextDue second = some .clockSecond) ∧
      (let s := active.setResetting .pin
       s.pending = [] ∧ s.resetting = .pin) ∧ (active.setResetting (.restart 9)).resetting = .restart (8 + 1) ∧
      (active.pending = [] ∧ nextDue active = none ∧ active.resetting = .no ∧ active.scan.phase < 250) ∧
      (nextDue (sweeping active) = none ∧ 250 ≤ (sweeping active).scan.phase) ∧
      (active.life.second.running = true ∧ active.life.second.phase + 1 < 1000 ∧ active.heat.window.running = false) ∧
      1000 ≤ (active.setLife { active.life with second := ⟨true, 999, false⟩ }).life.second.phase + 1 := by
  decide +kernel

theorem witness_SweepTripsHotAndFaultedChannels :
    let start := sweeping active
    let hot := after (.sweepCompletion (conversion 2500 0 0)) start
    let s := withInput 2 ⟨1800, false, 1, 0⟩ start
    let bad := after (.sweepCompletion (conversion 3601 0 0)) s
    (awake start = true ∧ joined start = true ∧ 250 ≤ start.scan.phase) ∧
      (tripsChecked start 2 = true ∧ flagged hot 2 = false ∧
        (start.profile.channels[(2 : Chan)].highLimit : Int) ≤ reading hot 2) ∧
      (tripsChecked s 2 = true ∧ flagged s 2 = false ∧ flagged bad 2 = true) ∧ tripsChecked start 5 = false ∧
      reading (after (.sweepCompletion (conversion 2499 0 0)) start) 2 <
        (start.profile.channels[(2 : Chan)].highLimit : Int) ∧
      (bad.heat.channels[(2 : Chan)].state = .tripped .sensor ∧ s.profile.radio = false ∧
        s.paging.calls.length ≤ 8 ∧ s.paging.calls.Pairwise (fun x y => x.number ≠ y.number)) := by decide +kernel

theorem witness_WindowStartStepsSetpointAndDemand :
    let s := demandCase 1650 620 700
    awake s = true ∧ s.heat.window.due = true ∧ setpointOf s.heat.channels[(2 : Chan)].state = some (setpoint 1800 0 1800) ∧
      setpointOf s.heat.channels[(3 : Chan)].state = none ∧
      (s.heat.channels[(2 : Chan)].duty < s.heat.channels[(2 : Chan)].demand ∧ reading s 2 < 1800) ∧
      ¬ ((demandCase 1650 700 700).heat.channels[(2 : Chan)].duty = 1000 ∨
        (demandCase 1650 700 700).heat.channels[(2 : Chan)].duty <
          (demandCase 1650 700 700).heat.channels[(2 : Chan)].demand ∨
        (demandCase 1650 700 700).heat.channels[(2 : Chan)].demand = 0 ∨
        (demandCase 1650 700 700).heat.channels[(2 : Chan)].doorSeen = true) := by decide +kernel

theorem witness_HeatSetsTargetRampAndSetpoint :
    let s (x : ChanState) := withChannel 2 (fun c => { c with state := x }) active
    (portDeaf active = false ∧ joined active = true ∧ (word 2).toNat = (2 : Chan).val ∧
        (word 5).toNat = (5 : Chan).val ∧ active.profile.channels[(5 : Chan)].kind = .unused) ∧
      (takes 0 2450 0 [(2450, 2450, false), (2451, 2450, true), (65533, 0, false), (65534, 2450, false)] = true ∧
        takes 0 500 0 [(65535, 0, false)] = true) ∧
      active.profile.channels[(2 : Chan)].kind ≠ .unused ∧ isTripped active.heat.channels[(2 : Chan)].state = false ∧
      isTripped (s (.tripped .sensor)).heat.channels[(2 : Chan)].state = true ∧
      active.heat.channels[(2 : Chan)].state = .idle ∧
      (s (.ramp (setpoint 1800 50 900))).heat.channels[(2 : Chan)].state = .ramp (setpoint 1800 50 900) ∧
      (s (.regulate (setpoint 1800 0 1800))).heat.channels[(2 : Chan)].state = .regulate (setpoint 1800 0 1800) := by
  decide +kernel

theorem witness_OfferFollowsTheQueueRules :
    let full := [1, 2, 3].foldl (fun s n => offer (.holdFree ⟨3, n, 1, 1⟩) s) busySecond
    maySend unjoined = false ∧ maySend active = true ∧
      busySecond.bus.waiting.any (sameWaiting (.stock ⟨none, []⟩)) = true ∧
      (busySecond.bus.waiting.any (sameWaiting (.pageCancel 9)) = false ∧ occupied busySecond.bus < 8) ∧
      full.bus.waiting.any (sameWaiting (.pageCancel 9)) = false ∧ 8 ≤ occupied full.bus ∧
      busySecond.bus.waiting.Pairwise (fun a b => goesBefore b a = false) ∧
      (onLine (.pageCancel 1) active).bus.onLine = some ⟨.pageCancel 1, 5, 7, true⟩ := by decide +kernel

theorem witness_FrameResultsFreeTheEntryAndCountAnnouncements :
    let e (f : Frame) : TxEntry := { frame := f, sender := 5, age := 7, deliver := true }
    let s := onLine (.announce announcement) (active.setShare { active.share with unacked := 2 })
    (awake s = true ∧ maySend s = true ∧ s.bus.onLine = some (e (.announce announcement)) ∧
        (e (.announce announcement)).deliver = true ∧ announcement.leaving = false ∧ s.life.station = .active ∧
        s.share.unacked = 2) ∧
      ((onLine (.pageCancel 1) active).bus.onLine = some (e (.pageCancel 1)) ∧ kindCode (.pageCancel 1) ≠ 1) ∧
      (onLine (.announce announcement) active).share.unacked ≠ 2 ∧
      (onLine (.announce announcement) (station .isolated false)).life.station = .isolated ∧
      openCall .isolated 5 (withPaging (fun g => { g with
        calls := [{ openedCall 4 .isolated .calling none with subject := 5 }] }) (station .isolated false)) =
          some { openedCall 4 .isolated .calling none with subject := 5 } ∧
      chargesSum s.heat.channels ≤ min s.profile.feeder.ceiling s.profile.feeder.allowance ∧
      (active.bus.onLine = none ∧ isLeaving (.announce { announcement with leaving := true }) = true ∧
        isLeaving (.pageCancel 1) = false ∧ isLeaving (.announce announcement) = false ∧
        ((after (.leave []) s).bus.onLine.map (fun e => e.deliver)) = some false) := by decide +kernel

/-- R92, R93: the reports and the call of an isolation, of the return to ACTIVE and of a DUPLICATE-ID. -/
theorem test_stationReports :
    let line (s : State) := onLine (.announce announcement) s
    let t := after (.frameResult false) (line (active.setShare { active.share with unacked := 2 }))
    let u := after (.frameResult true) (line t)
    (t.port.reports.map (fun r => r.body) = [.station .active .isolated 1 (.unheard 3)] ∧
        (openCall .isolated 5 t).isSome = true) ∧
      (u.port.reports.map (fun r => r.body) = [.station .active .isolated 1 (.unheard 3), .station .isolated .active 1 .heard] ∧
        u.paging.calls = []) ∧
      (after (.duplicateId 9) t).port.reports.map (fun r => r.body) =
        [.station .active .isolated 1 (.unheard 3), .station .isolated .duplicate 1 (.duplicateId 9)] ∧
      (after (.duplicateId 9) t).paging.calls = [] := by decide +kernel

theorem witness_AnnounceTickFormsAsksAndOffers :
    let tick (s : State) := s.setShare { s.share with tick := ⟨true, 0, true⟩ }
    (awake (tick active) = true ∧ (tick active).share.tick.due = true ∧ maySend (tick active) = true ∧
        occupied (tick active).bus < 7) ∧
      ((tick (active.setStock { active.stock with changed := true })).stock.changed = true ∧
        hasStock active.profile = true ∧ active.stock.changed = false) ∧
      (tick busySecond).bus.waiting.any (fun e => decide (kindCode e.frame = 1)) = true ∧
      (tick (station .duplicate false)).share.tick.due = true ∧ maySend (tick (station .duplicate false)) = false := by
  decide +kernel

/-- The class totals of the grant case. -/
def classTotal (n : Nat) : Nat :=
  askOf grantCase.share.asks n + (grantCase.peers.map (fun p => askOf p.asks n)).sum +
    (if n = 3 then (grantCase.share.drawing - asksSum grantCase.share.asks) +
      (grantCase.peers.map (fun p => p.drawing - asksSum p.asks)).sum else 0)

/-- What the higher classes of the grant case take. -/
def classAbove : Nat → Nat
  | 0 => classTotal 3 + classTotal 2 + classTotal 1
  | 1 => classTotal 3 + classTotal 2
  | 2 => classTotal 3
  | _ => 0

theorem witness_GrantFollowsTheClassWaterFill :
    (unjoined.life.station = .unjoined ∧ (station .listening false).life.station = .listening ∧
        (station .isolated false).life.station = .isolated ∧ (station .duplicate false).life.station = .duplicate) ∧
      grantCase.life.station = .active ∧ classAbove 3 = 0 ∧
      (∀ n, classAbove n = classAbove (n + 1) + classTotal (n + 1) ∨ 3 ≤ n) ∧
      (classAbove 2 + classTotal 2 ≤ 3800 ∧ classAbove 1 ≤ 3800 ∧ 3800 < classAbove 1 + classTotal 1 ∧
        3800 < classAbove 0) := by
  refine ⟨by decide +kernel, by decide +kernel, rfl, fun n => ?_, by decide +kernel⟩
  match n with
  | 0 => exact .inl (by decide +kernel)
  | 1 => exact .inl (by decide +kernel)
  | 2 => exact .inl (by decide +kernel)
  | n + 3 => exact .inr (by omega)

theorem witness_AnnounceCreatesUpdatesRestartsOrRemovesTheEntry :
    let s := active.setPeers [peer 1 0, peer 30 0]
    awake s = true ∧ joined s = true ∧ 1 ≠ s.profile.stationId ∧ 30 ≠ s.profile.stationId ∧ findPeer 7 s = none ∧
      findPeer 1 s = some (peer 1 0) ∧ (4 = (peer 1 0).epoch ∧ 1 ≤ (6 + 256 - (peer 1 0).sequence % 256) % 256 ∧
        (21 + 256 - (peer 1 0).sequence % 256) % 256 ≤ 16) ∧ 5 ≠ (peer 1 0).epoch ∧
      (5 + 256 - (peer 1 0).sequence % 256) % 256 = 0 ∧ 16 < (22 + 256 - (peer 1 0).sequence % 256) % 256 ∧
      announcement.leaving = false ∧ ({ announcement with leaving := true } : AnnounceBody).leaving = true := by
  decide +kernel

/-- R58, R59, R66: the reports of a restart by EPOCH, of one by SEQUENCE and of a leaving peer, and none without an entry. -/
theorem test_peerReports :
    let s := active.setPeers [peer 7 0]
    let reports (id epoch seq : Nat) (leaving : Bool) :=
      (after (.announce id ⟨epoch, seq, .zero, 0, leaving⟩) s).port.reports.map (fun r => r.body)
    reports 7 9 6 false = [.peer 7 4 (.restarted 9 true)] ∧ reports 7 4 22 false = [.peer 7 4 (.restarted 4 false)] ∧
      reports 7 1 1 true = [.peer 7 4 (.left 5)] ∧ reports 8 1 1 true = [] ∧ reports 8 1 1 false = [] ∧
      reports 7 4 6 false = [] := by decide +kernel

theorem witness_risingPeers : risingPeers [peer 1 0, peer 7 0, peer 30 0] := by unfold risingPeers; decide +kernel

theorem witness_ProfilePutStoresTheClampedValueAndNoOther :
    (portDeaf unjoined = false ∧ unjoined.life.station = .unjoined) ∧
      (itemSort unjoined.profile 1 0 = some (.number 0 30 0) ∨ (itemSort unjoined.profile 1 0).isSome = true) ∧
      (elementRange 36 = some (1, 11) ∧ 1 ≤ (word 11).toNat ∧ (word 11).toNat ≤ 11) ∧
      (itemSort unjoined.profile 36 11).isSome = true ∧ elementRange 12 = none ∧
      itemSort unjoined.profile 12 0 = some (.number 100 20000 4000) ∧
      takesWide 100 20000 4000 [(0, 99, 100, true), (65535, 0, 4000, false), (65533, 0, 100, false)] = true ∧
      (∃ top d, itemSort unjoined.profile 4 2 = some (.choice top d) ∧ top < (word 0).toNat * 65536 + (word 9).toNat) := by
  refine ⟨by decide +kernel, by decide +kernel, by decide +kernel, by decide +kernel, by decide +kernel, by decide +kernel,
    by decide +kernel, _, _, rfl, by decide +kernel⟩

theorem witness_SpeedCommandSetsEffectiveSpeedAndLevel :
    (portDeaf active = false ∧ joined active = true ∧ active.profile.dish.enable = true ∧
        takes 20 400 150 [(19, 20, true), (400, 400, false), (65533, 20, false), (65535, 150, false)] = true) ∧
      (outputs active).convRun = false ∧
      (outputs (withDish (fun d => { d with mode := .on }) active)).convRun = true ∧
      ({ DishProfile.initial with c := 2990 } : DishProfile).d - ({ DishProfile.initial with c := 2990 } : DishProfile).c <
        ({ DishProfile.initial with dwellMin := 11 } : DishProfile).dwellMin := by decide +kernel

/-- The state after a reset met `active` stands at the reset values, so every output is off there. -/
theorem witness_outputs_at_reset : AtReset active (after .resetAssert active) := by
  refine ⟨fun b hb => ?_, by decide +kernel, by decide +kernel, by decide +kernel, by decide +kernel⟩
  cases b <;> simp_all <;> rfl

theorem witness_DishTimersJamCallAndIdle :
    let jam := withDish (fun d => { d with mode := .on, jamTimer := 2000 }) active
    let idle := withDish (fun d => { d with mode := .on, idleTime := 30000 }) active
    let rinse := withDish (fun d => { d with holds := { d.holds with rinse := true }, rinseTime := 60000 }) active
    (awake jam = true ∧ jam.dish.mode = .on ∧ anyHold jam.dish.holds = false ∧ 2000 ≤ jam.dish.jamTimer) ∧
      (awake idle = true ∧ idle.dish.mode = .on ∧ idle.dish.racks = [] ∧ 30000 ≤ idle.dish.idleTime ∧
        idle.dish.holds.idle = false) ∧
      (awake rinse = true ∧ rinse.dish.holds.rinse = true ∧ 60000 ≤ rinse.dish.rinseTime ∧
        rinse.dish.rinseCalled = false) ∧
      active.profile.radio = false ∧ active.paging.calls.length < 16 := by decide +kernel

theorem witness_ExitEdgeDecidesTheVerdict :
    let s (high : Bool) (p : Nat) (x : Bool) := edgeTo 3 high
      (withDish (fun d => { d with mode := .on, atExit := x, racks := [rackAt 41 p] }) active)
    (awake (s false 36000 false) = true ∧ joined (s false 36000 false) = true ∧
        (s false 36000 false).lines[(3 : LineNo)].debounce = some 0 ∧
        (s false 36000 false).lines[(3 : LineNo)].pin ≠ (s false 36000 false).lines[(3 : LineNo)].taken ∧
        resolvedUse (s false 36000 false).profile 3 = .dishExit ∧
        (s false 36000 false).lines[(3 : LineNo)].pin = (s false 36000 false).profile.lines[(3 : LineNo)].activeHigh ∧
        (s false 36000 false).dish.racks = rackAt 41 36000 :: [] ∧ (s false 36000 false).dish.atExit = false ∧
        (((s false 36000 false).profile.dish.e : Int) - 200) * 10 ≤ ((rackAt 41 36000).position : Int)) ∧
      (((rackAt 41 35999).position : Int) < (((s false 35999 false).profile.dish.e : Int) - 200) * 10) ∧
      ((s true 38000 true).lines[(3 : LineNo)].pin ≠ (s true 38000 true).profile.lines[(3 : LineNo)].activeHigh ∧
        (s true 38000 true).dish.atExit = true ∧ (s true 38000 true).dish.holds.entry = false ∧
        (withDish (fun d => { d with holds := { d.holds with entry := true } }) (s true 38000 true)).dish.holds.entry = true ∧
        (s true 38000 false).dish.atExit = false) := by decide +kernel

theorem witness_PulseMovesEveryRackAndFindsMissedExits :
    let s (p : Nat) (x : Bool) := withDish (fun d => { d with mode := .on, atExit := x, racks := [rackAt 41 p] }) active
    (awake active = true ∧ dishWorks unjoined = false ∧ dishWorks (s 39980 false) = true) ∧
      ((s 39980 false).dish.racks.map (fun r => { r with position := min 70000 (r.position + 20) }) =
          rackAt 41 40000 :: [] ∧ (s 39980 false).profile.dish.perPulse = 20 ∧ (s 39980 false).dish.atExit = false ∧
        ((s 39980 false).profile.dish.e + 200) * 10 ≤ (rackAt 41 40000).position ∧
        (s 39980 false).dish.holds.entry = false) ∧
      (s 39980 true).dish.atExit = true ∧
      ∀ r ∈ ((s 39979 false).dish.racks.map (fun r => { r with position := min 70000 (r.position + 20) })).head?,
        r.position < ((s 39979 false).profile.dish.e + 200) * 10 := by decide +kernel

theorem witness_SweepSamplesRacksAndJudgesTheRinseHold :
    awake (sweeping active) = true ∧ 250 ≤ (sweeping active).scan.phase ∧ joined active = true ∧
      active.profile.dish.enable = true ∧ channelOfKind active.profile .tank = some 1 ∧
      channelOfKind active.profile .booster = some 0 ∧ active.dish.mode = .off ∧ (withDish (fun d => { d with mode := .jam }) active).dish.mode ≠ .off := by decide +kernel

theorem witness_LoadAddsOrMergesClampedPlates :
    let five : List Load := [⟨1, 1, 0, 0⟩, ⟨2, 1, 0, 0⟩, ⟨3, 1, 0, 0⟩, ⟨4, 1, 0, 0⟩, ⟨5, 1, 0, 0⟩]
    let s (credit : Nat) := withLoads 3 (five ++ [⟨6, 114, 0, credit⟩]) active
    (portDeaf active = false ∧ joined active = true ∧ (word 3).toNat = (3 : Chan).val ∧ 8 ≤ (word 65532).toNat ∧
        (word 65532).toNat < 65533 ∧ active.profile.channels[(2 : Chan)].kind ≠ .warmer ∧
        active.profile.channels[(3 : Chan)].kind = .warmer) ∧
      (loadedCount active.stock.warmers[(3 : Chan)].loads < active.profile.warmers[(3 : Chan)].capacity ∧
        60 ≤ active.profile.warmers[(3 : Chan)].warmTime ∧ active.stock.warmers[(3 : Chan)].loads.length < 6) ∧
      (warmerCase.profile.warmers[(3 : Chan)].capacity ≤ loadedCount warmerCase.stock.warmers[(3 : Chan)].loads) ∧
      takes 1 300 120 [(0, 1, true), (65534, 300, false), (65535, 120, false)] = true ∧
      (loadedCount (s 59999).stock.warmers[(3 : Chan)].loads < (s 59999).profile.warmers[(3 : Chan)].capacity ∧
        (s 59999).stock.warmers[(3 : Chan)].loads = five ++ [⟨6, 114, 0, 59999⟩] ∧ 5 ≤ five.length ∧
        60000 ≤ (⟨6, 114, 0, 60000⟩ : Load).credit) := by decide +kernel

theorem witness_TakeRemovesReadyPlatesOldestFirst :
    let h : Hold := ⟨15, 3, 12, 3, 50, 900000⟩
    let s := withHolds [h] warmerCase
    portDeaf s = false ∧ joined s = true ∧ (word 3).toNat = (3 : Chan).val ∧
      takes 1 600 600 [(0, 1, true), (65533, 1, false), (65535, 600, false)] = true ∧
      s.profile.channels[(3 : Chan)].kind = .warmer ∧ (∀ l ∈ s.stock.warmers[(3 : Chan)].loads, 1 ≤ l.count) ∧
      h ∈ s.stock.holds ∧ h.tag = (word 15).toNat ∧ (word 15).toNat ≤ 15 ∧ h.channel = 3 ∧
      s.stock.holds.Pairwise (fun a b => a.tag ≠ b.tag) ∧ h.count ≤ readyCount s.profile s.stock 3 ∧
      (h.asker ≠ s.profile.stationId ∧ maySend s = true ∧ occupied s.bus < 8) ∧
      (let own : Hold := { h with asker := 5 }
       let u := (withHolds [own] warmerCase).setWaves [testWave 12 .preheat (source 5 3 (.held 50 15))]
       own.asker = u.profile.stationId ∧ (findWave own.wave u).isSome = true ∧
        (findWave own.wave u).map (afterNotice 5 3 15 1 30) =
          some (testWave 12 .preheat { source 5 3 (.held 30 15) with taken := 20 })) := by decide +kernel

/-- Two holds on warmer 3, of a peer and of this station. -/
def twoHolds : List Hold := [⟨0, 3, 12, 3, 30, 0⟩, ⟨15, 5, 9, 3, 60, 900000⟩]

theorem holdLaw_twoHolds : HoldLaw twoHolds := ⟨by decide +kernel, by decide +kernel, by decide +kernel⟩

theorem witness_HoldsEndByCoolingFreeOrExpiry :
    let s := withHolds twoHolds (active.setStock { active.stock with
      warmers := active.stock.warmers.set 3 { Warmer.initial with cooling := 120000, loads := [⟨1, 90, 0, 1200000⟩] } })
    (awake (sweeping s) = true ∧ joined (sweeping s) = true ∧ 250 ≤ (sweeping s).scan.phase ∧
        s.profile.channels[(2 : Chan)].kind ≠ .warmer) ∧
      (awake s = true ∧ s.profile.channels[(3 : Chan)].kind = .warmer ∧ 120000 ≤ s.stock.warmers[(3 : Chan)].cooling ∧
        s.stock.warmers[(3 : Chan)].coolingDone = false ∧ s.stock.holds = twoHolds ∧
        0 < s.profile.warmers[(3 : Chan)].warmTime ∧ s.stock.warmers[(3 : Chan)].loads ≠ []) ∧
      (maySend s = true ∧ (⟨5, 0, 12, 3⟩ : HoldFreeBody).target = s.profile.stationId ∧ 30 ≠ s.profile.stationId) ∧
      (∀ h ∈ s.stock.holds.head?, h.remaining = 0 ∧ h.asker ≠ s.profile.stationId ∧ occupied s.bus < 8) ∧
      (let own : Hold := ⟨15, 5, 14, 3, 50, 0⟩
       let u := (withHolds [own] s).setWaves [testWave 14 .preheat (source 5 3 (.held 50 15))]
       own ∈ holdsOn u.stock 3 ∧ own.remaining = 0 ∧ own.asker = u.profile.stationId ∧
        (findWave own.wave u).map (afterNotice 5 3 15 2 0) = some (testWave 14 .preheat (source 5 3 .none))) := by
  decide +kernel

/-- R138: a cooling reset cuts the holds of its warmer newest first, and tells each asker. -/
theorem test_cutNotices :
    let s := withHolds [⟨0, 3, 12, 3, 10, 5⟩, ⟨15, 5, 14, 3, 50, 5⟩, ⟨1, 9, 12, 3, 10, 5⟩] (active.setStock { active.stock with
      warmers := active.stock.warmers.set 3 { Warmer.initial with cooling := 120000, loads := [⟨1, 90, 0, 1200000⟩] } })
    let t := after (.coolingReset 3) (s.setWaves [testWave 14 .preheat (source 5 3 (.held 50 15))])
    t.bus.waiting.map (fun e => e.frame) = [.holdState ⟨9, 1, 12, 3, 2, 0⟩, .holdState ⟨3, 0, 12, 3, 2, 0⟩] ∧
      t.waves = [testWave 14 .preheat (source 5 3 .none)] := by decide +kernel

theorem witness_HoldAskIsAnsweredByTheFirstCase :
    let s := withHolds twoHolds (withLoads 3 [⟨1, 100, 0, 1200000⟩] active)
    let full := withHolds ((List.range 16).map (fun n => ⟨n, 3, n + 20, 3, 1, 1⟩)) active
    HoldLaw s.stock.holds ∧ HoldLaw full.stock.holds ∧
      (awake s = true ∧ maySend s = true ∧ (⟨5, 12, 3, 50, 60⟩ : HoldAskBody).target = s.profile.stationId ∧
        3 ≠ s.profile.stationId ∧ occupied s.bus < 8) ∧
      (7 < (⟨5, 12, 8, 50, 60⟩ : HoldAskBody).channel ∧ s.profile.channels[(2 : Chan)].kind ≠ .warmer ∧
        s.profile.channels[(3 : Chan)].kind = .warmer) ∧
      (∃ h ∈ s.stock.holds, h.asker = 3 ∧ h.wave = 12 ∧ h.channel = 3 ∧
        0 < min (min 600 50) (readyCount s.profile s.stock 3 - (heldCount s.stock 3 - h.count))) ∧
      ((∀ h ∈ s.stock.holds, ¬ (h.asker = 4 ∧ h.wave = 12 ∧ h.channel = 3)) ∧ s.stock.holds.length < 16 ∧
        0 < availableCount s.profile s.stock 3) ∧
      (∀ h ∈ full.stock.holds, ¬ (h.asker = 4 ∧ h.wave = 12 ∧ h.channel = 3)) ∧ 16 ≤ full.stock.holds.length := by
  refine ⟨holdLaw_twoHolds, ⟨by decide +kernel, by decide +kernel, by decide +kernel⟩, by decide +kernel⟩

theorem witness_StockTickOffersTheCounts :
    let tick (s : State) := s.setStock { s.stock with tick := ⟨true, 0, true⟩ }
    let full := (List.range 8).foldl (fun s n => offer (.pageCancel n) s) active
    (awake (tick active) = true ∧ (tick active).stock.tick.due = true ∧ maySend (tick active) = true ∧
        hasStock (tick active).profile = true ∧ occupied (tick active).bus < 8) ∧
      (tick busySecond).bus.waiting.any (fun e => decide (kindCode e.frame = 9)) = true ∧
      ((tick full).bus.waiting.any (fun e => decide (kindCode e.frame = 9)) = false ∧ 8 ≤ occupied (tick full).bus) ∧
      maySend (tick (station .duplicate false)) = false ∧ hasStock Profile.initial = false := by decide +kernel

theorem witness_WavePlanEntersAClampedPlannedWave :
    (portDeaf active = false ∧ joined active = true ∧ 1 ≤ (word 255).toNat ∧ (word 255).toNat ≤ 255 ∧
        (word 2).toNat = (2 : Chan).val ∧ (word 30).toNat ≤ 30 ∧ (word 7).toNat ≤ 7 ∧
        findWave 255 active = none ∧ active.waves.length < 16 ∧ active.profile.channels[(2 : Chan)].kind = .oven) ∧
      (takesWide 0 86399 0 [(1, 20864, 86399, true), (65535, 7, 0, false)] = true ∧
        takes 60 14400 1200 [(59, 60, true), (65535, 1200, false)] = true ∧
        takes 0 2450 0 [(65534, 2450, false)] = true ∧
        takes 1 600 1 [(65533, 1, false)] = true) ∧
      (1 ≤ (word 29).toNat ∧ (word 29).toNat ≤ 30 ∧ (word 6).toNat ≤ 7) ∧
      ¬ ((word 29).toNat = (word 30).toNat ∧ (word 6).toNat = (word 7).toNat) := by decide +kernel

/-- A due clock second at which wave 14 enters PREHEAT, wave 15 FIRE-DUE, and wave 16 is made late. -/
def timeline : State :=
  (active.setLife { active.life with clock := 69299, second := ⟨true, 0, true⟩ }).setWaves
    [testWave 14 .planned (source 5 3 .none), { testWave 15 .preheat (source 5 3 .none) with fire := 69300 },
      { testWave 16 .cooking (source 5 3 .none) with pass := 69300 }]

/-- R147, R148, R153, R158: the calls and reports of one clock second, wave by wave, and the target at PREHEAT. -/
theorem test_clockSecond_calls :
    let t := after .clockSecond timeline
    t.port.reports.map (fun r => r.body) =
        [.wave 14 (some .planned) (some .preheat) false false .preheat,
          .wave 15 (some .preheat) (some .fireDue) false false .fireDue,
          .wave 16 (some .cooking) (some .cooking) true false .late,
          .wave 16 (some .cooking) (some .cooking) true true .short] ∧
      t.paging.calls.map (fun c => (c.reason, c.subject)) = [(.fireDue, 15), (.waveLate, 16), (.platesShort, 16)] ∧
      t.heat.channels[(2 : Chan)].state = .ramp ⟨1800, 0, reading timeline 2 |>.toNat⟩ := by decide +kernel

theorem witness_ClockSecondMovesWavesAlongTheirTimeline :
    let reachedAt (x : Nat) : Bool := decide (((timeline.life.clock + 1) % 86400 + 86400 - x % 86400) % 86400 < 43200)
    awake timeline = true ∧ timeline.life.second.due = true ∧ risingWaves timeline.waves ∧
      (∀ x, reachedAt x = decide (((timeline.life.clock + 1) % 86400 + 86400 - x % 86400) % 86400 < 43200)) ∧
      reachedAt ((70200 + 86400 - timeline.profile.preheatLead % 86400) % 86400) = true ∧ reachedAt 70200 = false ∧
      (after .clockSecond timeline).waves.map (fun w => w.state) = [.preheat, .fireDue, .cooking] := by
  refine ⟨by decide +kernel, by decide +kernel, ?_, fun _ => rfl, by decide +kernel⟩
  unfold risingWaves
  decide +kernel

/-- R149, R158: from PLANNED FIRED is reported behind a TARGET-REFUSED, and SHORT follows it. -/
theorem test_waveFire_planned :
    let s := withChannel 2 (fun c => { c with state := .tripped .sensor }) ((active.setLife { active.life with
      clock := 70800 }).setWaves [testWave 1 .planned (source 3 2 .none)])
    (after (.waveFire [1]) s).port.reports.map (fun r => r.body) =
      [.wave 1 (some .planned) (some .planned) false false .targetRefused,
        .wave 1 (some .planned) (some .cooking) false false .fired,
        .wave 1 (some .cooking) (some .cooking) false true .short] := by decide +kernel

theorem witness_WaveFireStartsTheCook :
    let s (x : WaveState) := active.setWaves [testWave 1 x (source 5 3 .none), testWave 255 .planned (source 5 3 .none)]
    (portDeaf (s .planned) = false ∧ joined (s .planned) = true ∧
        findWave 255 (s .planned) = some (testWave 255 .planned (source 5 3 .none)) ∧
        findWave 1 (s .preheat) = some (testWave 1 .preheat (source 5 3 .none)) ∧
        findWave 1 (s .fireDue) = some (testWave 1 .fireDue (source 5 3 .none))) ∧
      (∀ x ∈ (s .preheat).waves, x.number ≠ 1 → x.oven = 2 → x.state ≠ .cooking) ∧
      (∃ x ∈ (s .cooking).waves, x.number ≠ 255 ∧ x.oven = 2 ∧ x.state = .cooking) ∧
      isTripped (s .planned).heat.channels[(2 : Chan)].state = false ∧
      isTripped (withChannel 2 (fun c => { c with state := .tripped .sensor }) (s .planned)).heat.channels[(2 : Chan)].state =
        true := by decide +kernel

/-- A wave 14 with a hold of its own warmer and one of station 9, beside a hold of wave 15, with two of its calls open. -/
def endingWave : State :=
  let own := active.profile.stationId
  let w : Wave := { testWave 14 .done (source own 3 (.held 30 0)) with src2 := some (source 9 2 (.held 12 7)) }
  let calls : List Call := [{ openedCall 1 .waveDone .calling none with subject := 14 },
    { openedCall 2 .platesFetch .taken none with subject := 14 }, { openedCall 3 .waveLate .local none with subject := 14 }]
  withPaging (fun g => { g with calls := calls })
    ((withHolds [⟨0, own, 14, 3, 30, 5⟩, ⟨1, own, 15, 3, 30, 5⟩] active).setWaves [w])

theorem witness_WavePlateCloseAndCancelEndTheWave :
    let s (x : WaveState) := active.setWaves [testWave 14 x (source 5 3 (.held 130 3))]
    portDeaf (s .done) = false ∧ joined (s .done) = true ∧
      findWave 14 (s .done) = some (testWave 14 .done (source 5 3 (.held 130 3))) ∧
      findWave 14 (s .plating) = some (testWave 14 .plating (source 5 3 (.held 130 3))) ∧
      findWave 14 (s .planned) = some (testWave 14 .planned (source 5 3 (.held 130 3))) ∧
      (∃ w ∈ endingWave.waves, heldHere w endingWave ⟨0, endingWave.profile.stationId, 14, 3, 30, 5⟩ = true ∧
        maySend endingWave = true ∧ (freesOf w endingWave).length = 1 ∧
        (cancelsOf [.fireDue, .waveDone, .waveLate, .platesFetch, .platesShort] 14 endingWave).length = 2 ∧
        occupied endingWave.bus + 3 ≤ 8) ∧
      endingWave.paging.calls.Pairwise (fun a b => a.number ≠ b.number) := by decide +kernel

/-- R151, R152: the one hold that wave 14 has here is gone, and the HOLD-FREE for the one it has at station 9 waits. -/
theorem test_wave_cancel_frees_both_holds :
    (after (.waveCancel [14]) endingWave).stock.holds.map (fun h => h.wave) = [15] ∧
      (after (.waveCancel [14]) endingWave).bus.waiting.any (fun e => e.frame = .holdFree ⟨9, 7, 14, 2⟩) = true := by
  decide +kernel

theorem witness_WaveTimersCookAskAndGiveUp :
    let cook := { testWave 14 .cooking (source 5 1 .none) with cookLeft := some 1 }
    let ask (st ch : Nat) (h : HoldCopy) := { testWave 14 .preheat (source st ch h) with check := some 0, shortage := true }
    let two (h1 h2 : HoldCopy) := { ask 3 2 h1 with src2 := some (source 4 1 h2) }
    let s (w : Wave) := withLoads 3 [⟨1, 80, 0, 1200000⟩] (active.setWaves [w])
    let deaf (w : Wave) := (s w).setLife { (s w).life with station := .listening }
    (awake (s cook) = true ∧ findWave 14 (s cook) = some cook ∧ cook.state = .cooking ∧ cook.cookMs = 0) ∧
      (findWave 14 (s (ask 3 2 .lost)) = some (ask 3 2 .lost) ∧ asking (ask 3 2 .lost).state = true ∧
        (ask 3 2 .lost).check = some 0 ∧ (ask 3 2 .lost).src2 = none ∧
        (ask 3 2 .lost).src1.hold = Standing.lost.copy ∧ heldFigure Standing.lost.copy < 180 ∧
        (ask 3 2 .lost).src1.station ≠ active.profile.stationId ∧ maySend (s (ask 3 2 .lost)) = true ∧
        occupied (s (ask 3 2 .lost)).bus < 7) ∧
      (maySend (deaf (ask 3 2 .none)) = false ∧ findWave 14 (deaf (ask 3 2 .none)) = some (ask 3 2 .none)) ∧
      ((ask 3 2 (.asked 0 .lost)).src1.hold = .asked 0 .lost ∧
        180 ≤ heldFigure (ask 3 2 (.held 180 3)).src1.hold) ∧
      ((ask 5 3 (.held 20 1)).src1.station = active.profile.stationId ∧
        (s (ask 5 3 (.held 20 1))).profile.channels[(3 : Chan)].kind = .warmer ∧
        (s (ask 5 2 .none)).profile.channels[(2 : Chan)].kind ≠ .warmer ∧
        (s (ask 5 3 .none)).stock.holds.length < 16 ∧ (s (ask 5 3 .none)).stock.holds = [] ∧
        0 < min (min 600 180) (availableCount active.profile (s (ask 5 3 .none)).stock 3) ∧
        availableCount active.profile (s (ask 5 4 .none)).stock 4 = 0) ∧
      ((two .none .none).src2 = some (source 4 1 Standing.none.copy) ∧ 4 ≠ active.profile.stationId) ∧
      ((two (.held 180 3) (.held 50 5)).src1.hold = .held 180 3 ∧ (two (.held 180 3) (.held 50 5)).covers ≤ 0 + 0 + 180) ∧
      covered (ask 3 2 (.held 180 3)) = true ∧ covered (ask 3 2 .none) = false ∧
      sourceOf false (ask 3 2 (.asked 0 .lost)) = some (source 3 2 (.asked 0 .lost)) := by decide +kernel

theorem witness_HoldMessagesKeepTheWavesCopy :
    let w (h : HoldCopy) := testWave 14 .preheat (source 3 2 h)
    let s (h : HoldCopy) := active.setWaves [w h]
    (awake (s .none) = true ∧ maySend (s .none) = true ∧ 30 ≠ (s .none).profile.stationId) ∧
      ((⟨5, 14, 2, 1, 50, 5⟩ : HoldAnswerBody).target = (s (.asked 100 .none)).profile.stationId ∧
        findWave 14 (s (.asked 100 .none)) = some (w (.asked 100 .none)) ∧ matchSource 3 2 (w (.asked 100 .none)) = some false) ∧
      (findWave 15 (s .none) = none ∧ occupied (s .none).bus < 8) ∧
      sourceOf false (w (.held 50 5)) = some (source 3 2 (.held 50 5)) ∧
      (source 3 2 (.held 50 5)).hold = .held 50 (⟨5, 5, 14, 2, 1, 0⟩ : HoldStateBody).tag := by decide +kernel

theorem witness_PageEntersACallAndCallEndRemovesIt :
    let panel (n : Nat) : Call := { openedCall n .panel .calling (some 5) with subject := 65535 }
    let full (u : Nat) := withPaging (fun g => { g with
      calls := (List.range 16).map (fun n => { openedCall (n + 1) .jam .calling none with urgency := u }) }) active
    let unmapped := withProfile (fun p => { p with callMap := Vector.replicate 11 none }) active
    (portDeaf active = false ∧ joined active = true ∧ (word 7).toNat ≤ 7 ∧
        takes 0 3 1 [(4, 3, true), (65535, 1, false)] = true ∧
        takesWide 0 65535 0 [(1, 0, 65535, true), (65535, 0, 0, false)] = true) ∧
      openCall .panel 65535 (withPaging (fun g => { g with calls := [panel 9] }) active) = some (panel 9) ∧
      (after (.page [7, 4, 1, 0]) (withPaging (fun g => { g with calls := [panel 9] }) active)).port.reply =
        .done 80 true (.call 9) ∧
      (openCall .panel 65535 active = none ∧ active.paging.calls.length < 16 ∧ 1 ≤ active.paging.nextNumber ∧
        active.paging.nextNumber ≤ 255 ∧ active.profile.radio = false) ∧
      (openCall .panel 0 (full 3) = none ∧ (full 3).paging.calls.length = 16 ∧
        (∀ c ∈ (full 3).paging.calls, 3 ≤ c.urgency)) ∧
      ((full 0).paging.calls = [] ++ { openedCall 1 .jam .calling none with urgency := 0 } ::
          (List.range 15).map (fun n => { openedCall (n + 2) .jam .calling none with urgency := 0 }) ∧
        (full 0).paging.calls.Pairwise (fun a b => a.number ≠ b.number)) ∧
      (full 0).paging.calls.find? (fun c => decide (c.number = (word 1).toNat)) =
        some { openedCall 1 .jam .calling none with urgency := 0 } ∧
      ((∀ c ∈ (full 0).paging.calls, c.number ≠ (word 255).toNat) ∧ (panel 9).reason = .panel ∧
        (panel 9).state ≠ .local ∧ (openedCall 9 .panel .local none).state = .local) ∧
      (mappedGroup active.profile .jam = some 1 ∧ mappedGroup unmapped.profile .jam = none ∧
        openCall .jam 1 (full 3) = some { openedCall 1 .jam .calling none with urgency := 3 } ∧
        openCall .jam 0 (full 3) = none ∧ reasonUrgency .jam = 2 ∧ occupied (full 0).bus ≠ 7) := by decide +kernel

theorem witness_PageCallIsTakenByTheFirstCase :
    let b : PageCallBody := ⟨23, 8, 0, 1, 3⟩
    let full := withPaging (fun g => { g with
      queue := (List.range 24).map (fun n => { paged (n + 1) 3 .waiting with number := n + 100 }) }) radio
    (awake radio = true ∧ maySend radio = true ∧ 30 ≠ radio.profile.stationId ∧ active.profile.radio = false ∧
        radio.profile.radio = true) ∧
      (withPaging (fun g => { g with queue := [paged 61 2 .waiting] }) radio).paging.queue.find?
          (fun x => decide (x.origin = 3) && decide (x.number = 23)) = some (paged 61 2 .waiting) ∧
      (∀ c ∈ radio.paging.queue, ¬ (c.origin = 3 ∧ c.number = b.number)) ∧
      (withPaging (fun g => { g with radioUp := false }) radio).paging.radioUp = false ∧
      (hasMember radio.profile 7 = false ∧ hasMember radio.profile b.group = true ∧ radio.paging.radioUp = true) ∧
      (24 ≤ full.paging.queue.length ∧ ∀ c ∈ full.paging.queue, c.state = .waiting → b.urgency ≤ c.urgency) ∧
      (radio.paging.queue.length < 24 ∧
        (withPaging (fun g => { g with modem := sending none }) radio).paging.modem.isSome = true) ∧
      radio.paging.queue = [] ∧ radio.paging.modem = none ∧ radio.paging.allCall = none ∧
      freeNumber (radio.paging.queue.map (fun c => c.tag)) 255 radio.paging.nextTag = 1 := by decide +kernel

/-- A full page queue whose third call is its weakest, and an own call whose broadcast timer has run out. -/
def fullQueue : State :=
  withPaging (fun g => { g with
    modem := sending none
    queue := (List.range 24).map (fun n => { paged (n + 1) (if n = 2 then 0 else 1) .waiting with number := n + 100 })
    calls := [openedCall 23 .jam .calling (some 0)] }) radio

theorem witness_displacement_and_own_broadcast :
    let front := fullQueue.paging.queue.take 2
    let back := fullQueue.paging.queue.drop 3
    let v : Paged := { paged 3 0 .waiting with number := 102 }
    (fullQueue.paging.queue = front ++ v :: back ∧ v.urgency < 1 ∧ v.state = .waiting ∧
        v.origin ≠ fullQueue.profile.stationId ∧ (∀ c ∈ front, c.state = .waiting → v.urgency < c.urgency) ∧
        ∀ c ∈ back, c.state = .waiting → v.urgency ≤ c.urgency) ∧
      (fullQueue.paging.queue.length = 24 ∧ fullQueue.paging.modem.isSome = true ∧ fullQueue.paging.queue.Pairwise
        (fun x y => x.tag ≠ y.tag ∧ ¬ (x.origin = y.origin ∧ x.number = y.number)) ∧ occupied fullQueue.bus < 7) ∧
      (let s := withPaging (fun g => { g with queue := [] }) fullQueue
       s.paging.calls.find? (fun x => decide (x.number = 23)) = some (openedCall 23 .jam .calling (some 0)) ∧
        (openedCall 23 .jam .calling (some 0)).broadcasts < 3 ∧ hasMember s.profile 1 = true ∧
        s.paging.calls.Pairwise (fun x y => x.number ≠ y.number)) := by decide +kernel

theorem witness_FirstMember :
    FirstMember radio 3 1 [] 4 ∧ FirstMember radio 2 1 [4] 9 ∧ FirstMember radio 3 0 [] 0 ∧
      FirstMember (withPaging (fun g => { g with pointer := g.pointer.set 1 (some 4) }) radio) 2 1 [] 9 := by
  refine ⟨⟨by decide +kernel, ?_⟩, ⟨by decide +kernel, ?_⟩, ⟨by decide +kernel, ?_⟩, ⟨by decide +kernel, ?_⟩⟩ <;>
    decide +kernel

theorem witness_RadioCommandsSetDutyAndTheAllCall :
    let call (a : AllCall) (m : Option ModemWait) := withPaging (fun g => { g with allCall := some a, modem := m }) radio
    (awake radio = true ∧ portDeaf radio = false ∧ joined radio = true ∧ (word 4).toNat = (4 : Fin 32).val ∧
        (word 1).toNat ≤ 1 ∧ (word 65535).toNat = 65535 ∧ (word 65534).toNat < 65535 ∧ active.profile.radio = false ∧ portDeaf active = false ∧
        radio.profile.roster[(3 : Fin 32)].address = 0 ∧ radio.profile.roster[(4 : Fin 32)].address ≠ 0) ∧
      (serves radio = true ∧ (after .startByte radio).paging.collecting = true ∧
        radio.profile.roster[(4 : Fin 32)].address = 2104 ∧
        (∀ j : Fin 32, j < 4 → radio.profile.roster[j].address ≠ 2104) ∧
        ∀ j : Fin 32, radio.profile.roster[j].address ≠ 9999) ∧
      (takes 10 120 30 [(121, 120, true), (65535, 30, false)] = true ∧ radio.paging.radioUp = true ∧ radio.paging.modem = none ∧
        (withPaging (fun g => { g with radioUp := false }) radio).paging.radioUp = false ∧
        (withPaging (fun g => { g with modem := sending none }) radio).paging.modem.isSome = true) ∧
      ((call ⟨30000, 0, false, false⟩ none).paging.allCall = some ⟨30000, 0, false, false⟩ ∧
        serves (call ⟨30000, 0, false, false⟩ none) = true) ∧
      (call ⟨0, 0, false, true⟩ (sending none)).paging.allCall = some ⟨0, 0, false, true⟩ ∧
      radio.paging.allCall = none ∧ radio.paging.queue = [] := by decide +kernel

theorem witness_ResultOfASendMovesItsCall :
    let s (c : Paged) := withPaging (fun g => { g with collecting := true, modem := sending (some 0), queue := [c] }) radio
    let swept : Paged := { paged 61 3 .sending with tried := [4], busyRetries := 3 }
    let last : Paged := { paged 61 2 .sending with tried := [4], busyRetries := 4 }
    (awake (s swept) = true ∧ serves (s swept) = true ∧ (s swept).paging.collecting = true ∧ (s swept).paging.modem = some ⟨.send swept.tag 2104 8 0 2, some 0⟩ ∧
        swept ∈ (s swept).paging.queue ∧ (s swept).paging.queue.Pairwise
          (fun x y => x.tag ≠ y.tag ∧ ¬ (x.origin = y.origin ∧ x.number = y.number)) ∧
        (∀ x ∈ (s swept).paging.queue, x.tag ≠ swept.tag → eligible x = false) ∧
        (s swept).paging.allCall = none ∧ swept.origin ≠ (s swept).profile.stationId) ∧
      (last.urgency < 3 ∧ 4 ≤ last.busyRetries ∧ swept.busyRetries < 4 ∧ (s last).paging.failures + 1 < 3) ∧
      (3 ≤ swept.urgency ∧ swept.state = .sending ∧ roundGroup (s swept).profile swept = some 1 ∧
        (s swept).paging.radioUp = true) ∧
      (∀ j : Fin 32, isMember (s swept).profile 1 j = true → (s swept).paging.duty[j] = true → j ∈ [(4 : Fin 32), 9]) ∧
      (withPaging (fun g => { g with modem := sending none }) radio).paging.modem =
        some ⟨.send 61 2104 8 0 2, none⟩ := by decide +kernel

theorem witness_AckReadyAndFailuresMoveTheServingSide :
    let s := withPaging (fun g => { g with
      collecting := true, modem := sending (some 0), failures := 2, queue := [paged 61 2 .sending] }) radio
    let own := withPaging (fun g => { g with
      queue := [{ paged 61 2 .sending with origin := 5, subject := 23 }], calls := [openedCall 23 .jam .taken (some 9)] }) s
    let down := withPaging (fun g => { g with collecting := true, radioUp := false, failures := 3 }) radio
    let all := withPaging (fun g => { g with
      collecting := true, modem := some ⟨.all 7 30, some 5⟩, allCall := some ⟨30000, 5000, false, false⟩ }) radio
    (awake s = true ∧ serves s = true ∧
        s.paging.queue.find? (fun x => decide (x.tag = 61)) = some (paged 61 2 .sending) ∧
        (paged 61 2 .sending).origin ≠ s.profile.stationId ∧ s.profile.roster[(4 : Fin 32)].group = some (1 : Fin 8).val) ∧
      (own.paging.queue.find? (fun x => decide (x.tag = 61)) = some { paged 61 2 .sending with origin := 5, subject := 23 } ∧
        own.paging.collecting = true ∧ own.paging.calls.find? (fun x => decide (x.number = 23) &&
          decide (reasonCode x.reason = 8) && decide (x.subject = 23) && decide (x.state ≠ .local)) =
            some (openedCall 23 .jam .taken (some 9))) ∧
      (∀ x ∈ s.paging.queue, x.tag ≠ 62) ∧
      (s.paging.modem = some ⟨.send 61 2104 8 0 2, some 0⟩ ∧ s.paging.radioUp = true ∧ 2 ≤ s.paging.failures) ∧
      (serves down = true ∧ down.paging.radioUp = false ∧ down.paging.queue = [] ∧ down.paging.allCall = none) ∧
      (serves all = true ∧ all.paging.modem = some ⟨.all 7 30, some 5⟩ ∧
        all.paging.allCall = some ⟨30000, 5000, false, false⟩ ∧ all.paging.failures + 1 < 3) := by decide +kernel

theorem witness_PagingTimersMakeTheirCallEligibleAgain :
    let s (m : Option ModemWait) (c : Paged) := withPaging (fun g => { g with modem := m, queue := [c] }) radio
    let ack : Paged := { paged 62 3 .awaitAck with group := 2, tried := [1], ackTimer := some 0 }
    let spent : Paged := { ack with escalated := true, tried := [0] }
    let busy : Paged := { paged 62 2 .waiting with busyTimer := some 0, current := some 4, tried := [4] }
    (radio.paging.collecting = false ∧ serves active = false) ∧
      (awake (s none ack) = true ∧ serves (s none ack) = true ∧ (s none ack).paging.radioUp = true ∧
        (s none ack).paging.queue = [ack] ∧ (s none ack).paging.modem = none ∧ (s none ack).paging.allCall = none ∧
        (s (sending none) ack).paging.modem.isSome = true) ∧
      (busy.state = .waiting ∧ busy.busyTimer = some 0 ∧ busy.current = some 4 ∧ 4 ∈ busy.tried) ∧
      (ack.state = .awaitAck ∧ ack.ackTimer = some 0 ∧ roundGroup radio.profile ack = some 2 ∧
        (∀ j : Fin 32, isMember radio.profile 2 j = true → radio.paging.duty[j] = true → j ∈ ack.tried) ∧
        ack.escalated = false ∧ escalationOf radio.profile 2 = some 0) ∧
      roundGroup radio.profile spent = some 0 ∧
      (∀ j : Fin 32, isMember radio.profile 0 j = true → radio.paging.duty[j] = true → j ∈ spent.tried) ∧
      escalationOf radio.profile 1 = none := by
  refine ⟨by decide +kernel, by decide +kernel, by decide +kernel, ⟨by decide +kernel, by decide +kernel, by decide +kernel, ?_, by decide +kernel,
    by decide +kernel⟩, by decide +kernel, ?_, by decide +kernel⟩ <;> decide +kernel

/-- A state with a peer, a wave, two holds, a rack and a last rack to query. -/
def queried : State :=
  withHolds [⟨4, 3, 12, 3, 50, 1⟩, ⟨15, 3, 13, 3, 50, 900000⟩]
    (withDish (fun d => { d with racks := [rackAt 41 38000], lastRack := some (rackAt 40 0) })
      ((active.setPeers [peer 30 0]).setWaves [testWave 255 .planned (source 5 3 .none)]))

theorem witness_QueryReturnsTheSnapshotOfItsMoment :
    (portDeaf queried = false ∧ 65533 ≤ (word 65533).toNat ∧ (word 65532).toNat < 65533 ∧
        (2, 1, 30) ∈ [(1, 0, 7), (2, 1, 30), (3, 0, 11)] ∧ (1 ≤ (word 30).toNat ∧ (word 30).toNat ≤ 30) ∧
        30 < (word 31).toNat ∧ (word 4).toNat = 4 ∧ 12 < (word 13).toNat ∧ (word 12).toNat = 12 ∧ 36 < (word 37).toNat ∧
        elementRange 36 = some (1, 11) ∧ 11 < (word 12).toNat ∧ elementRange 1 = none) ∧
      (queried.peers.find? (fun x => decide (x.id = (word 30).toNat)) = some (peer 30 0) ∧
        ∀ p ∈ queried.peers, p.id ≠ (word 29).toNat) ∧
      ((3 : Chan).val = (word 3).toNat ∧ queried.profile.channels[(3 : Chan)].kind = .warmer ∧
        queried.profile.channels[(5 : Chan)].kind ≠ .warmer) ∧
      (queried.dish.racks[(word 0).toNat]? = some (rackAt 41 38000) ∧ queried.dish.racks[(word 1).toNat]? = none ∧
        queried.dish.lastRack = some (rackAt 40 0) ∧ active.dish.lastRack = none) ∧
      (queried.stock.holds = [⟨4, 3, 12, 3, 50, 1⟩] ++ ⟨15, 3, 13, 3, 50, 900000⟩ :: [] ∧
        (∀ x ∈ [(⟨4, 3, 12, 3, 50, 1⟩ : Hold)], x.tag ≠ (word 15).toNat) ∧
        ∀ h ∈ queried.stock.holds, h.tag ≠ (word 5).toNat) ∧
      queried.waves.find? (fun x => decide (x.number = (word 255).toNat)) = some (testWave 255 .planned (source 5 3 .none)) ∧
      ∀ w ∈ queried.waves, w.number ≠ (word 254).toNat := by
  refine ⟨by decide +kernel, by decide +kernel, by decide +kernel, by decide +kernel, by decide +kernel, by decide +kernel,
    by decide +kernel⟩

/-- R144: the second hold of the table stands at place 2, and its 900,000 ms are 900 s; a tag without a hold is ABSENT. -/
theorem test_hold_snapshot_shows_place_and_seconds :
    let s := queried
    snapshotOf 7 15 0 s = .hold 15 (some ⟨3, 13, 3, 50, 900, 2⟩) ∧
      snapshotOf 7 4 0 s = .hold 4 (some ⟨3, 12, 3, 50, 1, 1⟩) ∧ snapshotOf 7 5 0 s = .hold 5 none := by decide +kernel

theorem witness_RefusedCommandsLeaveOnlyTheirReply_identifiers :
    portDeaf active = false ∧ joined active = true ∧ 65533 ≤ (word 65533).toNat ∧
      [word 256, word 8, word 31, word 8].all (fun q => decide (q.toNat < 65533)) = true ∧ 255 < (word 256).toNat ∧
      7 < (word 8).toNat ∧ 30 < (word 31).toNat ∧ (word 0).toNat = 0 ∧ 31 < (word 32).toNat ∧
      (word 65535).toNat = 65535 := by decide +kernel

theorem witness_RefusedCommandsLeaveOnlyTheirReply :
    let s (x : ChanState) := withChannel 3 (fun c => { c with state := x }) active
    let w (x : WaveState) := active.setWaves [testWave 255 x (source 5 3 .none)]
    (portDeaf active = false ∧ catalogueCodes.contains (byte 84).toNat = true ∧
        ([] : List Word).length ∉ catalogueLengths (byte 16).toNat ∧ ([1] : List Word).length ∈ catalogueLengths 17 ∧
        stageOk (catalogueStage 17) unjoined.life.station = false ∧
        stageOk (catalogueStage 3) active.life.station = false) ∧
      (joined active = true ∧ 65533 ≤ (word 65533).toNat ∧ 8 ≤ (word 8).toNat ∧ (word 65532).toNat < 65533 ∧
        (word 3).toNat = (3 : Chan).val ∧ (word 15).toNat ≤ 15 ∧ 15 < (word 16).toNat) ∧
      (active.profile.channels[(5 : Chan)].kind = .unused ∧ active.profile.channels[(3 : Chan)].kind = .warmer ∧
        active.profile.channels[(2 : Chan)].kind = .oven ∧
        isTripped (s (.tripped .sensor)).heat.channels[(3 : Chan)].state = true ∧
        flagged (withInput 3 ⟨0, true, 2, 0⟩ active) 3 = true ∧ reading (withInput 3 ⟨2450, false, 0, 4⟩ active) 3 = 2450 ∧
        isTripped (s .idle).heat.channels[(3 : Chan)].state = false ∧ active.stock.holds = []) ∧
      (Profile.initial.dish.enable = false ∧ active.profile.dish.enable = true ∧ active.dish.mode ≠ .jam ∧
        (withDish (fun d => { d with mode := .jam }) active).dish.mode = .jam) ∧
      ((∃ x ∈ (w .planned).waves, x.number = (word 255).toNat) ∧ (∀ x ∈ (w .planned).waves, x.number ≠ (word 254).toNat) ∧
        (w .planned).waves.length < 16 ∧ 16 ≤ (List.replicate 16 (testWave 1 .planned (source 5 3 .none))).length) ∧
      findWave 255 (w .cooking) = some (testWave 255 .cooking (source 5 3 .none)) ∧
      findWave 255 (w .plating) = some (testWave 255 .plating (source 5 3 .none)) := by decide +kernel

theorem witness_SweepConvertsInputsAndCurrents :
    let c : Conversions := ⟨#v[-601, 3601, -600, 3600, 0, 0, 0, 0], 2001, -1⟩
    let s := withInput 2 ⟨0, true, 0, 2⟩ (withInput 3 ⟨0, true, 0, 3⟩ (sweeping active))
    (awake s = true ∧ 250 ≤ s.scan.phase ∧ c.t[(0 : Chan)] < -600 ∧ 3600 < c.t[(1 : Chan)] ∧ -600 ≤ c.t[(2 : Chan)] ∧
        c.t[(3 : Chan)] ≤ 3600) ∧
      (s.scan.inputs[(2 : Chan)].faulted = true ∧ (after (.sweepCompletion c) s).scan.inputs[(2 : Chan)].goodCount < 4) ∧
      (after (.sweepCompletion c) s).scan.inputs[(3 : Chan)].goodCount = 4 ∧
      s.scan.inputs[(4 : Chan)].faulted = false ∧ joined unjoined = false ∧ active.scan.phase < 250 := by decide +kernel

theorem witness_LineEdgesDebounceAndReachTheDoors :
    let opened := edgeTo 0 false active
    let closed := edgeTo 1 true active
    let entry (high : Bool) (m : Mode) (rs : List Rack) := edgeTo 2 high (withDish (fun d => { d with
      mode := m, racks := rs }) active)
    let twelve := (List.range 12).map (fun n => rackAt (12 - n) (70000 - 5500 * n))
    (awake active = true ∧ opened.lines[(0 : LineNo)].debounce = some 0 ∧
        opened.lines[(0 : LineNo)].pin ≠ opened.lines[(0 : LineNo)].taken ∧ joined opened = true ∧
        resolvedUse opened.profile 0 = .ovenDoor 2 ∧
        opened.lines[(0 : LineNo)].pin = opened.profile.lines[(0 : LineNo)].activeHigh) ∧
      (closed.lines[(1 : LineNo)].debounce = some 0 ∧ resolvedUse closed.profile 1 = .warmerDoor 3 ∧
        closed.lines[(1 : LineNo)].pin ≠ closed.profile.lines[(1 : LineNo)].activeHigh) ∧
      joined (edgeTo 0 false unjoined) = false ∧ resolvedUse active.profile 5 = .unused ∧
      ((entry false .on twelve).lines[(2 : LineNo)].debounce = some 0 ∧ resolvedUse active.profile 2 = .dishEntry ∧
        (entry false .on twelve).lines[(2 : LineNo)].pin = active.profile.lines[(2 : LineNo)].activeHigh ∧
        (entry true .on []).lines[(2 : LineNo)].pin ≠ active.profile.lines[(2 : LineNo)].activeHigh ∧
        (entry false .off []).dish.mode = .off ∧ (entry false .on [rackAt 41 5499]).dish.racks.getLast? = some (rackAt 41 5499) ∧
        12 ≤ (entry false .on twelve).dish.racks.length ∧
        (∀ r ∈ (entry false .on twelve).dish.racks.getLast?, 5500 ≤ r.position) ∧
        (entry false .on [rackAt 41 5500]).dish.racks.length < 12) ∧
      resolvedUse active.profile 4 = .dishDoor := by decide +kernel

theorem witness_HeatersStopAtTheirEndByCommandAndByCut :
    let on (n : Nat) := withChannel 2 (fun c => { c with
      state := .regulate (setpoint 1800 0 1800), heater := true, onTime := 6000, served := n }) active
    let trip := withChannel 2 (fun c => { c with state := .tripped .overheat }) (withInput 2 ⟨2449, false, 0, 4⟩ active)
    (awake (on 6000) = true ∧ (on 6000).heat.channels[(2 : Chan)].heater = true ∧
        (on 6000).heat.channels[(2 : Chan)].onTime ≤ (on 6000).heat.channels[(2 : Chan)].served ∧
        (on 5999).heat.channels[(2 : Chan)].served < (on 5999).heat.channels[(2 : Chan)].onTime ∧
        active.heat.channels[(2 : Chan)].heater = false) ∧
      (portDeaf active = false ∧ joined active = true ∧ (word 2).toNat = (2 : Chan).val ∧
        active.profile.channels[(2 : Chan)].kind ≠ .unused ∧ heating (on 0).heat.channels[(2 : Chan)].state = true ∧
        active.heat.channels[(2 : Chan)].state = .idle) ∧
      (trip.heat.channels[(2 : Chan)].state = .tripped .overheat ∧ flagged trip 2 = false ∧
        reading trip 2 < ((trip.profile.channels[(2 : Chan)].highLimit - 50 : Nat) : Int)) ∧
      ((served 4000).heat.window.running = true ∧ (served 4000).heat.overdrawn = false ∧
        450 < chargesSum (served 4000).heat.channels ∧ chargesSum (served 4000).heat.channels ≤ 600 ∧
        active.heat.window.running = false ∧ (takeGrant 450 (served 4000)).heat.overdrawn = false ∧
        (takeGrant 200 (served 8000)).heat.overdrawn = true ∧
        (∀ k : Chan, (served 8000).heat.channels[k].served ≤ (served 8000).heat.channels[k].onTime)) := by decide +kernel

theorem witness_FrameStartAndArbitrationLossMoveTheHead :
    let e (f : Frame) : TxEntry := { frame := f, sender := 5, age := 7, deliver := true }
    let s := waiting (.pageCancel 1) active
    let leaving := after (.leave []) active
    (awake s = true ∧ sends s = true ∧ s.bus.waiting = e (.pageCancel 1) :: [] ∧ s.bus.onLine = none ∧
        s.bus.stuck = false ∧ kindCode (.pageCancel 1) ≠ 1) ∧
      (s.setBus { s.bus with stuck := true }).bus.stuck = true ∧
      (awake leaving = true ∧ sends leaving = true ∧
        leaving.bus.waiting.map (fun e => isLeaving e.frame) = [true]) ∧
      (let u := waiting (.announce announcement) (active.setShare { active.share with unacked := 2 })
       sends u = true ∧ u.bus.waiting = e (.announce announcement) :: [] ∧ announcement.leaving = false ∧
        (e (.announce announcement)).deliver = true ∧ u.life.station = .active ∧ u.share.unacked = 2) ∧
      ((onLine (.stock ⟨none, []⟩) busySecond).bus.onLine = some (e (.stock ⟨none, []⟩)) ∧
        (e (.stock ⟨none, []⟩)).deliver = true ∧
        (onLine (.stock ⟨none, []⟩) busySecond).bus.waiting.any (sameWaiting (.stock ⟨none, []⟩)) = true ∧
        (onLine (.pageCancel 1) busySecond).bus.waiting.any (sameWaiting (.pageCancel 1)) = false) := by decide +kernel

theorem witness_PeersFallSilentAndTheirStockIsReplaced :
    let q : StockPart := ⟨[], some 3, 20000⟩
    let s (n : Nat) := active.setPeers [{ peer 7 n with stock := some q }]
    (awake (s 3000) = true ∧ findPeer 7 (s 3000) = some { peer 7 3000 with stock := some q } ∧ 3000 ≤ (peer 7 3000).silence ∧
        (peer 7 3000).stale = false) ∧ 10000 ≤ (peer 7 10000).silence ∧ 20000 ≤ q.age ∧
      (joined (s 0) = true ∧ 30 ≠ (s 0).profile.stationId ∧ findPeer 30 (s 0) = none) ∧
      (let b : StockBody := ⟨none, [⟨0, 5, 5⟩, ⟨7, 9, 9⟩]⟩
       b.warmers.length ≤ 8 ∧ (∀ e ∈ b.warmers, e.channel ≤ 7) ∧ (b.warmers.map (fun e => e.channel)).Nodup ∧
        b.warmers ≠ []) ∧
      8 < (⟨none, List.replicate 9 ⟨0, 0, 0⟩⟩ : StockBody).warmers.length ∧
      ¬ ([(⟨1, 0, 0⟩ : StockEntry), ⟨1, 2, 2⟩].map (fun e => e.channel)).Nodup := by decide +kernel

theorem witness_StationStatesEndListeningAndOnADuplicate :
    let s := (station .listening false).setShare { Share.initial with listen := some 0 }
    (awake s = true ∧ s.life.station = .listening ∧ s.share.listen = some 0 ∧ chargesSum s.heat.channels = 0) ∧
      (joined active = true ∧ active.life.station ≠ .duplicate ∧ active.bus.onLine = none) ∧
      (let w : Wave := testWave 14 .preheat (source 3 2 (.asked 900 (.held 30 4)))
       let t := waiting (.holdAsk ⟨3, 14, 2, 180, 900⟩) (active.setWaves [w])
       findWave 14 t = some w ∧ sameSources w = false ∧ t.bus.waiting.any (fun e => match e.frame with
          | .holdAsk a => decide (a.target = 3) && decide (a.wave = 14) && decide (a.channel = 2)
          | _ => false) = true) ∧
      (waiting (.stock ⟨none, []⟩) active).bus.waiting.any (fun e => decide (kindCode e.frame = 9)) = true ∧
      ((station .duplicate false).life.station = .duplicate) ∧ joined unjoined = false ∧
      (let c := { openedCall 4 .isolated .calling none with subject := 5 }
       let i := withPaging (fun g => { g with calls := [c] }) (station .isolated false)
       i.life.station = .isolated ∧ openCall .isolated i.profile.stationId i = some c) := by decide +kernel

theorem witness_ResetsGiveTheResetValuesAndHearNothing :
    (active.setResetting .pin).resetting = .pin ∧ active.resetting ≠ .pin ∧ portDeaf active = false ∧
      (active.setResetting (.restart 0)).resetting = .restart 0 ∧ (active.setResetting (.restart 10)).resetting ≠ .no ∧
      Instr.join [] ≠ .resetAssert ∧ Instr.join [] ≠ .resetRelease ∧ Instr.join [] ≠ .restartRelease := by decide +kernel

theorem witness_JoinIsCheckedAndEntersListening :
    (portDeaf State.reset = false ∧ State.reset.life.station = .unjoined ∧
        joinCheck State.reset.profile = some (1, 0)) ∧
      (portDeaf unjoined = false ∧ unjoined.life.station = .unjoined ∧ joinCheck unjoined.profile = none ∧
        ∀ k : Chan, unjoined.profile.channels[k].kind = .unused ∨ flagged unjoined k = false) := by decide +kernel

/-- The profile of the tests with one channel's kind changed. -/
def withKind (k : Chan) (x : Kind) (p : Profile) : Profile :=
  { p with channels := p.channels.set k { p.channels[k] with kind := x } }

/-- The profile of the tests with one roster entry changed. -/
def withEntry (i : Fin 32) (x : RosterEntry) (p : Profile) : Profile := { p with roster := p.roster.set i x }

/-- The profile of the tests with a radio, and the same with the dish line not enabled. -/
def joinProfile (dish : Bool) : Profile :=
  { testProfile true with dish := { DishProfile.initial with enable := dish } }

/-- A failing profile for each clause on the item that JOIN names. -/
theorem witness_JoinIsCheckedAndEntersListening_items :
    (1 ≤ (joinProfile true).stationId ∧ (joinProfile true).stationId ≤ 30 ∧ (joinProfile true).dish.enable = true ∧
        (joinProfile true).radio = true) ∧ DishStands (joinProfile true) ∧
      Lowest (SecondOfKind (withKind 5 .booster (joinProfile true))) 5 ∧
      channelsOf (withKind 0 .unused (joinProfile true)) .booster = [] ∧
      (∀ k : Chan, ¬ SecondOfKind (withKind 0 .unused (joinProfile true)) k) ∧
      Lowest (OfDishKind (joinProfile false)) 0 ∧
      Lowest (Groupless (withEntry 1 ⟨9999, none, true⟩ (joinProfile true))) 1 ∧
      Lowest (SharesAddress (withEntry 1 ⟨2000, some 7, true⟩ (joinProfile true))) 1 ∧
      ∀ i : Fin 32, ¬ Groupless (joinProfile true) i := by
  unfold Lowest SecondOfKind OfDishKind Groupless SharesAddress DishStands
  refine ⟨?_, ?_, ?_, ?_, ?_, ?_, ?_, ?_, ?_⟩ <;> decide +kernel

/-- R89: the seven checks of JOIN name their items: the identifier, the second BOOSTER at channel 5, the dish enable, the
BOOSTER at channel 0 without a dish line, each edge, the group of entry 31, and the address of entry 31. -/
theorem test_join_names_the_item_of_the_check :
    let p := joinProfile true
    joinCheck { p with stationId := 31 } = some (1, 0) ∧ joinCheck (withKind 5 .booster p) = some (4, 5) ∧
      joinCheck (withKind 0 .unused p) = some (16, 0) ∧ joinCheck (joinProfile false) = some (4, 0) ∧
      joinCheck { p with dish := { p.dish with b := p.dish.a } } = some (17, 1) ∧
      joinCheck { p with dish := { p.dish with c := p.dish.b - 1 } } = some (17, 2) ∧
      joinCheck { p with dish := { p.dish with d := p.dish.c } } = some (17, 3) ∧
      joinCheck { p with dish := { p.dish with e := p.dish.d } } = some (17, 4) ∧
      joinCheck (withEntry 31 ⟨9999, none, true⟩ p) = some (32, 31) ∧
      joinCheck (withEntry 31 ⟨2000, some 7, true⟩ p) = some (31, 31) := by decide +kernel

theorem witness_DishCommandsSetModeTagAndCleanCount :
    let s := edgeTo 2 false active
    let waits (ps : List Nat) := withLine 2 ⟨false, false, none⟩ (withDish (fun d => { d with racks := ps.map (rackAt 41) }) active)
    let near := waits [5500]
    let full := waits (List.replicate 12 5500)
    let close := waits [5499]
    (portDeaf active = false ∧ joined active = true ∧ active.profile.dish.enable = true ∧ active.dish.mode = .off ∧
        useActive s .dishEntry = false ∧ takes 0 60 20 [(61, 60, true), (65535, 20, false)] = true ∧
        takes 0 active.dish.clean 20 [(1, 0, true)] = true) ∧
      (useActive near .dishEntry = true ∧ near.dish.racks.length < 12 ∧
        ∀ r ∈ near.dish.racks.getLast?, 5500 ≤ r.position) ∧
      (useActive full .dishEntry = true ∧ 12 ≤ full.dish.racks.length ∧
        ∀ r ∈ full.dish.racks.getLast?, 5500 ≤ r.position) ∧
      (useActive close .dishEntry = true ∧ ∃ r ∈ close.dish.racks.getLast?, r.position < 5500) ∧
      active.paging.calls.Pairwise (fun a b => a.number ≠ b.number) ∧
      (withDish (fun d => { d with mode := .on }) active).dish.mode = .on ∧
      (withDish (fun d => { d with mode := .jam }) active).dish.mode = .jam ∧
      openCall .rinseHold 0 active = none ∧ openCall .entryFull 0 active = none ∧ openCall .jam 0 active = none := by
  decide +kernel

theorem witness_OpenCallsFollowTheirTimerAndPageStates :
    let c (b : Nat) (t : Option Nat) : Call := { openedCall 23 .jam .calling t with broadcasts := b }
    let s (x : Call) := withPaging (fun g => { g with calls := [x] }) active
    (awake (s (c 3 (some 0))) = true ∧ (s (c 3 (some 0))).paging.calls.find? (fun x => decide (x.number = 23)) =
        some (c 3 (some 0)) ∧ (c 3 (some 0)).state = .calling ∧ 3 ≤ (c 3 (some 0)).broadcasts) ∧
      ((c 2 (some 0)).broadcasts < 3 ∧ active.profile.radio = false) ∧
      (∀ x ∈ (s (c 1 (some 1))).paging.calls, x.number = 23 → x.timer ≠ some 0) ∧
      (maySend (s (c 1 none)) = true ∧ 30 ≠ (s (c 1 none)).profile.stationId ∧ 6 ≠ (s (c 1 none)).profile.stationId) ∧
      (∀ x ∈ (s (c 1 none)).paging.calls, x.number = 23 ∧ reasonCode x.reason = 8 ∧ x.subject = 23 ∧ x.state ≠ .local) ∧
      (s (c 1 none)).paging.calls.Pairwise (fun x y => x.number ≠ y.number) := by decide +kernel

theorem witness_WindowStartDividesTheGrantInOrder :
    awake allocationCase = true ∧ allocationCase.heat.window.due = true ∧
      (after .windowStart allocationCase).heat.order = [0] ++ 1 :: [3, 2] := by decide +kernel

/-- The three stations of chapter 5 that agree, with asks of the class order 3, 2, 1, 0. -/
def agreeing (own a b : Asks) : State :=
  (withProfile (fun p => { p with feeder := ⟨3000, 300, 1500, 300⟩ })
    (active.setPeers [{ peer 1 0 with asks := a }, { peer 2 0 with asks := b }])).setShare { active.share with asks := own }

theorem witness_StationsThatAgreeStayWithinTheFeeder :
    let a : Asks := ⟨400, 600, 300, 0⟩
    let b : Asks := ⟨0, 900, 250, 0⟩
    let c : Asks := ⟨0, 700, 150, 0⟩
    let stations := [agreeing a b c, agreeing b a c, agreeing c a b]
    ∀ s ∈ stations, s.life.station = .active ∧ s.profile.feeder.limit = 3000 ∧ s.profile.feeder.margin = 300 ∧
      ((s.share.asks, s.share.drawing) :: s.peers.map (fun p => (p.asks, p.drawing))).Perm
        (stations.map (fun u => (u.share.asks, u.share.drawing))) := by decide +kernel

/-- A station with its lists in use, and a LOAD to come. -/
def inUse : State :=
  (withHolds twoHolds (withLoads 3 [⟨1, 100, 0, 1200000⟩] (withPaging (fun g => { g with
    calls := [openedCall 23 .jam .taken (some 9)], queue := [paged 61 2 .waiting, { paged 62 1 .waiting with number := 7 }] })
    busySecond))).setPending [.load [3, 10]]

theorem witness_StepKeepsTheCapacities : WithinCapacity inUse ∧ ∃ t, step inUse = .next t :=
  ⟨⟨by decide +kernel, by decide +kernel, by decide +kernel, by decide +kernel, by decide +kernel, by decide +kernel,
    by decide +kernel, by decide +kernel⟩, _, rfl⟩

theorem witness_StepKeepsTheNames :
    WithinCapacity inUse ∧ NamesLaw inUse.paging ∧ ∃ t, step inUse = .next t :=
  ⟨witness_StepKeepsTheCapacities.1, ⟨by decide +kernel, by decide +kernel⟩, _, rfl⟩

theorem witness_StepKeepsTheHeaterAndChargeLaws :
    let s := after .windowStart allocationCase
    HeaterLaw s ∧ ChargeLaw s ∧ ∃ t, step s = .next t := by
  refine ⟨⟨fun k => ?_, by decide +kernel, by decide +kernel⟩, ⟨by decide +kernel, by decide +kernel, by decide +kernel⟩, _,
    rfl⟩
  have h : ∀ k : Chan,
      let c := (after .windowStart allocationCase).heat.channels[k]
      c.demand ≤ 1000 ∧ c.duty ≤ c.demand ∧ c.served ≤ c.onTime ∧ (-1000 ≤ c.integral ∧ c.integral ≤ 1000) ∧
        (heating c.state = false → c.demand = 0) ∧ (c.heater = true → heating c.state = true ∧ 0 < c.onTime) ∧
        (c.heater = true → (after .windowStart allocationCase).profile.channels[k].kind = .oven → c.doorFlag = false) := by
    decide +kernel
  exact ⟨(h k).1, (h k).2.1, (h k).2.2.1, (h k).2.2.2.1, (h k).2.2.2.2.1, (h k).2.2.2.2.2.1, (h k).2.2.2.2.2.2⟩

theorem witness_StepKeepsTheStockLaw : WithinCapacity inUse ∧ StockLaw inUse ∧ ∃ t, step inUse = .next t :=
  ⟨witness_StepKeepsTheCapacities.1,
    ⟨holdLaw_twoHolds, by decide +kernel, by decide +kernel, by decide +kernel, by decide +kernel, by decide +kernel⟩, _, rfl⟩

theorem witness_StepKeepsTheOrdersOfTheTables :
    let s := withDish (fun d => { d with racks := [rackAt 41 38000, rackAt 42 32500] }) (timeline.setPeers [peer 1 0, peer 7 0])
    risingPeers s.peers ∧ risingWaves s.waves ∧ spacedRacks s.dish.racks ∧ FeederLaw s.profile.feeder ∧
      ∃ t, step s = .next t := by
  refine ⟨?_, ?_, ⟨by decide +kernel, trivial⟩, ⟨by decide +kernel, by decide +kernel, by decide +kernel, by decide +kernel⟩, _,
    rfl⟩
  · unfold risingPeers; decide +kernel
  · unfold risingWaves; decide +kernel

theorem witness_FramesAreReadAsTheyAreLaidOut :
    (Frame.holdFree ⟨3, 0, 14, 2⟩).fits = true ∧ (Frame.stock ⟨some 65535, List.replicate 8 ⟨7, 65535, 0⟩⟩).fits = true ∧
      (Frame.announce ⟨255, 255, ⟨65535, 0, 0, 0⟩, 65535, true⟩).fits = true := by decide +kernel

theorem witness_RecordsAreReadAsTheyAreLaidOut :
    (List.replicate 255 (word 0)).length < 256 ∧ inboundLength (byte 2).toNat = none ∧
      inboundLength (byte 5).toNat = some 4 ∧ (byte 4).toNat = 4 ∧ ([0, 1, 1] : List Byte).length + 1 = 4 ∧
      ([0, 0] : List Byte) ≠ twoBytes (checkSum (4 :: 5 :: [0, 1, 1])) := by decide +kernel

end Sys2Proof.Tests
end

section
/-! The reasoning rules of the wrappers that every meaning goes through (R87, R184, R185), and of the operands. -/

namespace Sys2Proof.Machine

/-! ## Events, expiries and panel commands -/

@[simp] theorem doWhen_true (f : State → State) (s : State) : doWhen true f s = f s := rfl

@[simp] theorem doWhen_false (f : State → State) (s : State) : doWhen false f s = s := rfl

theorem event_of_awake {s : State} (h : awake s = true) (f : State → State) : event f s = .next (f s) := by
  simp [event, h]

theorem event_of_reset {s : State} (h : awake s = false) (f : State → State) : event f s = .next s := by
  simp [event, h]

theorem expiry_of_due {s : State} {due : Bool} (h : awake s = true) (hd : due = true) (f : State → State) :
    expiry due f s = .next (f s) := by
  simp [expiry, event_of_awake h, hd]

theorem expiry_of_not_due {s : State} {due : Bool} (hd : due = false) (f : State → State) :
    expiry due f s = .next s := by
  cases h : awake s <;> simp [expiry, event, h, hd]

theorem panel_of_hearing {s : State} (h : portDeaf s = false) (code : Nat) (body : State → Except Reason Done) :
    panel code body s = .next (conclude code (body (endTransaction s)) (endTransaction s)) := by
  simp [panel, h]

/-- An accepted command leaves its state with its reply in the slot. -/
theorem panel_of_accepted {s u : State} {code : Nat} {clamped : Bool} {r : Result} {body : State → Except Reason Done}
    (h : portDeaf s = false) (hb : body (endTransaction s) = .ok ⟨u, clamped, r⟩) :
    panel code body s = .next (setReply (.done code clamped r) u) := by
  rw [panel_of_hearing h, hb]
  rfl

/-- The reply of a command that has left the port alone. -/
theorem answered_setReply {s u : State} (code : Nat) (clamped : Bool) (r : Result)
    (hu : u.port = (endTransaction s).port) : Answered code clamped r s (setReply (.done code clamped r) u) := by
  simp [Answered, setReply, hu, endTransaction]

theorem stageOk_joinedOnly {s : State} (h : joined s = true) : stageOk .joinedOnly s.life.station = true := h

@[simp] theorem checked_pass {α : Type} (owner : Except Reason α) : checked true true true owner = owner := rfl

@[simp] theorem endTransaction_life (s : State) : (endTransaction s).life = s.life := rfl
@[simp] theorem endTransaction_profile (s : State) : (endTransaction s).profile = s.profile := rfl

/-! ## Numeric parameters (R186, R187) -/

/-- The reading of a parameter, by its first word and the number its words spell. -/
theorem numeric_of_paramTakes {lo hi d number v : Nat} {first : Word} {clamped : Bool}
    (h : ParamTakes lo hi d first.toNat number v clamped) :
    numeric lo hi d ((tokenOf first).getD (.value number)) = (v, clamped) := by
  obtain ⟨hvalue, hleast, hmost, hdflt⟩ := h
  have hw := first.isLt
  unfold tokenOf
  split
  · next e => obtain ⟨rfl, rfl⟩ := hleast e; rfl
  · split
    · next e => obtain ⟨rfl, rfl⟩ := hmost e; rfl
    · split
      · next e => obtain ⟨rfl, rfl⟩ := hdflt e; rfl
      · obtain ⟨rfl, rfl⟩ := hvalue (by omega)
        rfl

theorem numeric_of_takes {lo hi d v : Nat} {w : Word} {clamped : Bool} (h : Takes lo hi d w v clamped) :
    numeric lo hi d (narrow w) = (v, clamped) := numeric_of_paramTakes h

theorem numeric_of_takesWide {lo hi d v : Nat} {upper lower : Word} {clamped : Bool}
    (h : TakesWide lo hi d upper lower v clamped) : numeric lo hi d (wide upper lower) = (v, clamped) :=
  numeric_of_paramTakes h

end Sys2Proof.Machine
end

section
/-! Resets, the scanner, the drivers and the clock. -/

namespace Sys2Proof.Machine

/-! ## The reset state -/

theorem reset_channel (k : Chan) : State.reset.heat.channels[k] = Channel.initial 0 := by
  simp [State.reset, Heat.initial, Profile.initial, ChanProfile.initial]

theorem reset_channelProfile (k : Chan) : State.reset.profile.channels[k] = ChanProfile.initial k := by
  simp [State.reset, Profile.initial]

theorem reset_input (k : Chan) : State.reset.scan.inputs[k] = ⟨0, false, 0, 0⟩ := by
  simp [State.reset, Scanner.initial]

theorem reset_warmer (k : Chan) : State.reset.stock.warmers[k] = Warmer.initial := by
  simp [State.reset, Stock.initial]

theorem reset_line (l : LineNo) : State.reset.lines[l] = { pin := true, taken := true, debounce := none } := by
  simp [State.reset]

/-- Settles O2: every block of the reset state is written out in the model, channel by channel and line by line. -/
theorem resetStateHoldsTheManualsValues : Obligations.ResetStateHoldsTheManualsValues := by
  have hchannels : ∀ k : Chan, State.reset.profile.channels[k].kind = .unused ∧
      State.reset.heat.channels[k].state = .idle ∧ State.reset.heat.channels[k].heater = false ∧
      State.reset.scan.inputs[k].lastGood = 0 ∧ State.reset.scan.inputs[k].faulted = false ∧
      State.reset.stock.warmers[k].loads = [] := fun k => by
    rw [reset_channel, reset_channelProfile, reset_input, reset_warmer]
    exact ⟨rfl, rfl, rfl, rfl, rfl, rfl⟩
  unfold Obligations.ResetStateHoldsTheManualsValues
  refine ⟨rfl, rfl, rfl, rfl, rfl, rfl, rfl, hchannels, rfl, rfl, rfl, rfl, rfl, rfl, rfl, rfl, rfl, rfl, rfl, rfl,
    rfl, rfl, rfl, rfl, rfl, rfl, reset_line, rfl, rfl, rfl, rfl, rfl, rfl, rfl, rfl, rfl, rfl, rfl, rfl, rfl, rfl, rfl,
    rfl, rfl, rfl⟩

/-! ## The scanner (R1 to R5) -/

theorem convertInput_of_bad {raw : Int} (h : raw < -600 ∨ 3600 < raw) (x : TempInput) :
    convertInput raw x = badConversion x := by
  have hn : ¬ (-600 ≤ raw ∧ raw ≤ 3600) := by omega
  simp [convertInput, takeConversion, hn]

theorem convertInput_of_good {raw : Int} (hlo : -600 ≤ raw) (hhi : raw ≤ 3600) (x : TempInput) :
    convertInput raw x = goodConversion (clampInt (-500) 3500 raw) x := by
  simp [convertInput, takeConversion, hlo, hhi]

/-- What a bad conversion leaves (R2). -/
theorem badConversion_spec (x : TempInput) :
    (badConversion x).goodCount = 0 ∧ (badConversion x).badCount = min 2 (x.badCount + 1) ∧
      (badConversion x).lastGood = x.lastGood ∧
      ((badConversion x).faulted = true ↔ x.faulted = true ∨ (badConversion x).badCount = 2) := by
  simp [badConversion]

/-- What a good conversion leaves (R2, R3). -/
theorem goodConversion_spec (v : Temp) (x : TempInput) :
    (goodConversion v x).badCount = 0 ∧ (goodConversion v x).goodCount = min 4 (x.goodCount + 1) ∧
      (x.faulted = false ∨ (goodConversion v x).goodCount = 4 →
        (goodConversion v x).faulted = false ∧ (goodConversion v x).lastGood = v) ∧
      (x.faulted = true → (goodConversion v x).goodCount < 4 →
        (goodConversion v x).faulted = true ∧ (goodConversion v x).lastGood = x.lastGood) := by
  by_cases h : x.faulted = true ∧ min 4 (x.goodCount + 1) < 4
  · simp only [goodConversion, h.1, h.2, decide_true, Bool.and_self, if_true]
    simp only [Bool.true_eq_false, false_or]
    refine ⟨trivial, trivial, fun he => ?_, fun _ _ => ⟨trivial, trivial⟩⟩
    omega
  · have hb : (x.faulted && decide (min 4 (x.goodCount + 1) < 4)) = false := by simpa using h
    simp only [goodConversion, hb, Bool.false_eq_true, if_false]
    exact ⟨trivial, trivial, fun _ => ⟨trivial, trivial⟩, fun hf hlt => absurd ⟨hf, hlt⟩ h⟩

theorem convertAll_input (c : Conversions) (x : Scanner) (k : Chan) :
    (convertAll c x).inputs[k] = convertInput c.t[k] x.inputs[k] := by
  simp [convertAll]

theorem takeCurrent_eq (raw : Int) : (takeCurrent raw : Int) = max 0 (min 2000 raw) := by
  unfold takeCurrent clampInt
  omega

/-- The meaning of a sweep completion that is due. -/
theorem exec_sweepCompletion {s : State} (h : awake s = true) (hp : 250 ≤ s.scan.phase) (c : Conversions) :
    exec (.sweepCompletion c) s = .next (sweep c s) :=
  expiry_of_due h (decide_eq_true hp) _

/-- What the blocks do with a sweep leaves the scanner as the conversions left it. -/
@[simp] theorem sweep_scan (c : Conversions) (s : State) : (sweep c s).scan = convertAll c s.scan :=
  (deliverSweep_frame _ _).scan

theorem sweep_unjoined {s : State} (h : joined s = false) (c : Conversions) :
    sweep c s = s.setScan (convertAll c s.scan) := by
  have hj : joined (s.setScan (convertAll c s.scan)) = false := h
  simp [sweep, deliverSweep, hj]

/-- Settles O46: a bad and a good conversion by cases of R2, and the frame of a sweep. -/
theorem sweepConvertsInputsAndCurrents : Obligations.SweepConvertsInputsAndCurrents := by
  refine ⟨⟨fun c s h hp => ⟨_, exec_sweepCompletion h hp c, fun k => ?_⟩, reset_input⟩, fun c s h => ⟨fun hp => ?_, fun hp => ?_⟩⟩
  · rw [sweep_scan, convertAll_input]
    refine ⟨fun hbad => ?_, fun hlo hhi => ?_⟩
    · rw [convertInput_of_bad hbad]
      exact badConversion_spec _
    · rw [convertInput_of_good hlo hhi]
      exact goodConversion_spec _ _
  · exact expiry_of_not_due (decide_eq_false (by simpa using hp)) _
  · refine ⟨_, exec_sweepCompletion h hp c, ?_⟩
    simp only [sweep_scan]
    refine ⟨takeCurrent_eq _, takeCurrent_eq _, rfl, rfl, rfl, sweep_frame c s, fun hj => ?_⟩
    rw [sweep_unjoined hj]
    exact State.setScan_frame _ _

/-! ## Speed and drivers (R11 to R15, R102, R119) -/

theorem anyHold_iff (h : HoldSet) : anyHold h = true ↔ h ≠ HoldSet.empty := by
  obtain ⟨rinse, entry, exit, door, idle⟩ := h
  simp only [anyHold, HoldSet.empty, ne_eq, HoldSet.mk.injEq]
  revert rinse entry exit door idle
  decide

/-- The verdict lamps show a verdict of the rack at exit (R13). -/
theorem exitVerdict_eq_some (d : Dish) (v : Verdict) :
    exitVerdict d = some v ↔ d.atExit = true ∧ ∃ r rest, d.racks = r :: rest ∧ r.verdict = v := by
  unfold exitVerdict
  cases d.atExit <;> cases d.racks <;> simp

theorem anyTripped_iff (s : State) :
    anyTripped s = true ↔ ∃ k : Chan, isTripped s.heat.channels[k].state = true := by
  simp only [anyTripped, List.any_eq_true]
  refine ⟨?_, ?_⟩
  · rintro ⟨c, hc, ht⟩
    obtain ⟨i, hi, rfl⟩ := List.getElem_of_mem hc
    exact ⟨⟨i, by simpa using hi⟩, by simpa using ht⟩
  · rintro ⟨k, ht⟩
    exact ⟨s.heat.channels[k], by simp, ht⟩

/-- A joined state's DISH-SPEED changes the requested speed alone (R119). -/
theorem exec_dishSpeed {s : State} {w : Word} {v : Nat} {clamped : Bool} (hd : portDeaf s = false)
    (hj : joined s = true) (he : s.profile.dish.enable = true)
    (hv : Takes 20 400 s.profile.dish.requestedDefault w v clamped) :
    exec (.dishSpeed [w]) s = .next (setReply (.done 34 clamped .none)
      (updateDish (fun d => { d with requested := v }) (endTransaction s))) := by
  refine panel_of_accepted hd ?_
  simp [dishSpeedCommand, oneNumber, stageOk_joinedOnly hj, dishOnly, he, numeric_of_takes hv, accepted]

/-- At the reset values no driver presents anything. -/
theorem outputs_of_atReset {s t : State} (h : AtReset s t) : outputs t = {
    heaters := Vector.replicate 8 false, convRun := false, convSpeed := 0, lampClean := false, lampRewash := false,
    lampHold := false, lampAlarm := false, reportLine := false } := by
  obtain ⟨hframe, -, -, hreports, -⟩ := h
  have hlife : t.life = State.reset.life := hframe.life
  have hj : joined t = false := by
    unfold joined
    rw [hlife]
    rfl
  have hheaters : t.heat.channels.map (fun _ => false) = Vector.replicate 8 false := by
    ext i hi
    simp
  simp [outputs, convRun, lampHold, lampAlarm, hreports, hj, hheaters]

/-- Settles O19: the command, the two formulas of R102, and each driver by the rule that gives it. -/
theorem speedCommandSetsEffectiveSpeedAndLevel : Obligations.SpeedCommandSetsEffectiveSpeedAndLevel := by
  refine ⟨fun w v clamped s hd hj he hv => ?_, fun p requested => ⟨rfl, rfl, fun hshort => ?_⟩, fun s => ?_,
    fun s t => outputs_of_atReset, by decide, by decide⟩
  · refine ⟨_, exec_dishSpeed hd hj he hv, ?_, rfl, answered_setReply _ _ _ rfl, rfl⟩
    exact SameExcept.step (setReply_frame _ _) (SameExcept.step (updateDish_frame _ _)
      ((endTransaction_frame s).mono (by decide)) (by decide)) (by decide)
  · have hzero : effectiveSpeed p requested = 0 := by simp [effectiveSpeed, Nat.div_eq_of_lt hshort]
    exact ⟨hzero, by simp [speedLevel, hzero]⟩
  · refine ⟨rfl, fun h => if_pos h, fun h => if_neg (by simpa [outputs] using h), fun k => by simp [outputs], ?_, ?_, ?_,
      ?_, ?_⟩
    · simp [outputs, exitVerdict_eq_some]
    · simp [outputs, exitVerdict_eq_some]
    · simp [outputs, lampHold, dishStopped, anyHold_iff]
    · simp [outputs, lampAlarm, anyTripped_iff, or_assoc]
    · simp [outputs]

/-! ## Resets (R87) -/

/-- A reset puts every block at its reset values and lets the waiting commands wait. -/
theorem resetBlocks_atReset (r : Resetting) (s : State) : AtReset s (resetBlocks r s) := by
  refine ⟨fun b hb => ?_, fun l => by simp [resetBlocks, resetLine], rfl, rfl, rfl⟩
  cases b with
  | pending => exact absurd (by decide) hb
  | resetting => exact absurd (by decide) hb
  | lines => exact absurd (by decide) hb
  | port => exact absurd (by decide) hb
  | _ => rfl

theorem atReset_of_endTransaction {s t : State} (h : AtReset (endTransaction s) t) : AtReset s t := h

/-- The station has heard nothing but the end or the start of a transaction that it discards. -/
def HeardNothing (s : State) (o : Out) : Prop := ∃ x : Transaction, o = .next (s.setPort { s.port with transaction := x })

theorem HeardNothing.of_same {s : State} {o : Out} (h : o = .next s) : HeardNothing s o := ⟨s.port.transaction, h⟩

theorem event_heardNothing {s : State} (h : awake s = false) (f : State → State) : HeardNothing s (event f s) :=
  .of_same (event_of_reset h f)

theorem expiry_heardNothing {s : State} (h : awake s = false) (due : Bool) (f : State → State) :
    HeardNothing s (expiry due f s) := event_heardNothing h _

theorem portDeaf_of_reset {s : State} (h : awake s = false) : portDeaf s = true := by simp [portDeaf, h]

theorem panel_heardNothing {s : State} (h : awake s = false) (code : Nat) (body : State → Except Reason Done) :
    HeardNothing s (panel code body s) := ⟨.none, by rw [panel, if_pos (portDeaf_of_reset h)]; rfl⟩

theorem endWith_heardNothing {s : State} (h : awake s = false) (f : State → State) : HeardNothing s (endWith f s) :=
  ⟨.none, by rw [endWith, if_pos (portDeaf_of_reset h)]; rfl⟩

theorem restart_heardNothing {s : State} (h : awake s = false) (p : List Word) : HeardNothing s (execRestart p s) :=
  ⟨.none, by rw [execRestart, if_pos (portDeaf_of_reset h)]; rfl⟩

/-- In reset every command that is no reset command and no pin level is heard by no block (R87). -/
theorem exec_heardNothing {c : Instr} {s : State} (h : awake s = false) (ha : c ≠ .resetAssert)
    (hr : c ≠ .resetRelease) (hs : c ≠ .restartRelease) (hl : ∀ l high, c ≠ .linePinChange l high) :
    HeardNothing s (exec c s) := by
  cases c with
  | resetAssert => exact absurd rfl ha
  | resetRelease => exact absurd rfl hr
  | restartRelease => exact absurd rfl hs
  | linePinChange l high => exact absurd rfl (hl l high)
  | restart p => exact restart_heardNothing h p
  | transactionStart => exact ⟨.dead, by simp [exec, execTransactionStart, h, setTransaction]⟩
  | statusOnlyEnd => exact ⟨.none, rfl⟩
  | incompleteCommand _ | unknownCommand _ | nothing _ => exact endWith_heardNothing h _
  | heat _ | heatOff _ | channelClear _ | profilePut _ | join _ | leave _ | setClock _ | dishOn _ | dishOff _
  | dishSpeed _ | dishResume _ | nextRack _ | pickup _ | load _ | take _ | wavePlan _ | waveFire _ | wavePlate _
  | waveClose _ | waveCancel _ | page _ | callEnd _ | duty _ | allCall _ | allCallEnd _ | query _ | readReport _ =>
    exact panel_heardNothing h _ _
  | encoderPulse | frameStart | arbitrationLost | bitFault | frameResult _ | lineStuck | lineClear | badFrame _
  | frameMismatch _ | duplicateId _ | announce _ _ | stock _ _ | holdAsk _ _ | holdFree _ _ | holdAnswer _ _
  | holdState _ _ | pageCall _ _ | pageState _ _ | pageCancel _ _ | modemRecordSent | result _ _ | ack _ _
  | dutyRecord _ _ | ready | modemInterbyteTimeout | startByte | modemRecordDiscarded _ =>
    exact event_heardNothing h _
  | sweepCompletion _ | lineEdge _ | windowStart | onTimeEnd _ | leavingAnnounceTimeout | silenceStale _
  | silenceRemove _ | stockAgeExpiry _ | announceTick | listeningTimerExpiry | clockSecond | jamTimerExpiry
  | rinseHoldTimeExpiry | idleTimeExpiry | coolingReset _ | holdExpiry _ | stockTick | cookTimer _ | askCheck _
  | answerTimerExpiry _ _ | broadcastTimerExpiry _ | resultTimeout | busyTimerExpiry _ | ackTimerExpiry _
  | allRecordDue | allCallExpiry => exact expiry_heardNothing h _ _

theorem not_awake_iff {s : State} : awake s = false ↔ s.resetting ≠ .no := by simp [awake]

/-- Settles O52: each reset is `resetBlocks`, and in reset a case split over the commands finds none that is heard. -/
theorem resetsGiveTheResetValuesAndHearNothing : Obligations.ResetsGiveTheResetValuesAndHearNothing := by
  refine ⟨fun s => ⟨⟨_, rfl, resetBlocks_atReset _ s, rfl, rfl⟩, fun hp => ?_, fun hp => ?_, fun hd => ?_, fun hr => ?_⟩,
    fun c s hr ha hb hc hl => ?_, fun l high s hr => ?_⟩
  · refine ⟨_, ?_, resetBlocks_atReset .no s, rfl, rfl⟩
    simp [exec, execResetRelease, hp]
  · simp [exec, execResetRelease, hp]
  · refine ⟨_, ?_, atReset_of_endTransaction (resetBlocks_atReset (.restart 10) (endTransaction s)), rfl, rfl, rfl⟩
    simp [exec, execRestart, hd, restartCommand]
  · refine ⟨_, ?_, resetBlocks_atReset .no s, rfl, rfl⟩
    simp [exec, execRestartRelease, hr]
  · obtain ⟨x, hx⟩ := exec_heardNothing (not_awake_iff.2 hr) ha hb hc hl
    exact ⟨_, hx, State.setPort_frame _ _, rfl⟩
  · simp [exec, execLinePinChange, updateLine, not_awake_iff.2 hr]

/-! ## Time (R95, Timebase) -/

/-- An accepted SET-CLOCK (R95). -/
theorem exec_setClock {hi lo : Word} {v : Nat} {clamped : Bool} {s : State} (hd : portDeaf s = false)
    (hj : joined s = true) (hv : TakesWide 0 86399 0 hi lo v clamped) :
    exec (.setClock [hi, lo]) s = .next (setReply (.done 5 clamped .none)
      ((endTransaction s).setLife { s.life with clock := v, second := s.life.second.taken })) := by
  refine panel_of_accepted hd ?_
  simp [setClockCommand, stageOk_joinedOnly hj, numeric_of_takesWide hv, accepted]

/-- The judging of the waves leaves the clock, and without a wave it is nothing. -/
theorem clockSecond_life (s : State) :
    (clockSecond s).life = { s.life with clock := (s.life.clock + 1) % 86400, second := s.life.second.taken } :=
  (judgeWaves_frame _).life

theorem clockSecond_of_no_waves {s : State} (h : s.waves = []) : SameExcept [.life] s (clockSecond s) := by
  have hw : clockSecond s = s.setLife
      { s.life with clock := (s.life.clock + 1) % Config.day, second := s.life.second.taken } := by
    simp [clockSecond, judgeWaves, h]
  rw [hw]
  exact State.setLife_frame _ _

theorem step_of_empty {s : State} (h : s.pending = []) : step s = .next (idle s) := by simp [step, h]

theorem idle_of_due {s : State} {c : Instr} (h : nextDue s = some c) : idle s = s.setPending [c] := by simp [idle, h]

theorem idle_of_pin {s : State} (h : s.resetting = .pin) : idle s = s := by
  simp [idle, nextDue, waitsForSweep, awake, advance, h]

theorem idle_of_restart {s : State} {n : Nat} (h : s.resetting = .restart (n + 1)) :
    idle s = s.setResetting (.restart n) := by
  simp [idle, nextDue, waitsForSweep, awake, advance, h]

theorem idle_of_sweep_due {s : State} (hn : nextDue s = none) (hr : s.resetting = .no) (hp : 250 ≤ s.scan.phase) :
    idle s = s := by
  simp [idle, hn, waitsForSweep, awake, hr, sweepDue, hp]

theorem idle_of_free_time {s : State} (hn : nextDue s = none) (hr : s.resetting = .no) (hp : s.scan.phase < 250) :
    idle s = passTime s := by
  have hp' : ¬ 250 ≤ s.scan.phase := by omega
  simp [idle, hn, waitsForSweep, hr, sweepDue, hp', advance]

theorem passTime_frame (s : State) :
    SameExcept [.life, .scan, .lines, .pulseAge, .heat, .bus, .peers, .share, .dish, .stock, .waves, .paging] s
      (passTime s) := by
  intro b hb
  cases b with
  | pending | resetting | profile | port => rfl
  | _ => exact absurd (by decide) hb

/-- A millisecond of a period clock: stopped, short of its moment, or at it. -/
theorem tickOf_cases (period : Nat) (c : PeriodClock) :
    (c.running = false → c.tickOf period = c) ∧
      (c.running = true → c.phase + 1 < period → c.tickOf period = { c with phase := c.phase + 1 }) ∧
      (c.running = true → period ≤ c.phase + 1 → c.tickOf period = { c with due := true }) := by
  refine ⟨fun h => by simp [PeriodClock.tickOf, h], fun h hlt => ?_, fun h hle => ?_⟩
  · simp [PeriodClock.tickOf, h, Nat.not_le.2 hlt]
  · simp [PeriodClock.tickOf, h, hle]

theorem tickChannel_eq (c : Channel) : tickChannel c = { c with
    served := if c.heater = true ∧ c.served < c.onTime then c.served + 1 else c.served } := by
  by_cases h : c.heater = true ∧ c.served < c.onTime
  · simp [tickChannel, h]
  · have hb : (c.heater && decide (c.served < c.onTime)) = false := by simpa using h
    simp [tickChannel, hb, h]

theorem conveyorRuns_iff (d : Dish) : conveyorRuns d = true ↔ d.mode = .on ∧ anyHold d.holds = false := by
  simp [conveyorRuns]

/-- What counts the answer timer of each source down is `tickSource` (R154). -/
theorem eq_tickSource {count : Source → Source} (h : ∀ r, count r = { r with hold := match r.hold with
    | .asked n b => .asked (n - 1) b
    | h => h }) : count = tickSource := by
  funext ⟨station, channel, hold, taken⟩
  rw [h]
  cases hold <;> rfl

/-- Settles O7: the command, the clock second, and one idle step by what stands due. -/
theorem clockIsSetAndTimePassesOnAnEmptyQueue : Obligations.ClockIsSetAndTimePassesOnAnEmptyQueue := by
  refine ⟨⟨fun hi lo v clamped s hd hj hv => ?_, fun s h hdue => ?_⟩, fun s hempty => ?_⟩
  · refine ⟨_, exec_setClock hd hj hv, ?_, answered_setReply _ _ _ rfl, rfl⟩
    exact SameExcept.step (setReply_frame _ _) (SameExcept.step (State.setLife_frame _ _)
      ((endTransaction_frame s).mono (by decide)) (by decide)) (by decide)
  · exact ⟨_, expiry_of_due h hdue _, clockSecond_life s, clockSecond_frame s, clockSecond_of_no_waves⟩
  · rw [step_of_empty hempty]
    refine ⟨fun c hc => by rw [idle_of_due hc], fun hp => by rw [idle_of_pin hp], fun n hn => by rw [idle_of_restart hn],
      fun hn hr hp => by rw [idle_of_sweep_due hn hr hp], fun hn hr hp => ?_⟩
    rw [idle_of_free_time hn hr hp]
    refine ⟨_, rfl, passTime_frame s, fun a b period hmem => ?_, rfl, ?_, fun l => ?_, rfl, rfl, fun k => ?_, rfl, rfl, rfl,
      ?_, rfl, fun count hcount => ?_, rfl⟩
    · simp only [List.mem_cons, Prod.mk.injEq, List.not_mem_nil, or_false] at hmem
      obtain ⟨rfl, rfl, rfl⟩ | ⟨rfl, rfl, rfl⟩ | ⟨rfl, rfl, rfl⟩ | ⟨rfl, rfl, rfl⟩ := hmem <;>
        exact tickOf_cases _ _
    · have hmin : min 250 (s.scan.phase + 1) = s.scan.phase + 1 := by omega
      simp [passTime, hmin]
    · simp [passTime, tickLine, countDown]
    · simp [passTime, tickHeat, tickChannel_eq]
    · simp [passTime, tickDish, conveyorRuns_iff]
    · obtain rfl := eq_tickSource hcount
      rfl

end Sys2Proof.Machine
end

section
/-! Switch lines, doors and the entry of the dish line (R6 to R9, R35, R36, R100, R101, R107, R108, R114, R127). -/

namespace Sys2Proof.Machine

/-! ## Changes of one line and of one channel -/

theorem line_updateLine_same (l : LineNo) (f : Line → Line) (s : State) :
    (updateLine l f s).lines[l] = f s.lines[l] := by
  simp [updateLine]

theorem line_updateLine_other {l j : LineNo} (h : j ≠ l) (f : Line → Line) (s : State) :
    (updateLine l f s).lines[j] = s.lines[j] := by
  have hv : l.val ≠ j.val := fun e => h (Fin.ext e.symm)
  simp [updateLine, hv]

theorem channel_updateChannel_same (k : Chan) (f : Channel → Channel) (s : State) :
    (updateChannel k f s).heat.channels[k] = f s.heat.channels[k] := by
  simp [updateChannel, setChannels]

theorem channel_updateChannel_other {k j : Chan} (h : j ≠ k) (f : Channel → Channel) (s : State) :
    (updateChannel k f s).heat.channels[j] = s.heat.channels[j] := by
  have hv : k.val ≠ j.val := fun e => h (Fin.ext e.symm)
  simp [updateChannel, setChannels, hv]

theorem warmer_setWarmer_same (k : Chan) (w : Warmer) (t : Stock) : (setWarmer k w t).warmers[k] = w := by
  simp [setWarmer]

theorem warmer_setWarmer_other {k j : Chan} (h : j ≠ k) (w : Warmer) (t : Stock) :
    (setWarmer k w t).warmers[j] = t.warmers[j] := by
  have hv : k.val ≠ j.val := fun e => h (Fin.ext e.symm)
  simp [setWarmer, hv]

/-! ## Edges (R6, R7, R9) -/

/-- The line `l` has taken the level on its pin. -/
def edgeTaken (l : LineNo) (s : State) : State := s.setLines (s.lines.set l ⟨s.lines[l].pin, s.lines[l].pin, none⟩)

/-- The new level of line `l` is its active level. -/
def edgeActive (l : LineNo) (s : State) : Bool := s.lines[l].pin == s.profile.lines[l].activeHigh

theorem edgeTaken_eq (l : LineNo) (s : State) :
    updateLine l (fun x => { x with taken := x.pin, debounce := none }) s = edgeTaken l s := rfl

theorem edgeTaken_frame (l : LineNo) (s : State) : SameExcept [.lines] s (edgeTaken l s) := State.setLines_frame _ _

theorem line_edgeTaken_same (l : LineNo) (s : State) :
    (edgeTaken l s).lines[l] = ⟨s.lines[l].pin, s.lines[l].pin, none⟩ := by
  simp [edgeTaken]

theorem line_edgeTaken_other {l j : LineNo} (h : j ≠ l) (s : State) : (edgeTaken l s).lines[j] = s.lines[j] :=
  line_updateLine_other h (fun x => { x with taken := x.pin, debounce := none }) s

theorem lineActive_edgeTaken (l : LineNo) (s : State) : lineActive (edgeTaken l s) l = edgeActive l s := by
  rw [lineActive, line_edgeTaken_same]
  rfl

theorem edgeActive_of_eq {l : LineNo} {s : State} (h : s.lines[l].pin = s.profile.lines[l].activeHigh) :
    edgeActive l s = true := beq_iff_eq.2 h

theorem edgeActive_of_ne {l : LineNo} {s : State} (h : s.lines[l].pin ≠ s.profile.lines[l].activeHigh) :
    edgeActive l s = false := beq_eq_false_iff_ne.2 h

/-- An edge shows at the recipients of its own line alone. -/
theorem useActive_edgeTaken {l : LineNo} {s : State} {u : LineUse} (h : resolvedUse s.profile l ≠ u) :
    useActive (edgeTaken l s) u = useActive s u := by
  unfold useActive
  congr 1
  funext j
  by_cases hj : j = l
  · subst hj
    have hu : decide (resolvedUse s.profile j = u) = false := decide_eq_false h
    simp only [show (edgeTaken j s).profile = s.profile from rfl, hu, Bool.false_and]
  · rw [lineActive, lineActive, line_edgeTaken_other hj]
    rfl

theorem lineEdge_eq (l : LineNo) (s : State) : lineEdge l s =
    doWhen (joined s) (deliverLine (resolvedUse s.profile l) (edgeActive l s)) (edgeTaken l s) := by
  simp only [lineEdge, edgeTaken_eq, lineActive_edgeTaken]

theorem edgeDue_of {l : LineNo} {s : State} (hd : s.lines[l].debounce = some 0)
    (hp : s.lines[l].pin ≠ s.lines[l].taken) : edgeDue l s = true := by
  simp only [edgeDue, hd, decide_true, Bool.true_and, decide_eq_true hp]

/-- The meaning of an edge that is due, in a joined state. -/
theorem exec_lineEdge {l : LineNo} {s : State} (ha : awake s = true) (hj : joined s = true)
    (hd : s.lines[l].debounce = some 0) (hp : s.lines[l].pin ≠ s.lines[l].taken) :
    exec (.lineEdge l) s = .next (deliverLine (resolvedUse s.profile l) (edgeActive l s) (edgeTaken l s)) := by
  refine (expiry_of_due ha (edgeDue_of hd hp) _).trans ?_
  rw [lineEdge_eq, hj, doWhen_true]

/-- The meaning of an edge that is due, in UNJOINED. -/
theorem exec_lineEdge_unjoined {l : LineNo} {s : State} (ha : awake s = true) (hj : joined s = false)
    (hd : s.lines[l].debounce = some 0) (hp : s.lines[l].pin ≠ s.lines[l].taken) :
    exec (.lineEdge l) s = .next (edgeTaken l s) := by
  refine (expiry_of_due ha (edgeDue_of hd hp) _).trans ?_
  rw [lineEdge_eq, hj, doWhen_false]

/-- A pin change out of reset. -/
theorem exec_linePinChange {s : State} (ha : awake s = true) (l : LineNo) (high : Bool) :
    exec (.linePinChange l high) s = .next (updateLine l (linePin high) s) := by
  simp [exec, execLinePinChange, updateLine, ha]

/-- Every edge that is due takes the level of its pin, whatever its recipient does. -/
theorem exec_lineEdge_takes {l : LineNo} {s : State} (ha : awake s = true) (hd : s.lines[l].debounce = some 0)
    (hp : s.lines[l].pin ≠ s.lines[l].taken) : ∃ t, exec (.lineEdge l) s = .next t ∧
      t.lines = (edgeTaken l s).lines ∧ SameExcept [.lines, .heat, .bus, .dish, .stock, .paging, .port] s t ∧
      (joined s = false ∨ resolvedUse s.profile l = .unused → SameExcept [.lines] s t) := by
  cases hj : joined s with
  | false =>
    exact ⟨_, exec_lineEdge_unjoined ha hj hd hp, rfl, (edgeTaken_frame l s).mono (by decide), fun _ => edgeTaken_frame l s⟩
  | true =>
    refine ⟨_, exec_lineEdge ha hj hd hp, (deliverLine_frame _ _ _).lines,
      SameExcept.comp (edgeTaken_frame l s) (deliverLine_frame _ _ _) (by decide) (by decide), fun hu => ?_⟩
    rw [hu.resolve_left (by decide)]
    exact edgeTaken_frame l s

/-! ## Oven and warmer doors (R35, R36, R127) -/

/-- A door's edge changes its own channel alone. -/
theorem ovenDoor_channels (k : Chan) (opened : Bool) (s : State) :
    (∀ j : Chan, j ≠ k → (ovenDoor k opened s).heat.channels[j] = s.heat.channels[j]) ∧
      (ovenDoor k opened s).heat.channels[k] =
        (if opened then doorOpens true else ovenDoorCloses s.heat.overdrawn) s.heat.channels[k] :=
  ⟨fun _ hj => channel_updateChannel_other hj _ s, channel_updateChannel_same k _ s⟩

theorem warmerDoor_channels (k : Chan) (opened : Bool) (s : State) :
    (∀ j : Chan, j ≠ k →
      (warmerDoorState k opened (warmerDoorFlag k opened s)).heat.channels[j] = s.heat.channels[j]) ∧
      (warmerDoorState k opened (warmerDoorFlag k opened s)).heat.channels[k] =
        (if opened then doorOpens false else fun c => { c with doorFlag := false }) s.heat.channels[k] :=
  ⟨fun _ hj => channel_updateChannel_other hj _ s, channel_updateChannel_same k _ s⟩

theorem warmerDoorState_doorOpen (k : Chan) (opened : Bool) (s : State) :
    (warmerDoorState k opened s).stock.warmers[k].doorOpen = opened := by
  rw [warmerDoorState, State.setStock_stock, warmer_setWarmer_same]

/-! ## Dish events (R101, R116, R122) -/

/-- The event that makes `d` into `e` starts the conveyor (R101). -/
def conveyorStarts (d e : Dish) : Bool := conveyorRuns e && !conveyorRuns d

theorem conveyorStarts_of_hold {d e : Dish} (h : anyHold e.holds = true) : conveyorStarts d e = false := by
  simp [conveyorStarts, conveyorRuns, h]

theorem conveyorStarts_of_same {d e : Dish} (hm : e.mode = d.mode) (hh : e.holds = d.holds) :
    conveyorStarts d e = false := by
  simp [conveyorStarts, conveyorRuns, hm, hh]

theorem dishEvent_of_start {f : State → State} {s : State} (h : conveyorStarts s.dish (f s).dish = true) :
    dishEvent f s = publishClean (updateDish (fun d => { d with jamTimer := 0 }) (f s)) := by
  have h' : (conveyorRuns (f s).dish && !conveyorRuns s.dish) = true := h
  simp [dishEvent, h']

theorem dishEvent_of_no_start {f : State → State} {s : State} (h : conveyorStarts s.dish (f s).dish = false) :
    dishEvent f s = publishClean (f s) := by
  have h' : (conveyorRuns (f s).dish && !conveyorRuns s.dish) = false := h
  simp [dishEvent, h']

/-- The publication at the end of a dish event. -/
theorem dishEvent_published {f : State → State} {s : State} (h : (f s).stock = s.stock) :
    CleanPublished s (dishEvent f s) := by
  cases hs : conveyorStarts s.dish (f s).dish
  · rw [dishEvent_of_no_start hs]
    simp [CleanPublished, publishClean, h]
  · rw [dishEvent_of_start hs]
    simp [CleanPublished, publishClean, updateDish, h]

/-- Beside the dish line and the plate stock unit a dish event leaves what its effect leaves. -/
theorem dishEvent_after {f : State → State} (s : State) : SameExcept [.dish, .stock] (f s) (dishEvent f s) := by
  unfold dishEvent
  exact SameExcept.step (publishClean_frame _) (doWhen_frame _ _ ((updateDish_frame _ _).mono (by decide))) (by decide)

/-- A dish event whose effect keeps the mode and the jam timer. -/
theorem dishEvent_dish {f : State → State} {s : State} (hm : (f s).dish.mode = s.dish.mode)
    (hj : (f s).dish.jamTimer = s.dish.jamTimer) :
    (dishEvent f s).dish = { (f s).dish with jamTimer := jamTimerAfter s.dish (f s).dish.holds } := by
  have hiff : conveyorStarts s.dish (f s).dish = true ↔
      s.dish.mode = .on ∧ anyHold s.dish.holds = true ∧ anyHold (f s).dish.holds = false := by
    simp only [conveyorStarts, conveyorRuns, hm, Bool.and_eq_true, decide_eq_true_eq, Bool.not_eq_true',
      Bool.and_eq_false_iff, decide_eq_false_iff_not, Bool.not_eq_false']
    tauto
  cases hs : conveyorStarts s.dish (f s).dish with
  | false =>
    rw [dishEvent_of_no_start hs, jamTimerAfter, if_neg (fun h => by simp [hiff.2 h] at hs), ← hj]
    rfl
  | true =>
    rw [dishEvent_of_start hs, jamTimerAfter, if_pos (hiff.1 hs)]
    rfl

/-! ## Entry (R100, R107) -/

theorem tooClose_iff (d : Dish) : tooClose d = true ↔ ∃ r, d.racks.getLast? = some r ∧ r.position < 5500 := by
  unfold tooClose newestPosition
  cases d.racks.getLast? <;> simp

theorem tooClose_eq_false_iff (d : Dish) :
    tooClose d = false ↔ ∀ r, d.racks.getLast? = some r → 5500 ≤ r.position := by
  rw [← Bool.not_eq_true, tooClose_iff]
  simp

/-- The dish line after the registration of a rack (R100). -/
def registeredDish (s : State) : Dish :=
  { s.dish with
    racks := s.dish.racks ++ [rackAtEntry s]
    tag := none
    nextNumber := s.dish.nextNumber % 65535 + 1
    holds := { s.dish.holds with idle := false }
    idleTime := 0 }

theorem register_of_room {s : State} (hc : tooClose s.dish = false) (hl : s.dish.racks.length < 12) :
    register s = s.setDish (registeredDish s) := by
  simp [register, mayRegister, hc, hl]
  rfl

theorem entryActive_of_off {s : State} (h : s.dish.mode = .off ∨ tooClose s.dish = true) : entryActive s = s := by
  simp [entryActive, h]

theorem entryActive_of_room {s : State} (hm : s.dish.mode ≠ .off) (hc : tooClose s.dish = false)
    (hl : s.dish.racks.length < 12) : entryActive s = s.setDish (registeredDish s) := by
  simp [entryActive, hm, hc, hl, register_of_room]

theorem entryActive_of_full {s : State} (hm : s.dish.mode ≠ .off) (hc : tooClose s.dish = false)
    (hl : 12 ≤ s.dish.racks.length) : entryActive s =
      raiseCall .entryFull 0 (s.setDish { s.dish with holds := { s.dish.holds with entry := true } }) := by
  simp [entryActive, hm, hc, hl]
  rfl

/-- A new rack found with room: the edge of the entry line registers it. -/
theorem entryEdge_of_room {l : LineNo} {s : State} (hm : s.dish.mode ≠ .off) (hc : tooClose s.dish = false)
    (hl : s.dish.racks.length < 12) :
    SameExcept [.lines, .dish, .stock] s (dishEvent entryActive (edgeTaken l s)) ∧
      CleanPublished s (dishEvent entryActive (edgeTaken l s)) ∧
      (dishEvent entryActive (edgeTaken l s)).dish =
        { registeredDish s with jamTimer := jamTimerAfter s.dish { s.dish.holds with idle := false } } := by
  have he : entryActive (edgeTaken l s) = (edgeTaken l s).setDish (registeredDish s) := entryActive_of_room hm hc hl
  refine ⟨?_, dishEvent_published (by rw [he]; rfl), ?_⟩
  · refine SameExcept.step (dishEvent_after _) ?_ (by decide)
    rw [he]
    exact SameExcept.comp (edgeTaken_frame l s) (State.setDish_frame _ _) (by decide) (by decide)
  · rw [dishEvent_dish (by rw [he]; rfl) (by rw [he]; rfl), he]
    rfl

/-- A new rack found with a full queue: the edge of the entry line sets the ENTRY hold and raises its call. -/
theorem entryEdge_of_full {l : LineNo} {s u : State} (hm : s.dish.mode ≠ .off) (hc : tooClose s.dish = false)
    (hl : 12 ≤ s.dish.racks.length)
    (hu : u = (edgeTaken l s).setDish { s.dish with holds := { s.dish.holds with entry := true } }) :
    SameExcept [.lines, .bus, .dish, .stock, .paging, .port] s (dishEvent entryActive (edgeTaken l s)) ∧
      (dishEvent entryActive (edgeTaken l s)).dish = u.dish ∧
      CleanPublished s (dishEvent entryActive (edgeTaken l s)) ∧
      CallRaised .entryFull 0 u (dishEvent entryActive (edgeTaken l s)) := by
  have he : entryActive (edgeTaken l s) = raiseCall .entryFull 0 u :=
    (entryActive_of_full (s := edgeTaken l s) hm hc hl).trans (by rw [hu]; rfl)
  have hcall := raiseCall_frame .entryFull 0 u
  have hdish : (entryActive (edgeTaken l s)).dish = u.dish := by rw [he, hcall.dish]
  have hstay : conveyorStarts (edgeTaken l s).dish (entryActive (edgeTaken l s)).dish = false := by
    rw [hdish, hu]
    exact conveyorStarts_of_hold (by simp [anyHold])
  have hev := dishEvent_of_no_start hstay
  refine ⟨?_, ?_, dishEvent_published ?_, ?_⟩
  · exact SameExcept.comp (edgeTaken_frame l s)
      (dishEvent_frame (bs := [.bus, .dish, .stock, .paging, .port]) (fun t => (entryActive_frame t).mono (by decide))
        (by decide) _) (by decide) (by decide)
  · rw [hev, ← hdish]
    rfl
  · rw [he, hcall.stock, hu]
    rfl
  · rw [hev, he]
    exact ⟨rfl, rfl, rfl⟩

/-! ## The dish door (R114) -/

theorem dishDoor_opened_dish (s : State) : (dishEvent (dishDoor true) s).dish = { s.dish with
    holds := { s.dish.holds with door := true }
    racks := s.dish.racks.map (interruptInRinse s.profile.dish) } := by
  rw [dishEvent_of_no_start (conveyorStarts_of_hold (by simp [dishDoor, updateDish, anyHold]))]
  rfl

theorem dishDoor_closed_dish (s : State) : (dishEvent (dishDoor false) s).dish = { s.dish with
    holds := { s.dish.holds with door := false }
    jamTimer := jamTimerAfter s.dish { s.dish.holds with door := false } } := by
  rw [dishEvent_dish rfl rfl]
  rfl

/-- The frame of the dish door's edge. -/
theorem dishDoorEdge_frame (l : LineNo) (opened : Bool) (s : State) :
    SameExcept [.lines, .dish, .stock] s (dishEvent (dishDoor opened) (edgeTaken l s)) :=
  SameExcept.comp (edgeTaken_frame l s)
    (dishEvent_frame (bs := [.dish, .stock]) (fun t => (dishDoor_frame opened t).mono (by decide)) (by decide) _)
    (by decide) (by decide)

/-- Settles O47: the debounce, and then each recipient of R8 but DISH-EXIT by its own rule. -/
theorem lineEdgesDebounceAndReachTheDoors : Obligations.LineEdgesDebounceAndReachTheDoors := by
  refine ⟨⟨fun l high s ha => ?_, fun l s ha hd hp => ?_⟩, fun l k s ha hj hd hp => ⟨fun hu => ?_, fun hu => ?_⟩,
    fun l s ha hj hd hp => ⟨fun hu => ⟨fun hoff => ?_, fun hon => ⟨fun hc => ?_, fun hm hfar => ⟨fun hl => ?_, fun hl => ?_⟩⟩⟩,
      fun hu => ⟨fun hon => ?_, fun hoff => ?_⟩⟩⟩
  · exact ⟨_, exec_linePinChange ha l high, updateLine_frame _ _ _, line_updateLine_same l _ s,
      fun j hj => line_updateLine_other hj _ s⟩
  · obtain ⟨t, ht, hlines, hframe, hnone⟩ := exec_lineEdge_takes ha hd hp
    refine ⟨t, ht, ?_, fun j hj => ?_, hframe, hnone⟩
    · rw [hlines, line_edgeTaken_same]
    · rw [hlines, line_edgeTaken_other hj]
  · rw [exec_lineEdge ha hj hd hp, hu]
    obtain ⟨hother, hsame⟩ := ovenDoor_channels k (edgeActive l s) (edgeTaken l s)
    refine ⟨_, rfl, SameExcept.comp (edgeTaken_frame l s) (ovenDoor_frame _ _ _) (by decide) (by decide), hother,
      fun hon => hsame.trans ?_, fun hoff => hsame.trans ?_⟩
    · rw [edgeActive_of_eq hon]
      simp [doorOpens, edgeTaken]
    · rw [edgeActive_of_ne hoff]
      rfl
  · rw [exec_lineEdge ha hj hd hp, hu]
    obtain ⟨hother, hsame⟩ := warmerDoor_channels k (edgeActive l s) (edgeTaken l s)
    have hopen := warmerDoorState_doorOpen k (edgeActive l s) (warmerDoorFlag k (edgeActive l s) (edgeTaken l s))
    refine ⟨_, rfl, ?_, hother, fun hon => ⟨hopen.trans (edgeActive_of_eq hon), hsame.trans ?_⟩,
      fun hoff => ⟨hopen.trans (edgeActive_of_ne hoff), hsame.trans ?_⟩⟩
    · exact SameExcept.step (warmerDoorState_frame _ _ _) (SameExcept.comp (edgeTaken_frame l s)
        (warmerDoorFlag_frame _ _ _) (by decide) (by decide)) (by decide)
    · rw [edgeActive_of_eq hon]
      simp [doorOpens, edgeTaken]
    · rw [edgeActive_of_ne hoff]
      rfl
  · rw [exec_lineEdge ha hj hd hp, hu, edgeActive_of_ne hoff]
    exact ⟨_, rfl, edgeTaken_frame l s⟩
  · rw [exec_lineEdge ha hj hd hp, hu, edgeActive_of_eq hon]
    have he : entryActive (edgeTaken l s) = edgeTaken l s := entryActive_of_off (hc.imp_right (tooClose_iff _).2)
    have hev : dishEvent entryActive (edgeTaken l s) = publishClean (edgeTaken l s) := by
      rw [dishEvent_of_no_start (by rw [he]; exact conveyorStarts_of_same rfl rfl), he]
    refine ⟨_, rfl, ?_, dishEvent_published (s := edgeTaken l s) (by rw [he])⟩
    show SameExcept _ s (dishEvent entryActive (edgeTaken l s))
    rw [hev]
    exact SameExcept.comp (edgeTaken_frame l s) (publishClean_frame _) (by decide) (by decide)
  · rw [exec_lineEdge ha hj hd hp, hu, edgeActive_of_eq hon]
    exact ⟨_, rfl, entryEdge_of_room hm ((tooClose_eq_false_iff _).2 hfar) hl⟩
  · rw [exec_lineEdge ha hj hd hp, hu, edgeActive_of_eq hon]
    exact ⟨_, _, rfl, rfl, entryEdge_of_full hm ((tooClose_eq_false_iff _).2 hfar) hl rfl⟩
  · rw [exec_lineEdge ha hj hd hp, hu, edgeActive_of_eq hon]
    exact ⟨_, rfl, dishDoorEdge_frame l true s, dishEvent_published rfl, dishDoor_opened_dish _⟩
  · rw [exec_lineEdge ha hj hd hp, hu, edgeActive_of_ne hoff]
    exact ⟨_, rfl, dishDoorEdge_frame l false s, dishEvent_published rfl, dishDoor_closed_dish _⟩

end Sys2Proof.Machine
end

section
/-! The exit of the dish line: arrivals, departures, missed exits and pulses (R10, R100, R103, R108 to R113); with the rules
of the operations that they share with every block: a report, an offer and the cancelling of a call. -/

namespace Sys2Proof.Machine

/-! ## Reports, offers and cancelled calls -/

/-- The report that a step has queued last is the newest of the queue (R190). -/
theorem pushReport_getLast (b : ReportBody) (s : State) :
    (pushReport b s).port.reports.getLast? = some ⟨s.life.clock, b⟩ := by
  unfold pushReport
  simp only
  split <;> simp

theorem mem_insertEntry (x e : TxEntry) (es : List TxEntry) : x ∈ insertEntry e es ↔ x = e ∨ x ∈ es := by
  induction es with
  | nil => simp [insertEntry]
  | cons y ys ih =>
    unfold insertEntry
    split
    · simp
    · simp only [List.mem_cons, ih]
      tauto

/-- A frame that the queue accepts waits there (R48, R49). -/
theorem accept_waits {id : Nat} {f : Frame} {b : Bus} (h : occupied b < 8) :
    ∃ b', accept id f b = some b' ∧ ∃ e ∈ b'.waiting, e.frame = f := by
  unfold accept
  by_cases hany : b.waiting.any (sameWaiting f) = true
  · rw [if_pos hany]
    obtain ⟨e, he, hs⟩ := List.any_eq_true.1 hany
    exact ⟨_, rfl, { e with frame := f, sender := id }, List.mem_map.2 ⟨e, he, by rw [if_pos hs]⟩, rfl⟩
  · rw [if_neg hany, if_pos h]
    exact ⟨_, rfl, _, (mem_insertEntry _ _ _).2 (.inl rfl), rfl⟩

/-- An offered frame waits, if the station may send and has a free entry (R49). -/
theorem offer_waits (f : Frame) (s : State) : FrameWaits f s (offer f s) := by
  intro hsend hroom
  obtain ⟨b, hb, hwaits⟩ := accept_waits (id := ownId s) (f := f) hroom
  rw [offer, if_pos hsend, hb]
  exact hwaits

theorem sendCancel_calls (n : Nat) (s : State) : (sendCancel n s).paging.calls = s.paging.calls := by
  have ho : (offer (.pageCancel n) s).paging = s.paging := (offer_frame _ s).paging
  unfold sendCancel serveCancel doWhen
  split <;> simp [ho]

theorem sendCancel_bus (n : Nat) (s : State) : (sendCancel n s).bus = (offer (.pageCancel n) s).bus :=
  (serveCancel_frame _ _ _).bus

/-- A cancelled call is gone from the list, and its PAGE-CANCEL waits unless it was LOCAL (R166). -/
theorem withdrawCall_spec (c : Call) (s : State) :
    (withdrawCall c s).paging.calls = s.paging.calls.filter (fun x => decide (x.number ≠ c.number)) ∧
      (c.state ≠ .local → FrameWaits (.pageCancel c.number) s (withdrawCall c s)) := by
  unfold withdrawCall doWhen
  split
  · refine ⟨sendCancel_calls _ _, fun _ hsend hroom => ?_⟩
    rw [sendCancel_bus]
    exact offer_waits _ (dropCall c.number s) hsend hroom
  · next h => exact ⟨rfl, fun hc => absurd (decide_eq_true hc) h⟩

/-- Cancelling a call does what R166 says. -/
theorem cancelCall_cancelled (r : CallReason) (subject : Nat) (s : State) :
    CallCancelled r subject s (cancelCall r subject s) := by
  unfold cancelCall
  refine ⟨fun h => by simp [h], fun c h => ?_⟩
  rw [h]
  exact withdrawCall_spec c s

/-- The cancelling of a call speaks of the paging unit, the controller and the life cycle alone. -/
theorem CallCancelled.congr {r : CallReason} {subject : Nat} {s s' t t' : State} (h : CallCancelled r subject s t)
    (hp : s'.paging = s.paging) (hb : s'.bus = s.bus) (hl : s'.life = s.life) (hp' : t'.paging = t.paging)
    (hb' : t'.bus = t.bus) : CallCancelled r subject s' t' := by
  have ho : openCall r subject s' = openCall r subject s := by simp only [openCall, hp]
  have hm : maySend s' = maySend s := by simp only [maySend, hl]
  simp only [CallCancelled, FrameWaits, ho, hm, hp, hb, hp', hb']
  exact h

/-! ## The ENTRY hold ends (R108) -/

/-- A rack that waits at the entry is registered behind the racks of `s` (R100, R108). -/
def entryTakes (s : State) : Prop :=
  useActive s .dishEntry = true ∧ s.dish.mode ≠ .off ∧ s.dish.racks.length < 12 ∧
    s.dish.racks.getLast?.all (fun r => decide (5500 ≤ r.position)) = true

theorem entersBehind_of_takes {s : State} (h : entryTakes s) :
    entersBehind s s.dish.racks = s.dish.racks ++ [rackAtEntry s] := if_pos h

theorem entersBehind_of_not_takes {s : State} (h : ¬ entryTakes s) : entersBehind s s.dish.racks = s.dish.racks :=
  if_neg h

/-- Who enters behind the racks depends on the profile, the clock, the lines and the dish line's mode, tag and next
number. -/
theorem entersBehind_congr {s s' : State} (rest : List Rack) (hp : s'.profile = s.profile) (hl : s'.life = s.life)
    (hu : useActive s' .dishEntry = useActive s .dishEntry) (hm : s'.dish.mode = s.dish.mode)
    (ht : s'.dish.tag = s.dish.tag) (hn : s'.dish.nextNumber = s.dish.nextNumber) :
    entersBehind s' rest = entersBehind s rest := by
  simp only [entersBehind, rackAtEntry, hp, hl, hu, hm, ht, hn]

theorem tooClose_eq_false_iff_all (d : Dish) :
    tooClose d = false ↔ d.racks.getLast?.all (fun r => decide (5500 ≤ r.position)) = true := by
  rw [tooClose_eq_false_iff]
  cases d.racks.getLast? <;> simp

theorem useActive_congr {s t : State} (hp : t.profile = s.profile) (hl : t.lines = s.lines) (u : LineUse) :
    useActive t u = useActive s u := by
  simp only [useActive, lineActive, hp, hl]

theorem register_of_no_room {s : State} (h : tooClose s.dish = true ∨ 12 ≤ s.dish.racks.length) : register s = s := by
  have hm : mayRegister s.dish = false := by
    simp only [mayRegister, Bool.and_eq_false_iff, decide_eq_false_iff_not, Bool.not_eq_false', not_lt]
    exact h.symm
  simp [register, hm]

/-- Without an ENTRY hold there is none to end. -/
theorem releaseEntry_of_none {s : State} (h : s.dish.holds.entry = false) : releaseEntry s = s := by
  simp [releaseEntry, h]

/-- The dish line with the ENTRY hold clear. -/
def entryCleared (s : State) : State := s.setDish { s.dish with holds := { s.dish.holds with entry := false } }

/-- At the end of an ENTRY hold its call is cancelled, and the waiting rack is registered if it may. -/
theorem releaseEntry_of_hold {s : State} (h : s.dish.holds.entry = true) :
    CallCancelled .entryFull 0 s (releaseEntry s) ∧
      (entryTakes s → (releaseEntry s).dish = registeredDish (entryCleared s)) ∧
      (¬ entryTakes s → (releaseEntry s).dish = (entryCleared s).dish) := by
  obtain ⟨t, rfl⟩ : ∃ t, t = cancelCall .entryFull 0 (entryCleared s) := ⟨_, rfl⟩
  have hcall := cancelCall_frame .entryFull 0 (entryCleared s)
  have hrel : releaseEntry s = doWhen (useActive (cancelCall .entryFull 0 (entryCleared s)) .dishEntry &&
      decide ((cancelCall .entryFull 0 (entryCleared s)).dish.mode ≠ .off)) register
        (cancelCall .entryFull 0 (entryCleared s)) := by
    simp only [releaseEntry, h, doWhen_true]
    rfl
  have hkeeps : SameExcept [.dish] (cancelCall .entryFull 0 (entryCleared s)) (releaseEntry s) := by
    rw [hrel]
    exact doWhen_frame _ _ (register_frame _)
  have hu : useActive (cancelCall .entryFull 0 (entryCleared s)) .dishEntry = useActive s .dishEntry :=
    useActive_congr hcall.profile hcall.lines _
  refine ⟨(cancelCall_cancelled .entryFull 0 (entryCleared s)).congr rfl rfl rfl hkeeps.paging hkeeps.bus, fun ht => ?_,
    fun ht => ?_⟩
  · obtain ⟨ha, hm, hl, hc⟩ := ht
    rw [hrel, hu, ha, hcall.dish, decide_eq_true (show (entryCleared s).dish.mode ≠ .off from hm), Bool.and_self,
      doWhen_true, register_of_room]
    · simp only [State.setDish_dish, registeredDish, rackAtEntry, hcall.dish, hcall.life, hcall.profile]
    · rw [hcall.dish]
      exact (tooClose_eq_false_iff_all _).2 hc
    · rw [hcall.dish]
      exact hl
  · have hstay : releaseEntry s = cancelCall .entryFull 0 (entryCleared s) := by
      rw [hrel, hu, hcall.dish]
      cases ha : useActive s .dishEntry
      · rfl
      · by_cases hm : s.dish.mode = .off
        · rw [decide_eq_false (not_not.2 (show (entryCleared s).dish.mode = .off from hm))]
          rfl
        · rw [decide_eq_true (show (entryCleared s).dish.mode ≠ .off from hm)]
          refine register_of_no_room ?_
          rw [hcall.dish]
          by_contra hroom
          rw [not_or, Bool.not_eq_true, not_le] at hroom
          exact ht ⟨ha, hm, hroom.2, (tooClose_eq_false_iff_all _).1 hroom.1⟩
    rw [hstay, hcall.dish]

/-! ## The front rack leaves (R111, R113) -/

/-- The dish line without its front rack, which is the last-rack record. -/
def withoutFront (r : Rack) (s : State) : State :=
  s.setDish { s.dish with racks := s.dish.racks.tail, atExit := false, lastRack := some r }

theorem removeFront_eq (r : Rack) (s : State) : removeFront r s = releaseEntry (withoutFront r s) := rfl

/-- What a departure does to the dish line, with the ENTRY hold set or not. -/
theorem releaseEntry_dish (s : State) :
    (releaseEntry s).dish.atExit = s.dish.atExit ∧ (releaseEntry s).dish.lastRack = s.dish.lastRack ∧
      (releaseEntry s).dish.mode = s.dish.mode ∧ (releaseEntry s).dish.clean = s.dish.clean ∧
      (releaseEntry s).dish.jamTimer = s.dish.jamTimer := by
  cases h : s.dish.holds.entry
  · rw [releaseEntry_of_none h]
    exact ⟨rfl, rfl, rfl, rfl, rfl⟩
  · obtain ⟨-, htakes, hnot⟩ := releaseEntry_of_hold h
    by_cases ht : entryTakes s
    · rw [htakes ht]
      exact ⟨rfl, rfl, rfl, rfl, rfl⟩
    · rw [hnot ht]
      exact ⟨rfl, rfl, rfl, rfl, rfl⟩

/-- What the end of an ENTRY hold does to the racks, the tag, the next number and the holds. -/
theorem releaseEntry_racks {s : State} (h : s.dish.holds.entry = true) :
    (releaseEntry s).dish.racks = entersBehind s s.dish.racks ∧
      (releaseEntry s).dish.holds =
        { s.dish.holds with entry := false, idle := (releaseEntry s).dish.holds.idle } ∧
      ((releaseEntry s).dish.racks = s.dish.racks → (releaseEntry s).dish.tag = s.dish.tag ∧
        (releaseEntry s).dish.nextNumber = s.dish.nextNumber ∧
        (releaseEntry s).dish.holds.idle = s.dish.holds.idle) ∧
      ((releaseEntry s).dish.racks ≠ s.dish.racks → (releaseEntry s).dish.tag = none ∧
        (releaseEntry s).dish.nextNumber = s.dish.nextNumber % 65535 + 1 ∧
        (releaseEntry s).dish.holds.idle = false) := by
  obtain ⟨-, htakes, hnot⟩ := releaseEntry_of_hold h
  by_cases ht : entryTakes s
  · rw [htakes ht, entersBehind_of_takes ht]
    refine ⟨rfl, rfl, fun he => ?_, fun _ => ⟨rfl, rfl, rfl⟩⟩
    have hlen := congrArg List.length he
    simp [registeredDish, entryCleared] at hlen
  · rw [hnot ht, entersBehind_of_not_takes ht]
    exact ⟨rfl, rfl, fun _ => ⟨rfl, rfl, rfl⟩, fun hne => absurd rfl hne⟩

/-! ## Arrival and departure at the exit sensor (R109 to R111) -/

/-- The verdict of R110. -/
theorem verdictOf_spec (p : DishProfile) (r : Rack) :
    (verdictOf p r = .clean ↔ p.dwellMin * 1000 ≤ r.dwell ∧ r.interrupted = false ∧
      ∃ w, r.washMin = some w ∧ (p.twash : Int) ≤ w) ∧ (verdictOf p r = .clean ∨ verdictOf p r = .rewash) := by
  unfold verdictOf
  cases r.washMin with
  | none => simp
  | some w =>
    by_cases h : p.dwellMin * 1000 ≤ r.dwell ∧ (p.twash : Int) ≤ w ∧ r.interrupted = false
    · simp [h]
    · simp only [if_neg h, reduceCtorEq, false_iff, or_true, and_true]
      rintro ⟨hd, hi, x, hx, hw⟩
      cases hx
      exact h ⟨hd, hw, hi⟩

/-- The dish line at the arrival of its front rack `r`. -/
theorem arriveAtExit_dish (r : Rack) (s : State) : (arriveAtExit r s).dish = { s.dish with
    racks := { r with verdict := verdictOf s.profile.dish r } :: s.dish.racks.tail
    atExit := true
    clean := if verdictOf s.profile.dish r = .clean then min 9999 (s.dish.clean + r.plates) else s.dish.clean } :=
  (pushReport_frame _ _).dish

theorem arriveAtExit_report (r : Rack) (s : State) : (arriveAtExit r s).port.reports.getLast? = some ⟨s.life.clock,
    .rack (rackReport { r with verdict := verdictOf s.profile.dish r } (arriveAtExit r s).dish.clean)⟩ := by
  rw [arriveAtExit_dish]
  exact pushReport_getLast _ _

theorem exitFront_of_near {s : State} {r : Rack} {rest : List Rack} (hr : s.dish.racks = r :: rest)
    (hx : s.dish.atExit = false) (hp : ((s.profile.dish.e : Int) - 200) * 10 ≤ r.position) :
    exitFront s = some r := by
  simp [exitFront, hr, hx, hp]

theorem exitFront_of_far {s : State} (h : s.dish.atExit = true ∨ s.dish.racks = [] ∨
    ∃ r rest, s.dish.racks = r :: rest ∧ (r.position : Int) < ((s.profile.dish.e : Int) - 200) * 10) :
    exitFront s = none := by
  unfold exitFront
  obtain hx | hn | ⟨r, rest, hr, hp⟩ := h
  · cases s.dish.racks <;> simp [hx]
  · simp [hn]
  · simp [hr, not_le.2 hp]

theorem exitInactive_of_none {s : State} (h : s.dish.atExit = false ∨ s.dish.racks = []) : exitInactive s = s := by
  unfold exitInactive
  obtain hx | hn := h
  · cases s.dish.racks <;> simp [hx]
  · simp [hn]

/-- The EXIT hold clear. -/
def exitCleared (s : State) : State := s.setDish { s.dish with holds := { s.dish.holds with exit := false } }

theorem exitInactive_of_front {s : State} {r : Rack} {rest : List Rack} (hr : s.dish.racks = r :: rest)
    (hx : s.dish.atExit = true) : exitInactive s = releaseEntry (withoutFront r (exitCleared s)) := by
  simp only [exitInactive, hr, hx, doWhen_true, removeFront_eq]
  rfl

/-- A dish event leaves the dish line as its effect did, but for the jam timer. -/
theorem dishEvent_dish_but_jam (f : State → State) (s : State) :
    ∃ n, (dishEvent f s).dish = { (f s).dish with jamTimer := n } := by
  cases hs : conveyorStarts s.dish (f s).dish
  · exact ⟨(f s).dish.jamTimer, by rw [dishEvent_of_no_start hs]; rfl⟩
  · exact ⟨0, by rw [dishEvent_of_start hs]; rfl⟩

/-- The edge at which the front rack `r` arrives at the exit. -/
theorem exitEdge_arrival {l : LineNo} {s : State} {r : Rack} {rest : List Rack} (hr : s.dish.racks = r :: rest)
    (hx : s.dish.atExit = false) (hpos : ((s.profile.dish.e : Int) - 200) * 10 ≤ r.position) :
    (dishEvent exitActive (edgeTaken l s)).dish = { s.dish with
      racks := { r with verdict := verdictOf s.profile.dish r } :: rest
      atExit := true
      clean := if verdictOf s.profile.dish r = .clean then min 9999 (s.dish.clean + r.plates) else s.dish.clean } ∧
    SameExcept [.lines, .dish, .stock, .port] s (dishEvent exitActive (edgeTaken l s)) ∧
    CleanPublished s (dishEvent exitActive (edgeTaken l s)) ∧
    (dishEvent exitActive (edgeTaken l s)).port.reports.getLast? = some ⟨s.life.clock,
      .rack (rackReport { r with verdict := verdictOf s.profile.dish r }
        (dishEvent exitActive (edgeTaken l s)).dish.clean)⟩ := by
  have he : exitActive (edgeTaken l s) = arriveAtExit r (edgeTaken l s) := by
    rw [exitActive, exitFront_of_near (s := edgeTaken l s) hr hx hpos]
  have hdish := arriveAtExit_dish r (edgeTaken l s)
  have htail : (edgeTaken l s).dish.racks.tail = rest := congrArg List.tail hr
  have hev : dishEvent exitActive (edgeTaken l s) = publishClean (arriveAtExit r (edgeTaken l s)) := by
    rw [dishEvent_of_no_start (by rw [he, hdish]; exact conveyorStarts_of_same rfl rfl), he]
  refine ⟨?_, ?_, dishEvent_published (s := edgeTaken l s) (by rw [he]; exact (arriveAtExit_frame _ _).stock), ?_⟩
  · rw [hev, show (publishClean (arriveAtExit r (edgeTaken l s))).dish = _ from hdish, htail]
    rfl
  · exact SameExcept.comp (edgeTaken_frame l s) (dishEvent_frame (bs := [.dish, .stock, .port])
      (fun t => (exitActive_frame t).mono (by decide)) (by decide) _) (by decide) (by decide)
  · rw [hev]
    exact arriveAtExit_report r (edgeTaken l s)

/-- The edge at which the exit sensor finds no rack that may arrive. -/
theorem exitEdge_stray {l : LineNo} {s : State} (hfar : s.dish.atExit = true ∨ s.dish.racks = [] ∨
    ∃ r rest, s.dish.racks = r :: rest ∧ (r.position : Int) < ((s.profile.dish.e : Int) - 200) * 10) :
    SameExcept [.lines, .stock, .port] s (dishEvent exitActive (edgeTaken l s)) ∧
      CleanPublished s (dishEvent exitActive (edgeTaken l s)) ∧
      (dishEvent exitActive (edgeTaken l s)).port.reports.getLast? =
        some ⟨s.life.clock, .stray (s.dish.racks.head?.map (fun r => r.position))⟩ := by
  have he : exitActive (edgeTaken l s) =
      pushReport (.stray (s.dish.racks.head?.map (fun r => r.position))) (edgeTaken l s) := by
    rw [exitActive, exitFront_of_far (s := edgeTaken l s) hfar]
    rfl
  have hpush := pushReport_frame (.stray (s.dish.racks.head?.map (fun r => r.position))) (edgeTaken l s)
  have hev : dishEvent exitActive (edgeTaken l s) =
      publishClean (pushReport (.stray (s.dish.racks.head?.map (fun r => r.position))) (edgeTaken l s)) := by
    rw [dishEvent_of_no_start (by rw [he, hpush.dish]; exact conveyorStarts_of_same rfl rfl), he]
  refine ⟨?_, dishEvent_published (s := edgeTaken l s) (by rw [he]; exact hpush.stock), ?_⟩
  · rw [hev]
    exact SameExcept.step (publishClean_frame _) (SameExcept.comp (edgeTaken_frame l s) hpush (by decide) (by decide))
      (by decide)
  · rw [hev]
    exact pushReport_getLast _ (edgeTaken l s)

/-- The state in which the front rack `r` has left at the edge of line `l`, with an ENTRY hold still to end. -/
def departed (l : LineNo) (r : Rack) (s : State) : State := withoutFront r (exitCleared (edgeTaken l s))

theorem departed_frame (l : LineNo) (r : Rack) (s : State) : SameExcept [.lines, .dish] s (departed l r s) :=
  SameExcept.step (State.setDish_frame _ _) (SameExcept.step (State.setDish_frame _ _)
    ((edgeTaken_frame l s).mono (by decide)) (by decide)) (by decide)

/-- The edge at which the front rack `r` leaves the exit. -/
theorem exitEdge_departure {l : LineNo} {s : State} {r : Rack} {rest : List Rack} (hr : s.dish.racks = r :: rest)
    (hx : s.dish.atExit = true) :
    (∃ n, (dishEvent exitInactive (edgeTaken l s)).dish = { (releaseEntry (departed l r s)).dish with jamTimer := n }) ∧
      SameExcept [.dish, .stock] (releaseEntry (departed l r s)) (dishEvent exitInactive (edgeTaken l s)) ∧
      CleanPublished s (dishEvent exitInactive (edgeTaken l s)) := by
  have he : exitInactive (edgeTaken l s) = releaseEntry (departed l r s) :=
    exitInactive_of_front (s := edgeTaken l s) hr hx
  refine ⟨?_, ?_, dishEvent_published (s := edgeTaken l s) ?_⟩
  · rw [← he]
    exact dishEvent_dish_but_jam _ _
  · rw [← he]
    exact dishEvent_after _
  · rw [he, (releaseEntry_frame _).stock]
    rfl

/-- The edge at which no rack leaves the exit. -/
theorem exitEdge_nothing {l : LineNo} {s : State} (h : s.dish.atExit = false ∨ s.dish.racks = []) :
    SameExcept [.lines, .stock] s (dishEvent exitInactive (edgeTaken l s)) ∧
      CleanPublished s (dishEvent exitInactive (edgeTaken l s)) := by
  have he : exitInactive (edgeTaken l s) = edgeTaken l s := exitInactive_of_none h
  have hev : dishEvent exitInactive (edgeTaken l s) = publishClean (edgeTaken l s) := by
    rw [dishEvent_of_no_start (by rw [he]; exact conveyorStarts_of_same rfl rfl), he]
  refine ⟨?_, dishEvent_published (s := edgeTaken l s) (by rw [he])⟩
  rw [hev]
  exact SameExcept.comp (edgeTaken_frame l s) (publishClean_frame _) (by decide) (by decide)

/-- Settles O21: an ACTIVE edge finds a front rack near enough or strays, and an INACTIVE edge finds one at exit or not. -/
theorem exitEdgeDecidesTheVerdict : Obligations.ExitEdgeDecidesTheVerdict := by
  intro l s ha hj hd hp hu
  rw [exec_lineEdge ha hj hd hp, hu]
  refine ⟨fun hon r rest hr hx hpos => ?_, fun hon hfar => ?_, fun hoff r rest hr hx => ?_, fun hoff hnone => ?_⟩
  · rw [edgeActive_of_eq hon]
    obtain ⟨hdish, hframe, hpub, hreport⟩ := exitEdge_arrival (l := l) hr hx hpos
    obtain ⟨hclean, hverdict⟩ := verdictOf_spec s.profile.dish r
    refine ⟨dishEvent exitActive (edgeTaken l s), _, rfl, hframe, hclean, hverdict, ?_, ?_, ?_, ?_, ?_, hpub, _, hreport,
      rfl, rfl, rfl, rfl⟩ <;> rw [hdish]
  · rw [edgeActive_of_eq hon]
    exact ⟨_, rfl, exitEdge_stray hfar⟩
  · rw [edgeActive_of_ne hoff]
    obtain ⟨⟨n, hn⟩, hafter, hpub⟩ := exitEdge_departure (l := l) hr hx
    obtain ⟨hatExit, hlast, hmode, hclean, -⟩ := releaseEntry_dish (departed l r s)
    have hframe := departed_frame l r s
    have hracks : (departed l r s).dish.racks = rest := congrArg List.tail hr
    refine ⟨dishEvent exitInactive (edgeTaken l s), rfl, ?_, ?_, ?_, ?_, ?_, hpub, fun hentry => ?_, fun hentry => ?_⟩
    · exact SameExcept.comp (edgeTaken_frame l s) (dishEvent_frame (bs := [.bus, .dish, .stock, .paging])
        (fun t => (exitInactive_frame t).mono (by decide)) (by decide) _) (by decide) (by decide)
    · rw [hn, hatExit]; rfl
    · rw [hn, hlast]; rfl
    · rw [hn, hmode]; rfl
    · rw [hn, hclean]; rfl
    · have hsame : releaseEntry (departed l r s) = departed l r s := releaseEntry_of_none hentry
      rw [hsame] at hn hafter
      exact ⟨SameExcept.comp hframe hafter (by decide) (by decide), by rw [hn, hracks], by rw [hn]; rfl⟩
    · have hentry' : (departed l r s).dish.holds.entry = true := hentry
      obtain ⟨hbehind, hholds, hstands, htaken⟩ := releaseEntry_racks hentry'
      have hentry_use : useActive (departed l r s) .dishEntry = useActive s .dishEntry :=
        useActive_edgeTaken (l := l) (s := s) (u := .dishEntry) (by rw [hu]; decide)
      rw [hracks] at hbehind hstands htaken
      rw [entersBehind_congr (s := s) rest hframe.profile hframe.life hentry_use rfl rfl rfl] at hbehind
      rw [hn]
      refine ⟨?_, hbehind, hholds, hstands, htaken⟩
      exact (releaseEntry_of_hold hentry').1.congr hframe.paging.symm hframe.bus.symm hframe.life.symm hafter.paging
        hafter.bus
  · rw [edgeActive_of_ne hoff]
    exact ⟨_, rfl, exitEdge_nothing hnone⟩

/-! ## Pulses (R103, R112, R113) -/

/-- A dish event whose effect has set the jam timer to 0. -/
theorem dishEvent_dish_of_jam_zero {f : State → State} {s : State} (h : (f s).dish.jamTimer = 0) :
    (dishEvent f s).dish = (f s).dish := by
  cases hs : conveyorStarts s.dish (f s).dish with
  | false => rw [dishEvent_of_no_start hs]; rfl
  | true =>
    rw [dishEvent_of_start hs]
    show ({ (f s).dish with jamTimer := 0 } : Dish) = _
    rw [← h]

theorem missedFront_of_passed {s : State} {r : Rack} {rest : List Rack} (hr : s.dish.racks = r :: rest)
    (hx : s.dish.atExit = false) (hp : (s.profile.dish.e + 200) * 10 ≤ r.position) : missedFront s = some r := by
  simp [missedFront, hr, hx, hp]

theorem missedFront_of_not_passed {s : State}
    (h : s.dish.atExit = true ∨ ∀ r ∈ s.dish.racks.head?, r.position < (s.profile.dish.e + 200) * 10) :
    missedFront s = none := by
  unfold missedFront
  cases hr : s.dish.racks with
  | nil => rfl
  | cons r rest =>
    refine if_neg fun hp => ?_
    obtain hx | hlt := h
    · simp [hx] at hp
    · exact absurd (hlt r (by simp [hr])) (not_lt.2 hp.2)

theorem exitOverrun_eq (s : State) : exitOverrun s = (s.dish.atExit && useActive s .dishExit &&
    s.dish.racks.head?.any (fun r => decide ((s.profile.dish.e + 300) * 10 ≤ r.position))) := by
  unfold exitOverrun
  cases s.dish.racks <;> rfl

/-- The dish line has counted the plates of the missed rack `v`, and the rack has left it. -/
def missDeparted (v : Rack) (s : State) : State :=
  withoutFront v (s.setDish { s.dish with clean := cleanAfter s.dish.clean v })

/-- The record of a rack that has passed the exit unseen. -/
def missedRack (p : DishProfile) (r : Rack) : Rack := { r with verdict := verdictOf p r, missed := true }

theorem missExit_eq (r : Rack) (s : State) : missExit r s =
    pushReport (.missed (rackReport (missedRack s.profile.dish r)
      (releaseEntry (missDeparted (missedRack s.profile.dish r) s)).dish.clean))
        (releaseEntry (missDeparted (missedRack s.profile.dish r) s)) := rfl

theorem missExit_dish (r : Rack) (s : State) :
    (missExit r s).dish = (releaseEntry (missDeparted (missedRack s.profile.dish r) s)).dish :=
  (pushReport_frame _ _).dish

/-- After a missed exit no rack stands at exit, so the EXIT hold stands. -/
theorem dishPulse_of_missed {s : State} {r : Rack} (h : missedFront (advanceRacks s) = some r) :
    dishPulse s = missExit r (advanceRacks s) := by
  have hx : (missExit r (advanceRacks s)).dish.atExit = false := by
    rw [missExit_dish, (releaseEntry_dish _).1]
    rfl
  simp [dishPulse, testMissed, h, exitOverrun, hx]

/-- Without a missed exit the racks have moved and the EXIT hold is judged (R112). -/
theorem dishPulse_of_seen {s : State} (h : missedFront (advanceRacks s) = none) :
    dishPulse s = (advanceRacks s).setDish { (advanceRacks s).dish with
      holds := { s.dish.holds with exit := s.dish.holds.exit || exitOverrun (advanceRacks s) } } := by
  have hpulse : dishPulse s =
      doWhen (exitOverrun (advanceRacks s)) (updateHolds (fun h => { h with exit := true })) (advanceRacks s) := by
    simp only [dishPulse, testMissed, h]
  rw [hpulse]
  cases exitOverrun (advanceRacks s)
  · rw [doWhen_false, Bool.or_false]
    rfl
  · rw [doWhen_true, Bool.or_true]
    rfl

/-- A pulse keeps the mode and sets the jam timer to 0 (R103). -/
theorem dishPulse_mode_jam (s : State) : (dishPulse s).dish.mode = s.dish.mode ∧ (dishPulse s).dish.jamTimer = 0 := by
  cases h : missedFront (advanceRacks s) with
  | none =>
    rw [dishPulse_of_seen h]
    exact ⟨rfl, rfl⟩
  | some r =>
    obtain ⟨-, -, hmode, -, hjam⟩ := releaseEntry_dish (missDeparted (missedRack s.profile.dish r) (advanceRacks s))
    rw [dishPulse_of_missed h, missExit_dish]
    exact ⟨hmode, hjam⟩

theorem exec_encoderPulse {s : State} (ha : awake s = true) : exec .encoderPulse s = .next (pulse s) :=
  event_of_awake ha _

theorem pulse_of_works {s : State} (h : dishWorks s = true) : pulse s = dishEvent dishPulse (s.setPulseAge 0) := by
  simp [pulse, h]

/-- The state in which the front rack `r` has passed the exit unseen at a pulse, with an ENTRY hold still to end. -/
def passed (r : Rack) (s : State) : State :=
  missDeparted (missedRack s.profile.dish r) (advanceRacks (s.setPulseAge 0))

theorem passed_frame (r : Rack) (s : State) : SameExcept [.pulseAge, .dish] s (passed r s) :=
  SameExcept.step (State.setDish_frame _ _) (SameExcept.step (State.setDish_frame _ _) (SameExcept.step
    (advanceRacks_frame _) ((State.setPulseAge_frame s 0).mono (by decide)) (by decide)) (by decide)) (by decide)

/-- The racks of `s`, moved by one pulse. -/
def movedRacks (s : State) : List Rack :=
  s.dish.racks.map (fun r => { r with position := min 70000 (r.position + s.profile.dish.perPulse) })

theorem advanceRacks_racks (s : State) : (advanceRacks (s.setPulseAge 0)).dish.racks = movedRacks s := rfl

/-- A pulse at which the front rack `r` is found past the exit (R113). -/
theorem pulse_missed {s : State} {r : Rack} {rest : List Rack} (hr : movedRacks s = r :: rest)
    (hx : s.dish.atExit = false) (hp : (s.profile.dish.e + 200) * 10 ≤ r.position) :
    (dishEvent dishPulse (s.setPulseAge 0)).dish = (releaseEntry (passed r s)).dish ∧
      SameExcept [.dish, .stock, .port] (releaseEntry (passed r s)) (dishEvent dishPulse (s.setPulseAge 0)) ∧
      (dishEvent dishPulse (s.setPulseAge 0)).port.reports.getLast? = some ⟨s.life.clock,
        .missed (rackReport (missedRack s.profile.dish r) (dishEvent dishPulse (s.setPulseAge 0)).dish.clean)⟩ := by
  have hpulse : dishPulse (s.setPulseAge 0) = missExit r (advanceRacks (s.setPulseAge 0)) :=
    dishPulse_of_missed (missedFront_of_passed (s := advanceRacks (s.setPulseAge 0)) hr hx hp)
  have hafter := dishEvent_after (f := dishPulse) (s.setPulseAge 0)
  have hdish : (dishEvent dishPulse (s.setPulseAge 0)).dish = (releaseEntry (passed r s)).dish := by
    rw [dishEvent_dish_of_jam_zero (dishPulse_mode_jam _).2, hpulse]
    exact missExit_dish r _
  have hlife : (releaseEntry (passed r s)).life = s.life :=
    (releaseEntry_frame _).life.trans (passed_frame r s).life
  rw [hpulse] at hafter
  refine ⟨hdish, SameExcept.comp (pushReport_frame _ _) hafter (by decide) (by decide), ?_⟩
  rw [hafter.port, hdish, missExit_eq, pushReport_getLast]
  show some (⟨(releaseEntry (passed r s)).life.clock, _⟩ : Report) = _
  rw [hlife]
  rfl

/-- A pulse at which no rack is found past the exit (R112). -/
theorem pulse_seen {s : State}
    (h : s.dish.atExit = true ∨ ∀ r ∈ (movedRacks s).head?, r.position < (s.profile.dish.e + 200) * 10) :
    (dishEvent dishPulse (s.setPulseAge 0)).dish = { s.dish with
      racks := movedRacks s
      jamTimer := 0
      holds := { s.dish.holds with exit := s.dish.holds.exit || (s.dish.atExit && useActive s .dishExit &&
        (movedRacks s).head?.any (fun r => decide ((s.profile.dish.e + 300) * 10 ≤ r.position))) } } ∧
      SameExcept [.pulseAge, .dish, .stock] s (dishEvent dishPulse (s.setPulseAge 0)) := by
  have hpulse := dishPulse_of_seen (missedFront_of_not_passed (s := advanceRacks (s.setPulseAge 0)) h)
  have hover : exitOverrun (advanceRacks (s.setPulseAge 0)) = (s.dish.atExit && useActive s .dishExit &&
      (movedRacks s).head?.any (fun r => decide ((s.profile.dish.e + 300) * 10 ≤ r.position))) := exitOverrun_eq _
  have hafter := dishEvent_after (f := dishPulse) (s.setPulseAge 0)
  refine ⟨?_, ?_⟩
  · rw [dishEvent_dish_of_jam_zero (dishPulse_mode_jam _).2, hpulse, hover]
    rfl
  · rw [hpulse] at hafter
    exact SameExcept.step hafter (SameExcept.step (State.setDish_frame _ _) (SameExcept.step (advanceRacks_frame _)
      ((State.setPulseAge_frame s 0).mono (by decide)) (by decide)) (by decide)) (by decide)

/-- Settles O22: the racks move, and the front rack is then found past the exit unseen or not. -/
theorem pulseMovesEveryRackAndFindsMissedExits : Obligations.PulseMovesEveryRackAndFindsMissedExits := by
  intro s ha
  rw [exec_encoderPulse ha]
  refine ⟨fun hw => by simp [pulse, hw], fun hw => ?_⟩
  have hframe := pulse_frame s
  rw [pulse_of_works hw] at hframe ⊢
  obtain ⟨hmode, hjam⟩ := dishPulse_mode_jam (s.setPulseAge 0)
  have hdish := dishEvent_dish_of_jam_zero hjam
  have hpub : CleanPublished s (dishEvent dishPulse (s.setPulseAge 0)) :=
    dishEvent_published (s := s.setPulseAge 0) (dishPulse_frame _).stock
  refine ⟨dishEvent dishPulse (s.setPulseAge 0), rfl, ?_, hframe, by rw [hdish, hmode]; rfl, hpub, by rw [hdish, hjam],
    fun moved hmoved => ⟨fun r rest hr hx hpos => ?_, fun hseen => ?_⟩⟩
  · rw [(dishEvent_after (f := dishPulse) (s.setPulseAge 0)).pulseAge, (dishPulse_frame _).pulseAge]
    rfl
  · obtain ⟨hend, hafter, hreport⟩ := pulse_missed (hmoved.symm.trans hr) hx hpos
    obtain ⟨-, hlast, -, hclean, -⟩ := releaseEntry_dish (passed r s)
    have hkept := passed_frame r s
    have hracks : (passed r s).dish.racks = rest := congrArg List.tail (hmoved.symm.trans hr)
    refine ⟨by rw [hend, hlast]; rfl, by rw [hend, hclean]; rfl, ⟨_, hreport, rfl, rfl, rfl⟩, fun hentry => ?_,
      fun hentry => ?_⟩
    · have hsame : releaseEntry (passed r s) = passed r s := releaseEntry_of_none hentry
      rw [hsame] at hend hafter
      exact ⟨by rw [hend, hracks], hafter.paging.trans hkept.paging, hafter.bus.trans hkept.bus, by rw [hend]; rfl⟩
    · have hentry' : (passed r s).dish.holds.entry = true := hentry
      obtain ⟨hbehind, hholds, -, -⟩ := releaseEntry_racks hentry'
      rw [hracks, entersBehind_congr (s := s) rest hkept.profile hkept.life
        (useActive_congr hkept.profile hkept.lines _) rfl rfl rfl] at hbehind
      rw [hend]
      exact ⟨hbehind, (releaseEntry_of_hold hentry').1.congr hkept.paging.symm hkept.bus.symm hkept.life.symm
        hafter.paging hafter.bus, hholds⟩
  · subst hmoved
    obtain ⟨hend, hkept⟩ := pulse_seen hseen
    exact ⟨by rw [hend]; rfl, hkept.port, hkept.paging, hkept.bus, by rw [hend]; rfl⟩

end Sys2Proof.Machine
end

section
/-! Heaters: the end of an on-time, HEAT-OFF, CHANNEL-CLEAR and the cut of a window to a smaller grant (R20, R22, R30, R32
to R34). -/

namespace Sys2Proof.Machine

/-! ## On-time end, HEAT-OFF and CHANNEL-CLEAR -/

theorem updateChannel_eq_setHeat (k : Chan) (f : Channel → Channel) (s : State) : updateChannel k f s =
    s.setHeat { s.heat with channels := s.heat.channels.set k (f s.heat.channels[k]) } := rfl

/-- The end of an on-time finds its heater on with its time served, or nothing to do. -/
theorem exec_onTimeEnd_of_over {k : Chan} {s : State} (ha : awake s = true) (h : onTimeOver k s = true) :
    exec (.onTimeEnd k) s = .next (updateChannel k (fun c => { c with heater := false }) s) :=
  expiry_of_due ha h _

theorem exec_onTimeEnd_of_not_over {k : Chan} {s : State} (h : onTimeOver k s = false) :
    exec (.onTimeEnd k) s = .next s := expiry_of_not_due h _

theorem onTimeOver_iff (k : Chan) (s : State) : onTimeOver k s = true ↔
    s.heat.channels[k].heater = true ∧ s.heat.channels[k].onTime ≤ s.heat.channels[k].served := by
  simp [onTimeOver]

/-- A word that spells a channel's number names that channel. -/
theorem narrow_of_chan {c : Word} {k : Chan} (h : c.toNat = k.val) : narrow c = .value k.val := by
  have hk := k.isLt
  have h1 : k.val ≠ 65533 := by omega
  have h2 : k.val ≠ 65534 := by omega
  have h3 : k.val ≠ 65535 := by omega
  simp [narrow, tokenOf, h, h1, h2, h3]

theorem chanOf_val (k : Chan) : chanOf k.val = k := Fin.ext (Nat.mod_eq_of_lt k.isLt)

/-- A command for one channel that names the channel `k` reaches its owner. -/
theorem oneId_of_chan {c : Word} {k : Chan} {s : State} (hj : joined s = true) (h : c.toNat = k.val)
    (owner : Nat → Except Reason Done) : oneId 0 7 [c] s owner = owner k.val := by
  have hk : k.val ≤ 7 := by have := k.isLt; omega
  simp [oneId, narrow_of_chan h, stageOk_joinedOnly hj, hasValue, idWithin, idValue, hk]

/-- HEAT-OFF of a channel that is neither UNUSED nor TRIPPED (R20). -/
theorem exec_heatOff {c : Word} {k : Chan} {s : State} (hd : portDeaf s = false) (hj : joined s = true)
    (h : c.toNat = k.val) (hk : s.profile.channels[k].kind ≠ .unused)
    (ht : isTripped s.heat.channels[k].state = false) :
    exec (.heatOff [c]) s =
      .next (setReply (.done 17 false .none) (updateChannel k heatOffChannel (endTransaction s))) := by
  refine panel_of_accepted hd ?_
  have hk' : (endTransaction s).profile.channels[k].kind ≠ .unused := hk
  have ht' : isTripped (endTransaction s).heat.channels[k].state = false := ht
  rw [heatOffCommand, oneId_of_chan (s := endTransaction s) hj h, chanOf_val, heatable, if_neg hk', ht', if_neg (by decide)]
  rfl

theorem heatOffChannel_of_heating {c : Channel} (h : heating c.state = true) : heatOffChannel c =
    { c with state := .idle, demand := 0, duty := 0, integral := 0, onTime := c.served, heater := false } := if_pos h

theorem not_tripped_of_heating {x : ChanState} (h : heating x = true) : isTripped x = false := by
  cases x with
  | tripped cause => cases h
  | _ => rfl

theorem heatOffChannel_of_not_heating {c : Channel} (h : heating c.state = false) : heatOffChannel c = c :=
  if_neg (by simp [h])

theorem heatOff_idle {k : Chan} {s : State} (h : s.heat.channels[k].state = .idle) :
    updateChannel k heatOffChannel s = s := by
  rw [updateChannel_eq_setHeat, heatOffChannel_of_not_heating (by rw [h]; rfl)]
  simp [State.setHeat]

/-- CHANNEL-CLEAR of a TRIPPED channel that may be cleared (R22). -/
theorem exec_channelClear {c : Word} {k : Chan} {s : State} {cause : TripCause} (hd : portDeaf s = false)
    (hj : joined s = true) (h : c.toNat = k.val) (hk : s.profile.channels[k].kind ≠ .unused)
    (ht : s.heat.channels[k].state = .tripped cause) (hf : flagged s k = false)
    (hr : reading s k < (topTarget s.profile k : Int)) :
    exec (.channelClear [c]) s =
      .next (setReply (.done 18 false .none) (clearTrip k cause (endTransaction s))) := by
  refine panel_of_accepted hd ?_
  have hk' : (endTransaction s).profile.channels[k].kind ≠ .unused := hk
  have ht' : (endTransaction s).heat.channels[k].state = .tripped cause := ht
  have hf' : flagged (endTransaction s) k = false := hf
  have hr' : reading (endTransaction s) k < (topTarget (endTransaction s).profile k : Int) := hr
  simp only [channelClearCommand, oneId_of_chan (s := endTransaction s) hj h, chanOf_val, if_neg hk', ht', hf',
    decide_eq_true hr']
  rfl

/-- The trip's call and the channel's state are all that a clearing changes. -/
theorem clearTrip_spec (k : Chan) (cause : TripCause) (s : State) :
    (clearTrip k cause s).heat = { s.heat with
      channels := s.heat.channels.set k { s.heat.channels[k] with state := .idle } } ∧
      (openCall (tripReason cause) k s = none → SameExcept [.heat] s (clearTrip k cause s)) ∧
      ∀ x, openCall (tripReason cause) k s = some x →
        (clearTrip k cause s).paging.calls = s.paging.calls.filter (fun y => decide (y.number ≠ x.number)) := by
  obtain ⟨hnone, hsome⟩ := cancelCall_cancelled (tripReason cause) k (updateChannel k (fun c => { c with state := .idle }) s)
  refine ⟨(cancelCall_frame _ _ _).heat, fun h => ?_, fun x h => (hsome x h).1⟩
  have hid : clearTrip k cause s = updateChannel k (fun c => { c with state := .idle }) s := by
    have h' : openCall (tripReason cause) k (updateChannel k (fun c => { c with state := .idle }) s) = none := h
    simp only [clearTrip, cancelCall, h']
  rw [hid]
  exact updateChannel_frame _ _ _

/-! ## The walk of a cut (R33) -/

/-- Cutting a channel twice is cutting it once by both parts. -/
theorem cutChannel_cutChannel (load x y : Nat) (c : Channel) :
    cutChannel load y (cutChannel load x c) = cutChannel load (x + y) c := by
  obtain ⟨on, hon⟩ : ∃ on, on = cutOnTime load (c.charge - x) c := ⟨_, rfl⟩
  obtain ⟨on', hon'⟩ : ∃ on', on' = cutOnTime load (c.charge - (x + y)) c := ⟨_, rfl⟩
  have hcharge : c.charge - x - y = c.charge - (x + y) := by omega
  have hle : (c.charge - (x + y)) * 10000 / load ≤ (c.charge - x) * 10000 / load :=
    Nat.div_le_div_right (Nat.mul_le_mul_right _ (by omega))
  have hmono : on' ≤ on := by
    rw [hon, hon', cutOnTime, cutOnTime]
    omega
  have hagain : min on (max c.served ((c.charge - (x + y)) * 10000 / load)) = on' := by
    rw [hon, hon', cutOnTime, cutOnTime]
    omega
  have hfirst : cutChannel load x c = { c with
      charge := c.charge - x
      onTime := on
      duty := if heating c.state then min c.duty (on / 10) else 0
      heater := c.heater && decide (c.served < on) } := by rw [hon]; rfl
  have hboth : cutChannel load (x + y) c = { c with
      charge := c.charge - (x + y)
      onTime := on'
      duty := if heating c.state then min c.duty (on' / 10) else 0
      heater := c.heater && decide (c.served < on') } := by rw [hon']; rfl
  rw [hfirst, hboth]
  simp only [cutChannel, cutOnTime, hcharge, hagain, Channel.mk.injEq, true_and]
  refine ⟨?_, ?_⟩
  · cases heating c.state
    · rfl
    · simp only [if_true]
      omega
  · cases c.heater
    · rfl
    · simp only [Bool.true_and, ← Bool.decide_and, decide_eq_decide]
      omega

theorem cutWalk_of_none (p : Profile) (ks : List Chan) (cs : Vector Channel 8) : cutWalk p ks 0 cs = (0, cs) := by
  cases ks <;> simp [cutWalk]

/-- The walk passes over a channel without a charge. -/
theorem cutWalk_of_uncharged {p : Profile} {k : Chan} {ks : List Chan} {e : Nat} {cs : Vector Channel 8} (he : e ≠ 0)
    (h : cs[k].charge = 0) : cutWalk p (k :: ks) e cs = cutWalk p ks e cs := by
  rw [cutWalk, if_neg he, if_pos h]

/-- The walk cuts a channel with a charge and goes on with the rest of the excess. -/
theorem cutWalk_of_charged {p : Profile} {k : Chan} {ks : List Chan} {e : Nat} {cs : Vector Channel 8} (he : e ≠ 0)
    (h : cs[k].charge ≠ 0) : cutWalk p (k :: ks) e cs =
      cutWalk p ks (e - cutOf p.channels[k].load e cs[k])
        (cs.set k (cutChannel p.channels[k].load (cutOf p.channels[k].load e cs[k]) cs[k])) := by
  rw [cutWalk, if_neg he, if_neg h]

theorem cutWalk_append (p : Profile) (ks js : List Chan) (e : Nat) (cs : Vector Channel 8) :
    cutWalk p (ks ++ js) e cs = cutWalk p js (cutWalk p ks e cs).1 (cutWalk p ks e cs).2 := by
  induction ks generalizing e cs with
  | nil => rfl
  | cons k ks ih =>
    rw [List.cons_append]
    by_cases he : e = 0
    · subst he
      simp only [cutWalk_of_none]
    · by_cases hc : cs[k].charge = 0
      · rw [cutWalk_of_uncharged he hc, cutWalk_of_uncharged he hc, ih]
      · rw [cutWalk_of_charged he hc, cutWalk_of_charged he hc, ih]

theorem channel_set_same (cs : Vector Channel 8) (k : Chan) (c : Channel) : (cs.set k c)[k] = c := by simp

theorem channel_set_other {k j : Chan} (h : j ≠ k) (cs : Vector Channel 8) (c : Channel) : (cs.set k c)[j] = cs[j] := by
  have hv : k.val ≠ j.val := fun e => h (Fin.ext e.symm)
  simp [hv]

/-- A walk changes no channel that it does not visit. -/
theorem cutWalk_other {p : Profile} {j : Chan} {ks : List Chan} (h : j ∉ ks) (e : Nat) (cs : Vector Channel 8) :
    (cutWalk p ks e cs).2[j] = cs[j] := by
  induction ks generalizing e cs with
  | nil => rfl
  | cons k ks ih =>
    obtain ⟨hjk, hks⟩ := not_or.1 (mt List.mem_cons.2 h)
    by_cases he : e = 0
    · rw [he, cutWalk_of_none]
    · by_cases hc : cs[k].charge = 0
      · rw [cutWalk_of_uncharged he hc, ih hks]
      · rw [cutWalk_of_charged he hc, ih hks, channel_set_other hjk]

/-- A walk leaves each channel as it was or cut. -/
theorem cutWalk_channel (p : Profile) (j : Chan) (ks : List Chan) (e : Nat) (cs : Vector Channel 8) :
    (cutWalk p ks e cs).2[j] = cs[j] ∨ ∃ x, (cutWalk p ks e cs).2[j] = cutChannel p.channels[j].load x cs[j] := by
  induction ks generalizing e cs with
  | nil => exact .inl rfl
  | cons k ks ih =>
    by_cases he : e = 0
    · rw [he, cutWalk_of_none]
      exact .inl rfl
    · by_cases hc : cs[k].charge = 0
      · rw [cutWalk_of_uncharged he hc]
        exact ih e cs
      · rw [cutWalk_of_charged he hc]
        by_cases hjk : j = k
        · subst hjk
          obtain h | ⟨x, h⟩ := ih (e - cutOf p.channels[j].load e cs[j])
            (cs.set j (cutChannel p.channels[j].load (cutOf p.channels[j].load e cs[j]) cs[j]))
          · exact .inr ⟨_, by rw [h, channel_set_same]⟩
          · exact .inr ⟨_, by rw [h, channel_set_same, cutChannel_cutChannel]⟩
        · have := ih (e - cutOf p.channels[k].load e cs[k])
            (cs.set k (cutChannel p.channels[k].load (cutOf p.channels[k].load e cs[k]) cs[k]))
          rwa [channel_set_other hjk] at this

theorem cutChannel_charge (load x : Nat) (c : Channel) : (cutChannel load x c).charge = c.charge - x := rfl

theorem servedCharge_cutChannel (load x : Nat) (c : Channel) :
    servedCharge load (cutChannel load x c) = servedCharge load c := rfl

/-- A channel that holds no more than its served charge gives up nothing. -/
theorem cutWalk_of_served {p : Profile} {j : Chan} {cs : Vector Channel 8}
    (h : cs[j].charge ≤ servedCharge p.channels[j].load cs[j]) (ks : List Chan) (e : Nat) :
    (cutWalk p ks e cs).2[j].charge = cs[j].charge := by
  induction ks generalizing e cs with
  | nil => rfl
  | cons k ks ih =>
    by_cases he : e = 0
    · rw [he, cutWalk_of_none]
    · by_cases hc : cs[k].charge = 0
      · rw [cutWalk_of_uncharged he hc, ih h]
      · rw [cutWalk_of_charged he hc]
        by_cases hjk : j = k
        · subst hjk
          have hzero : cutOf p.channels[j].load e cs[j] = 0 := by
            rw [cutOf]
            omega
          rw [ih, channel_set_same, cutChannel_charge, hzero, Nat.sub_zero]
          rw [channel_set_same, cutChannel_charge, servedCharge_cutChannel]
          omega
        · rw [ih, channel_set_other hjk]
          rwa [channel_set_other hjk]

/-- The channel `j` has kept its served charge alone, or what it had of it (R33). -/
def GaveAll (p : Profile) (j : Chan) (cs ds : Vector Channel 8) : Prop :=
  ds[j].charge = min cs[j].charge (servedCharge p.channels[j].load cs[j])

/-- A channel that has given all gives nothing more in the walk after it. -/
theorem GaveAll.walk {p : Profile} {j : Chan} {cs ds : Vector Channel 8} (h : GaveAll p j cs ds)
    (hs : ds[j].served = cs[j].served) (ks : List Chan) (e : Nat) : GaveAll p j cs (cutWalk p ks e ds).2 := by
  have hle : ds[j].charge ≤ servedCharge p.channels[j].load ds[j] := by
    have heq : servedCharge p.channels[j].load ds[j] = servedCharge p.channels[j].load cs[j] := by
      simp only [servedCharge, hs]
    rw [heq, show ds[j].charge = _ from h]
    omega
  rw [GaveAll, cutWalk_of_served hle]
  exact h

theorem cutWalk_served (p : Profile) (j : Chan) (ks : List Chan) (e : Nat) (cs : Vector Channel 8) :
    (cutWalk p ks e cs).2[j].served = cs[j].served := by
  obtain h | ⟨x, h⟩ := cutWalk_channel p j ks e cs <;> rw [h]
  rfl

/-- Where an excess remains, every channel of the walk has given all. -/
theorem cutWalk_gaveAll {p : Profile} {ks : List Chan} {e : Nat} {cs : Vector Channel 8}
    (h : (cutWalk p ks e cs).1 ≠ 0) {j : Chan} (hj : j ∈ ks) : GaveAll p j cs (cutWalk p ks e cs).2 := by
  induction ks generalizing e cs with
  | nil => cases hj
  | cons k ks ih =>
    have he : e ≠ 0 := fun he => h (by rw [he, cutWalk_of_none])
    by_cases hc : cs[k].charge = 0
    · rw [cutWalk_of_uncharged he hc] at h ⊢
      obtain rfl | hjs := List.mem_cons.1 hj
      · exact GaveAll.walk (by rw [GaveAll, hc, Nat.zero_min]) rfl ks e
      · exact ih h hjs
    · rw [cutWalk_of_charged he hc] at h ⊢
      have hrest : e - cutOf p.channels[k].load e cs[k] ≠ 0 := fun hz => h (by rw [hz, cutWalk_of_none])
      by_cases hjk : j = k
      · subst hjk
        refine GaveAll.walk ?_ (by rw [channel_set_same]; rfl) ks _
        rw [GaveAll, channel_set_same, cutChannel_charge]
        rw [cutOf] at hrest ⊢
        omega
      · have := ih h (List.mem_of_ne_of_mem hjk hj)
        rwa [GaveAll, channel_set_other hjk] at this

/-- A channel that the walk reaches only after `ks` and whose charge falls finds every channel of `ks` with its served
charge alone. -/
theorem cutWalk_gaveAll_before {p : Profile} {ks js : List Chan} {e : Nat} {cs : Vector Channel 8} {k : Chan}
    (hk : k ∉ ks) (hfell : (cutWalk p (ks ++ js) e cs).2[k].charge < cs[k].charge) {j : Chan} (hj : j ∈ ks) :
    GaveAll p j cs (cutWalk p (ks ++ js) e cs).2 := by
  rw [cutWalk_append] at hfell ⊢
  have hrest : (cutWalk p ks e cs).1 ≠ 0 := by
    intro hz
    rw [hz, cutWalk_of_none, cutWalk_other hk] at hfell
    exact absurd hfell (Nat.lt_irrefl _)
  exact (cutWalk_gaveAll hrest hj).walk (cutWalk_served p j ks e cs) js _

theorem cutWalk_charge_le (p : Profile) (j : Chan) (ks : List Chan) (e : Nat) (cs : Vector Channel 8) :
    (cutWalk p ks e cs).2[j].charge ≤ cs[j].charge := by
  obtain h | ⟨x, h⟩ := cutWalk_channel p j ks e cs <;> rw [h]
  exact Nat.sub_le _ _

/-- Every channel with a charge is in the walk. -/
theorem charge_of_not_mem_walkOrder {h : Heat} {k : Chan} (hk : k ∉ walkOrder h) : h.channels[k].charge = 0 := by
  by_contra hc
  refine hk ?_
  by_cases ho : k ∈ h.order
  · exact List.mem_append_left _ (List.mem_reverse.2 ho)
  · refine List.mem_append_right _ (List.mem_filter.2 ⟨List.mem_finRange k, ?_⟩)
    have hpos : 0 < h.channels[k].charge := by omega
    simp only [Bool.and_eq_true, Bool.not_eq_true', decide_eq_true_eq]
    exact ⟨by simpa using ho, hpos⟩

/-- At OVERDRAWN every channel has kept its served charge alone (R34). -/
theorem cutWalk_overdrawn {p : Profile} {h : Heat} {e : Nat}
    (hw : (cutWalk p (walkOrder h) e h.channels).1 ≠ 0) (k : Chan) :
    GaveAll p k h.channels (cutWalk p (walkOrder h) e h.channels).2 := by
  by_cases hk : k ∈ walkOrder h
  · exact cutWalk_gaveAll hw hk
  · rw [GaveAll, cutWalk_other hk, charge_of_not_mem_walkOrder hk, Nat.zero_min]

/-! ## Taking a grant (R32 to R34) -/

/-- The walk of the cut of `s` to the grant `g`. -/
def cutResult (g : Nat) (s : State) : Nat × Vector Channel 8 :=
  cutWalk s.profile (walkOrder s.heat) (chargesSum s.heat.channels - g) s.heat.channels

theorem takeGrant_of_no_cut {g : Nat} {s : State} (h : s.heat.window.running = false ∨ s.heat.overdrawn = true ∨
    chargesSum s.heat.channels ≤ g) : takeGrant g s = s.setHeat { s.heat with grant := g } := by
  have hb : (s.heat.window.running && !s.heat.overdrawn && decide (g < chargesSum s.heat.channels)) = false := by
    simp only [Bool.and_eq_false_iff, Bool.not_eq_false', decide_eq_false_iff_not, not_lt]
    tauto
  have hb' := ne_true_of_eq_false hb
  exact if_neg hb'

/-- A grant below the charges of a window that is running and not OVERDRAWN cuts. -/
def CutsTo (g : Nat) (s : State) : Prop :=
  s.heat.window.running = true ∧ s.heat.overdrawn = false ∧ g < chargesSum s.heat.channels

theorem takeGrant_of_cut {g : Nat} {s : State} (h : CutsTo g s) :
    takeGrant g s = cut g (s.setHeat { s.heat with grant := g }) := by
  obtain ⟨hrun, hover, hlt⟩ := h
  have hb : (s.heat.window.running && !s.heat.overdrawn && decide (g < chargesSum s.heat.channels)) = true := by
    rw [hrun, hover, decide_eq_true hlt]
    rfl
  exact if_pos hb

theorem takeGrant_heat_of_cut {g : Nat} {s : State} (h : CutsTo g s) : (takeGrant g s).heat =
    if (cutResult g s).1 = 0 then { s.heat with grant := g, channels := (cutResult g s).2 }
    else { s.heat with grant := g, channels := (cutResult g s).2.map overdrawnChannel, overdrawn := true } := by
  rw [takeGrant_of_cut h]
  show (if (cutResult g s).1 = 0 then _ else _ : State).heat = _
  split
  · rfl
  · exact (pushReport_frame _ _).heat

/-- The window becomes OVERDRAWN exactly where an excess remains. -/
theorem takeGrant_overdrawn_iff {g : Nat} {s : State} (h : CutsTo g s) :
    (takeGrant g s).heat.overdrawn = true ↔ (cutResult g s).1 ≠ 0 := by
  rw [takeGrant_heat_of_cut h]
  split
  · next hz => simp [h.2.1, hz]
  · next hz => simp [hz]

theorem takeGrant_channels_of_met {g : Nat} {s : State} (h : CutsTo g s)
    (ho : (takeGrant g s).heat.overdrawn = false) : (takeGrant g s).heat.channels = (cutResult g s).2 := by
  have hz : (cutResult g s).1 = 0 := by
    by_contra hne
    rw [(takeGrant_overdrawn_iff h).2 hne] at ho
    cases ho
  rw [takeGrant_heat_of_cut h, if_pos hz]

theorem takeGrant_channel_of_overdrawn {g : Nat} {s : State} (h : CutsTo g s)
    (ho : (takeGrant g s).heat.overdrawn = true) (k : Chan) :
    (takeGrant g s).heat.channels[k] = overdrawnChannel (cutResult g s).2[k] := by
  rw [takeGrant_heat_of_cut h, if_neg ((takeGrant_overdrawn_iff h).1 ho)]
  simp

/-- No charge rises when a grant is taken. -/
theorem takeGrant_charge_le (g : Nat) (s : State) (k : Chan) :
    (takeGrant g s).heat.channels[k].charge ≤ s.heat.channels[k].charge := by
  by_cases h : CutsTo g s
  · cases ho : (takeGrant g s).heat.overdrawn with
    | false =>
      rw [takeGrant_channels_of_met h ho]
      exact cutWalk_charge_le _ _ _ _ _
    | true =>
      rw [takeGrant_channel_of_overdrawn h ho]
      exact cutWalk_charge_le s.profile k (walkOrder s.heat) (chargesSum s.heat.channels - g) s.heat.channels
  · rw [takeGrant_of_no_cut]
    · exact Nat.le_refl _
    · rw [CutsTo, not_and_or, not_and_or, Bool.not_eq_true, Bool.not_eq_false, not_lt] at h
      exact h

/-- What a cut that meets its grant leaves of a channel whose charge fell (R33). -/
theorem cut_met_channel {g : Nat} {s : State} {k : Chan}
    (hfell : (cutResult g s).2[k].charge < s.heat.channels[k].charge) :
    (cutResult g s).2[k] = { s.heat.channels[k] with
      charge := (cutResult g s).2[k].charge
      onTime := cutOnTime s.profile.channels[k].load (cutResult g s).2[k].charge s.heat.channels[k]
      duty := if heating s.heat.channels[k].state then min s.heat.channels[k].duty
        (cutOnTime s.profile.channels[k].load (cutResult g s).2[k].charge s.heat.channels[k] / 10) else 0
      heater := s.heat.channels[k].heater && decide (s.heat.channels[k].served <
        cutOnTime s.profile.channels[k].load (cutResult g s).2[k].charge s.heat.channels[k]) } := by
  obtain h | ⟨x, h⟩ := cutWalk_channel s.profile k (walkOrder s.heat) (chargesSum s.heat.channels - g) s.heat.channels
  · rw [cutResult, h] at hfell
    exact absurd hfell (Nat.lt_irrefl _)
  · rw [show (cutResult g s).2[k] = _ from h]
    rfl

/-- Once the served time is within the on-time, an OVERDRAWN window's duty is the served time's or the old one (R34). -/
theorem overdrawn_duty (load x : Nat) {c : Channel} (h : c.served ≤ c.onTime) :
    (overdrawnChannel (cutChannel load x c)).duty = if heating c.state then min c.duty (c.served / 10) else 0 := by
  show (if heating c.state then min (if heating c.state then min c.duty
    (cutOnTime load (c.charge - x) c / 10) else 0) (c.served / 10) else 0) = _
  cases heating c.state
  · rfl
  · have hon : c.served ≤ cutOnTime load (c.charge - x) c := by
      rw [cutOnTime]
      omega
    simp only [if_true]
    omega

/-- What an OVERDRAWN window leaves of a channel (R34). -/
theorem cut_overdrawn_channel (g : Nat) (s : State) (k : Chan) :
    (s.heat.channels[k].served ≤ s.heat.channels[k].onTime → (overdrawnChannel (cutResult g s).2[k]).duty =
      if heating s.heat.channels[k].state then min s.heat.channels[k].duty (s.heat.channels[k].served / 10) else 0) ∧
    (overdrawnChannel (cutResult g s).2[k]).onTime = s.heat.channels[k].served ∧
    (overdrawnChannel (cutResult g s).2[k]).served = s.heat.channels[k].served := by
  obtain h | ⟨x, h⟩ := cutWalk_channel s.profile k (walkOrder s.heat) (chargesSum s.heat.channels - g) s.heat.channels
  · rw [show (cutResult g s).2[k] = _ from h]
    exact ⟨fun _ => rfl, rfl, rfl⟩
  · rw [show (cutResult g s).2[k] = _ from h]
    exact ⟨overdrawn_duty _ x, rfl, rfl⟩

/-- A channel that is cut finds every channel ahead of it in the walk with its served charge alone. -/
theorem cut_gaveAll_before {g : Nat} {s : State} {k : Chan} {before js : List Chan}
    (hw : walkOrder s.heat = before ++ js) (hk : k ∉ before)
    (hfell : (cutResult g s).2[k].charge < s.heat.channels[k].charge) {j : Chan} (hj : j ∈ before) :
    (cutResult g s).2[j].charge = min s.heat.channels[j].charge
      ((s.heat.channels[j].served * s.profile.channels[j].load + 9999) / 10000) := by
  rw [cutResult, hw] at hfell ⊢
  exact cutWalk_gaveAll_before hk hfell hj

/-- Settles O48: the three commands, and the walk of a cut for the grant. -/
theorem heatersStopAtTheirEndByCommandAndByCut : Obligations.HeatersStopAtTheirEndByCommandAndByCut := by
  refine ⟨fun k s ha => ⟨fun hon hover => ?_, fun hnot => ?_⟩, fun c k s hd hj hc hk => ⟨fun hh => ?_, fun hi => ?_,
    fun cause ht hf hr => ?_⟩, fun g s => ?_⟩
  · exact ⟨_, exec_onTimeEnd_of_over ha ((onTimeOver_iff k s).2 ⟨hon, hover⟩), updateChannel_frame _ _ _, rfl⟩
  · refine exec_onTimeEnd_of_not_over (Bool.eq_false_iff.2 fun h => ?_)
    obtain ⟨hheater, hle⟩ := (onTimeOver_iff k s).1 h
    obtain hoff | hlt := hnot
    · rw [hoff] at hheater
      cases hheater
    · omega
  · refine ⟨_, exec_heatOff hd hj hc hk (not_tripped_of_heating hh), ?_, answered_setReply _ _ _ rfl, ?_⟩
    · exact SameExcept.step (setReply_frame _ _) (SameExcept.step (updateChannel_frame _ _ _)
        ((endTransaction_frame s).mono (by decide)) (by decide)) (by decide)
    · rw [← heatOffChannel_of_heating hh]
      rfl
  · refine ⟨_, exec_heatOff hd hj hc hk (by rw [hi]; rfl), ?_, answered_setReply _ _ _ rfl⟩
    rw [heatOff_idle (s := endTransaction s) hi]
    exact (endTransaction_frame s).trans (setReply_frame _ _)
  · obtain ⟨hheat, hnone, hcalls⟩ := clearTrip_spec k cause (endTransaction s)
    have hreply := setReply_frame (.done 18 false .none) (clearTrip k cause (endTransaction s))
    refine ⟨_, exec_channelClear hd hj hc hk ht hf hr, ?_,
      answered_setReply _ _ _ (clearTrip_frame k cause (endTransaction s)).port, hheat, fun ho => ?_, hcalls⟩
    · exact SameExcept.step hreply (SameExcept.step (clearTrip_frame _ _ _)
        ((endTransaction_frame s).mono (by decide)) (by decide)) (by decide)
    · exact SameExcept.step hreply (SameExcept.step (hnone ho)
        ((endTransaction_frame s).mono (by decide)) (by decide)) (by decide)
  · obtain ⟨hgrant, -, hport⟩ := takeGrant_reports g s
    refine ⟨hgrant, takeGrant_frame g s, takeGrant_of_no_cut, takeGrant_charge_le g s, fun hrun hover hlt =>
      ⟨fun hmet => ?_, fun hdrawn => ?_⟩⟩
    · have hcut : CutsTo g s := ⟨hrun, hover, hlt⟩
      rw [hmet, if_neg (by simp)] at hport
      rw [takeGrant_channels_of_met hcut hmet]
      refine ⟨?_, hport, fun k hfell => ?_⟩
      · have hz : (cutResult g s).1 = 0 := by
          by_contra hne
          rw [(takeGrant_overdrawn_iff hcut).2 hne] at hmet
          cases hmet
        have := cutWalk_charges s.profile (walkOrder s.heat) (chargesSum s.heat.channels - g) s.heat.channels
        rw [← cutResult] at this
        omega
      · have hcell := cut_met_channel hfell
        refine ⟨congrArg Channel.onTime hcell, ?_, ?_, fun before after horder hk j hj => ?_, fun hk j hj => ?_⟩
        · rw [congrArg Channel.onTime hcell]
          exact congrArg Channel.duty hcell
        · rw [congrArg Channel.onTime hcell]
          exact congrArg Channel.heater hcell
        · obtain ⟨js, hw⟩ : ∃ js, walkOrder s.heat = before ++ js := ⟨_, by rw [walkOrder, horder, List.append_assoc]⟩
          exact cut_gaveAll_before hw hk hfell hj
        · exact cut_gaveAll_before (before := s.heat.order.reverse) rfl (mt List.mem_reverse.1 hk) hfell
            (List.mem_reverse.2 hj)
    · have hcut : CutsTo g s := ⟨hrun, hover, hlt⟩
      rw [hdrawn, hgrant, if_pos ⟨hover, rfl⟩] at hport
      refine ⟨hport, fun k => ?_⟩
      rw [takeGrant_channel_of_overdrawn hcut hdrawn k]
      obtain ⟨hduty, honTime, hserved⟩ := cut_overdrawn_channel g s k
      exact ⟨hduty, rfl, honTime, hserved, cutWalk_overdrawn ((takeGrant_overdrawn_iff hcut).1 hdrawn) k⟩

end Sys2Proof.Machine
end

section
/-! The trips of a sweep (R37 to R39), with what a raised call does at a station without a radio (R161, R162). -/

namespace Sys2Proof.Machine

/-! ## Operations channel by channel -/

/-- A fold over distinct places, of which each step sets its own and reads nothing that another step sets. -/
theorem foldl_cell {ι α : Type} [DecidableEq ι] {f : State → ι → State} {cell next : ι → State → α}
    (hsame : ∀ s k, cell k (f s k) = next k s) (hother : ∀ s j k, j ≠ k → cell j (f s k) = cell j s)
    (hnext : ∀ s j k, j ≠ k → next j (f s k) = next j s) {ks : List ι} (hks : ks.Nodup) (s : State) (k : ι) :
    cell k (ks.foldl f s) = if k ∈ ks then next k s else cell k s := by
  induction ks generalizing s with
  | nil => rfl
  | cons j js ih =>
    obtain ⟨hj, hjs⟩ := List.nodup_cons.1 hks
    rw [List.foldl_cons, ih hjs]
    by_cases hkj : k = j
    · subst hkj
      rw [if_neg hj, if_pos List.mem_cons_self, hsame]
    · simp only [List.mem_cons, hkj, false_or, hnext s k j hkj, hother s k j hkj]

/-! ## Reports that stay (R190) -/

/-- The report `r` is queued with at most `n` reports behind it. -/
def Recent (n : Nat) (r : Report) (s : State) : Prop :=
  ∃ front back, s.port.reports = front ++ r :: back ∧ back.length ≤ n

theorem Recent.mem {n : Nat} {r : Report} {s : State} (h : Recent n r s) : r ∈ s.port.reports := by
  obtain ⟨front, back, he, -⟩ := h
  simp [he]

theorem Recent.mono {n m : Nat} {r : Report} {s : State} (h : Recent n r s) (hm : n ≤ m) : Recent m r s := by
  obtain ⟨front, back, he, hl⟩ := h
  exact ⟨front, back, he, hl.trans hm⟩

theorem Recent.congr {n : Nat} {r : Report} {s t : State} (h : Recent n r s) (hp : t.port = s.port) : Recent n r t := by
  simpa only [Recent, hp] using h

theorem recent_pushReport (b : ReportBody) (s : State) : Recent 0 ⟨s.life.clock, b⟩ (pushReport b s) := by
  unfold pushReport
  simp only
  split <;> exact ⟨_, [], rfl, Nat.le_refl _⟩

/-- A report stays in the queue while fewer than 32 follow it. -/
theorem Recent.push {n : Nat} {r : Report} {s : State} (h : Recent n r s) (hn : n < 31) (b : ReportBody) :
    Recent (n + 1) r (pushReport b s) := by
  obtain ⟨front, back, he, hl⟩ := h
  by_cases hfull : s.port.reports.length < 32
  · have hpush : (pushReport b s).port.reports = s.port.reports ++ [⟨s.life.clock, b⟩] := by
      simp [pushReport, hfull]
    exact ⟨front, back ++ [⟨s.life.clock, b⟩], by simp [hpush, he], by simpa using hl⟩
  · have hpush : (pushReport b s).port.reports = s.port.reports.tail ++ [⟨s.life.clock, b⟩] := by
      simp [pushReport, hfull]
    cases front with
    | nil =>
      rw [he] at hfull
      simp at hfull
      omega
    | cons x xs => exact ⟨xs, back ++ [⟨s.life.clock, b⟩], by simp [hpush, he], by simpa using hl⟩

/-! ## Call numbers (R161) -/

/-- The number looked at `i` places after `n`. -/
def numberAfter (n : Nat) : Nat → Nat
  | 0 => n
  | i + 1 => (n + i) % 255 + 1

theorem numberAfter_next (n i : Nat) : numberAfter (n % 255 + 1) i = numberAfter n (i + 1) := by
  cases i with
  | zero => rfl
  | succ i =>
    simp only [numberAfter]
    omega

/-- A search that answers a used number has found every number on its way used. -/
theorem freeNumber_used {used : List Nat} {fuel n : Nat} (h : freeNumber used fuel n ∈ used) :
    ∀ i ≤ fuel, numberAfter n i ∈ used := by
  induction fuel generalizing n with
  | zero =>
    intro i hi
    obtain rfl := Nat.le_zero.1 hi
    exact h
  | succ fuel ih =>
    rw [freeNumber] at h
    split at h
    · next hc =>
      intro i hi
      cases i with
      | zero => exact List.contains_iff_mem.1 hc
      | succ i => exact numberAfter_next n i ▸ ih h i (by omega)
    · next hc => exact absurd (List.contains_iff_mem.2 h) hc

/-- Among fewer than 255 used numbers a free one is found. -/
theorem freeNumber_free {used : List Nat} (h : used.length < 255) (n : Nat) : freeNumber used 255 n ∉ used := by
  intro hmem
  have hall := freeNumber_used hmem
  have hsub : (Finset.range 255).image (fun i => numberAfter n (i + 1)) ⊆ used.toFinset := by
    intro x hx
    obtain ⟨i, hi, rfl⟩ := Finset.mem_image.1 hx
    exact List.mem_toFinset.2 (hall _ (Finset.mem_range.1 hi))
  have hinj : Set.InjOn (fun i => numberAfter n (i + 1)) (Finset.range 255 : Set Nat) := by
    intro i hi j hj hij
    have hi' : i < 255 := by simpa using hi
    have hj' : j < 255 := by simpa using hj
    simp only [numberAfter] at hij
    omega
  have hcard := Finset.card_le_card hsub
  rw [Finset.card_image_of_injOn hinj, Finset.card_range] at hcard
  have := used.toFinset_card_le
  omega

theorem newNumber_free {s : State} (h : s.paging.calls.length < 255) :
    newNumber s ∉ s.paging.calls.map (fun c => c.number) := freeNumber_free (by simpa using h) _

/-! ## Raising a call without a radio (R162) -/

theorem radio_of_profile {s t : State} (hp : t.profile = s.profile) (h : s.profile.radio = false) :
    t.profile.radio = false := by rw [hp, h]

theorem serveCall_of_no_radio {s : State} (h : s.profile.radio = false) (origin : Nat) (b : PageCallBody) :
    serveCall origin b s = s := by
  simp [serveCall, serves, h]

/-- A call whose broadcast is due goes out once more (R164). -/
def broadcastNow (c : Call) : Call :=
  if c.state = .calling then { c with broadcasts := c.broadcasts + 1, timer := some Config.callingMs }
  else { c with timer := some Config.reminderMs }

theorem broadcast_of_no_radio {s : State} (h : s.profile.radio = false) (c : Call) :
    (broadcast c s).port = s.port ∧ ∃ f : Call → Call,
      (∀ x, (f x).number = x.number ∧ (f x).reason = x.reason ∧ (f x).subject = x.subject) ∧
        (broadcast c s).paging.calls = s.paging.calls.map f := by
  have hkeeps : ∀ x, (broadcastNow x).number = x.number ∧ (broadcastNow x).reason = x.reason ∧
      (broadcastNow x).subject = x.subject := by
    intro x
    unfold broadcastNow
    split <;> exact ⟨rfl, rfl, rfl⟩
  have hoff := offer_frame (.pageCall (pageCallBody c)) (updateCall c.number broadcastNow s)
  have hb : broadcast c s = offer (.pageCall (pageCallBody c)) (updateCall c.number broadcastNow s) :=
    serveCall_of_no_radio (radio_of_profile hoff.profile h) (ownId s) (pageCallBody c)
  refine ⟨by rw [hb, hoff.port]; rfl, fun x => if x.number = c.number then broadcastNow x else x, fun x => ?_, ?_⟩
  · by_cases hx : x.number = c.number
    · simp only [hx, if_true]
      exact ⟨(hkeeps x).1.trans hx, (hkeeps x).2⟩
    · simp only [hx, if_false, and_self]
  · rw [hb, hoff.paging]
    rfl

/-- What names an open call: its number, reason and subject. -/
def callKey (c : Call) : Nat × CallReason × Nat := (c.number, c.reason, c.subject)

theorem map_callKey_map {f : Call → Call}
    (hf : ∀ x, (f x).number = x.number ∧ (f x).reason = x.reason ∧ (f x).subject = x.subject) (cs : List Call) :
    (cs.map f).map callKey = cs.map callKey := by
  rw [List.map_map]
  refine List.map_congr_left fun x _ => ?_
  obtain ⟨hn, hr, hs⟩ := hf x
  simp only [Function.comp, callKey, hn, hr, hs]

/-- The state in which a new call stands behind the others. -/
def withNewCall (r : CallReason) (subject : Nat) (group : Option Nat) (urgency : Nat) (st : CallState) (s : State) : State :=
  s.setPaging { s.paging with
    calls := s.paging.calls ++ [⟨newNumber s, r, subject, group, urgency, st, 0, none, none⟩]
    nextNumber := newNumber s % 255 + 1 }

theorem enterCall_none (r : CallReason) (subject urgency : Nat) (s : State) :
    enterCall r subject none urgency s =
      pushReport (callReport ⟨newNumber s, r, subject, none, urgency, .local, 0, none, none⟩ .local)
        (withNewCall r subject none urgency .local s) := rfl

theorem enterCall_some (r : CallReason) (subject g urgency : Nat) (s : State) :
    enterCall r subject (some g) urgency s =
      broadcast ⟨newNumber s, r, subject, some g, urgency, .calling, 0, none, none⟩
        (withNewCall r subject (some g) urgency .calling s) := rfl

theorem withNewCall_keys (r : CallReason) (subject : Nat) (group : Option Nat) (urgency : Nat) (st : CallState)
    (s : State) : (withNewCall r subject group urgency st s).paging.calls.map callKey =
      s.paging.calls.map callKey ++ [(newNumber s, r, subject)] := by
  show (s.paging.calls ++ [_]).map callKey = _
  rw [List.map_append]
  rfl

/-- A call that enters stands behind the others, and queues at most its LOCAL report. -/
theorem enterCall_of_no_radio {s : State} (h : s.profile.radio = false) (r : CallReason) (subject : Nat)
    (group : Option Nat) (urgency : Nat) :
    (enterCall r subject group urgency s).paging.calls.map callKey =
        s.paging.calls.map callKey ++ [(newNumber s, r, subject)] ∧
      ∀ {n x}, Recent n x s → n < 31 → Recent (n + 1) x (enterCall r subject group urgency s) := by
  cases group with
  | none =>
    rw [enterCall_none, (pushReport_frame _ _).paging]
    exact ⟨withNewCall_keys _ _ _ _ _ _, fun hx hn =>
      Recent.push (s := withNewCall r subject none urgency .local s) (hx.congr rfl) hn _⟩
  | some g =>
    obtain ⟨hport, f, hf, hcalls⟩ := broadcast_of_no_radio (s := withNewCall r subject (some g) urgency .calling s) h
      ⟨newNumber s, r, subject, some g, urgency, .calling, 0, none, none⟩
    rw [enterCall_some, hcalls, map_callKey_map hf]
    exact ⟨withNewCall_keys _ _ _ _ _ _, fun hx _ => (hx.congr hport).mono (Nat.le_succ _)⟩

theorem makeRoom_profile {u : Nat} {s t : State} (h : makeRoom u s = some t) : t.profile = s.profile :=
  (makeRoom_frame u s t h).profile

/-- Making room queues at most the report of the call that is replaced. -/
theorem makeRoom_recent {u n : Nat} {s t : State} {x : Report} (h : makeRoom u s = some t) (hx : Recent n x s)
    (hn : n < 31) : Recent (n + 1) x t := by
  unfold makeRoom at h
  split at h
  · cases h
    exact hx.mono (Nat.le_succ _)
  · split at h
    · split at h
      · cases h
        exact (hx.congr (withdrawCall_frame _ _).port).push hn _
      · cases h
    · cases h

/-- Raising a call queues at most two reports. -/
theorem raiseCall_recent {s : State} (h : s.profile.radio = false) (r : CallReason) (subject : Nat) {n : Nat}
    {x : Report} (hx : Recent n x s) (hn : n + 1 < 31) : Recent (n + 2) x (raiseCall r subject s) := by
  unfold raiseCall
  split
  · exact hx.mono (by omega)
  · split
    · next t ht =>
      exact (enterCall_of_no_radio (radio_of_profile (makeRoom_profile ht) h) _ _ _ _).2 (makeRoom_recent ht hx (by omega)) hn
    · exact (hx.push (by omega) _).mono (by omega)

/-- The open call list holds at most `m` calls, under different numbers. -/
structure CallsFit (m : Nat) (s : State) : Prop where
  radio : s.profile.radio = false
  room : s.paging.calls.length ≤ m
  names : (s.paging.calls.map callKey).Pairwise (fun a b => a.1 ≠ b.1)

/-- Raising a call in a list with room: it was open, or it enters behind the others. -/
theorem raiseCall_keys {s : State} (h : s.profile.radio = false) (hroom : s.paging.calls.length < 16) (r : CallReason)
    (subject : Nat) :
    ((raiseCall r subject s).paging.calls = s.paging.calls ∧ ∃ n, (n, r, subject) ∈ s.paging.calls.map callKey) ∨
      (raiseCall r subject s).paging.calls.map callKey =
        s.paging.calls.map callKey ++ [(newNumber s, r, subject)] := by
  unfold raiseCall
  split
  · next c hc =>
    have hmem := List.mem_of_find?_eq_some hc
    have hkey := List.find?_some hc
    simp only [Bool.and_eq_true, decide_eq_true_eq] at hkey
    exact .inl ⟨rfl, c.number, List.mem_map.2 ⟨c, hmem, by rw [callKey, hkey.1, hkey.2]⟩⟩
  · have hmake : makeRoom (reasonUrgency r) s = some s := if_pos hroom
    rw [hmake]
    exact .inr (enterCall_of_no_radio h _ _ _ _).1

theorem names_append {s : State} (hroom : s.paging.calls.length < 16)
    (hnames : (s.paging.calls.map callKey).Pairwise (fun a b => a.1 ≠ b.1)) (r : CallReason) (subject : Nat) :
    (s.paging.calls.map callKey ++ [(newNumber s, r, subject)]).Pairwise (fun a b => a.1 ≠ b.1) := by
  refine List.pairwise_append.2 ⟨hnames, List.pairwise_singleton _ _, fun a ha b hb => ?_⟩
  rw [List.mem_singleton.1 hb]
  intro he
  obtain ⟨c, hc, rfl⟩ := List.mem_map.1 ha
  exact newNumber_free (by omega) (List.mem_map.2 ⟨c, hc, he⟩)

/-- A raised call stands, and the others with it. -/
theorem CallsFit.raise {m : Nat} {s : State} (h : CallsFit m s) (hm : m < 16) (r : CallReason) (subject : Nat) :
    CallsFit (m + 1) (raiseCall r subject s) ∧ (∃ n, (n, r, subject) ∈ (raiseCall r subject s).paging.calls.map callKey) ∧
      ∀ x ∈ s.paging.calls.map callKey, x ∈ (raiseCall r subject s).paging.calls.map callKey := by
  have hroom : s.paging.calls.length < 16 := Nat.lt_of_le_of_lt h.room hm
  have hradio := radio_of_profile (raiseCall_frame r subject s).profile h.radio
  obtain ⟨hcalls, hopen⟩ | hkeys := raiseCall_keys h.radio hroom r subject
  · rw [hcalls]
    exact ⟨⟨hradio, by rw [hcalls]; exact h.room.trans (Nat.le_succ m), by rw [hcalls]; exact h.names⟩, hopen,
      fun x hx => hx⟩
  · have hlen := congrArg List.length hkeys
    simp only [List.length_map, List.length_append, List.length_singleton] at hlen
    rw [hkeys]
    exact ⟨⟨hradio, by rw [hlen]; exact Nat.succ_le_succ h.room, by rw [hkeys]; exact names_append hroom h.names r subject⟩,
      ⟨_, List.mem_append_right _ (List.mem_singleton.2 rfl)⟩, fun x hx => List.mem_append_left _ hx⟩

/-! ## Trips (R37 to R39) -/

/-- The order of the causes of a trip: a fault entry, then a reading at the high limit. -/
def causeOf (checked entry : Bool) (limit t : Int) : Option TripCause :=
  if checked then if entry then some .sensor else if limit ≤ t then some .overheat else none else none

/-- Why channel `k` trips at a sweep, if it does (R37, R38). -/
def tripCause (entries : Vector Bool 8) (k : Chan) (s : State) : Option TripCause :=
  causeOf (tripsChecked s k) entries[s.profile.channels[k].sensor] s.profile.channels[k].highLimit (reading s k)

theorem tripCheck_eq (entries : Vector Bool 8) (k : Chan) (s : State) :
    tripCheck entries k s = (tripCause entries k s).elim s (fun c => trip k c s) := by
  unfold tripCheck tripCause causeOf
  split
  · split
    · rfl
    · split <;> rfl
  · rfl

/-- A channel after the trip check of a sweep. -/
def channelAfterCheck (entries : Vector Bool 8) (k : Chan) (s : State) : Channel :=
  (tripCause entries k s).elim s.heat.channels[k] (fun c => trippedChannel c s.heat.channels[k])

theorem trip_heat (k : Chan) (cause : TripCause) (s : State) :
    (trip k cause s).heat = (updateChannel k (trippedChannel cause) s).heat :=
  (raiseCall_frame _ _ _).heat.trans (pushReport_frame _ _).heat

theorem tripCheck_channel_same (entries : Vector Bool 8) (k : Chan) (s : State) :
    (tripCheck entries k s).heat.channels[k] = channelAfterCheck entries k s := by
  rw [tripCheck_eq, channelAfterCheck]
  cases tripCause entries k s with
  | none => rfl
  | some c => exact (congrArg (fun h : Heat => h.channels[k]) (trip_heat k c s)).trans (channel_updateChannel_same _ _ _)

theorem tripCheck_channel_other (entries : Vector Bool 8) {j k : Chan} (h : j ≠ k) (s : State) :
    (tripCheck entries k s).heat.channels[j] = s.heat.channels[j] := by
  rw [tripCheck_eq]
  cases tripCause entries k s with
  | none => rfl
  | some c => exact (congrArg (fun h : Heat => h.channels[j]) (trip_heat k c s)).trans (channel_updateChannel_other h _ _)

theorem tripCause_congr {entries : Vector Bool 8} {k : Chan} {s t : State} (hp : t.profile = s.profile)
    (hs : t.scan = s.scan) (hc : t.heat.channels[k] = s.heat.channels[k]) :
    tripCause entries k t = tripCause entries k s := by
  have hchecked : tripsChecked t k = tripsChecked s k := by unfold tripsChecked; rw [hp, hc]
  have hreading : reading t k = reading s k := by unfold reading sensorOf; simp only [hp, hs]
  unfold tripCause
  rw [hchecked, hreading]
  simp only [hp]

theorem tripCause_tripCheck_other (entries : Vector Bool 8) {j k : Chan} (h : j ≠ k) (s : State) :
    tripCause entries j (tripCheck entries k s) = tripCause entries j s :=
  tripCause_congr (tripCheck_frame _ _ _).profile (tripCheck_frame _ _ _).scan (tripCheck_channel_other entries h s)

/-- The record of channel `k`. -/
def channelAt (k : Chan) (s : State) : Channel := s.heat.channels[k]

/-- Every channel is checked once, whatever the others do. -/
theorem tripChecks_channel (entries : Vector Bool 8) (k : Chan) (s : State) :
    (tripChecks entries s).heat.channels[k] = channelAfterCheck entries k s := by
  have hfold := foldl_cell (f := fun s k => tripCheck entries k s) (cell := channelAt) (next := channelAfterCheck entries)
    (fun s k => tripCheck_channel_same entries k s) (fun s j k h => tripCheck_channel_other entries h s)
    (fun s j k h => by rw [channelAfterCheck, tripCause_tripCheck_other entries h, tripCheck_channel_other entries h]; rfl)
    (List.nodup_finRange 8) s k
  rw [if_pos (List.mem_finRange k)] at hfold
  unfold tripChecks
  exact hfold

/-- The cause of a channel's trip stands through the checks of the others. -/
theorem tripCause_of_fold (entries : Vector Bool 8) {k : Chan} {ks : List Chan} (h : k ∉ ks) (s : State) :
    tripCause entries k (ks.foldl (fun s k => tripCheck entries k s) s) = tripCause entries k s := by
  induction ks generalizing s with
  | nil => rfl
  | cons j js ih =>
    obtain ⟨hj, hjs⟩ := not_or.1 (mt List.mem_cons.2 h)
    rw [List.foldl_cons, ih hjs, tripCause_tripCheck_other entries hj]

/-- A trip queues its report, and at most two more. -/
theorem trip_recent {s : State} (h : s.profile.radio = false) (k : Chan) (cause : TripCause) :
    Recent 2 ⟨s.life.clock, .trip k cause (reading s k)⟩ (trip k cause s) :=
  raiseCall_recent (n := 0)
    (radio_of_profile (t := pushReport _ (updateChannel k _ s)) (pushReport_frame _ _).profile h) _ _
    (recent_pushReport _ (updateChannel k (trippedChannel cause) s)) (by omega)

/-- A check of a channel leaves a recent report recent. -/
theorem tripCheck_recent {s : State} (h : s.profile.radio = false) (entries : Vector Bool 8) (k : Chan) {n : Nat}
    {x : Report} (hx : Recent n x s) (hn : n + 2 < 31) : Recent (n + 3) x (tripCheck entries k s) := by
  rw [tripCheck_eq]
  cases tripCause entries k s with
  | none => exact hx.mono (by omega)
  | some c =>
    have hpush : Recent (n + 1) x (pushReport (.trip k c (reading s k)) (updateChannel k (trippedChannel c) s)) :=
      Recent.push (s := updateChannel k (trippedChannel c) s) (hx.congr rfl) (by omega) _
    exact raiseCall_recent (radio_of_profile (t := pushReport _ (updateChannel k _ s)) (pushReport_frame _ _).profile h) _ _ hpush hn

theorem tripChecks_recent (entries : Vector Bool 8) {ks : List Chan} {s : State} (h : s.profile.radio = false) {n : Nat}
    {x : Report} (hx : Recent n x s) (hn : n + 3 * ks.length < 32) :
    x ∈ (ks.foldl (fun s k => tripCheck entries k s) s).port.reports := by
  induction ks generalizing s n with
  | nil => exact hx.mem
  | cons k ks ih =>
    rw [List.length_cons] at hn
    exact ih (radio_of_profile (tripCheck_frame _ _ _).profile h) (tripCheck_recent h entries k hx (by omega)) (by omega)

/-- A trip's call stands. -/
theorem CallsFit.trip {m : Nat} {s : State} (h : CallsFit m s) (hm : m < 16) (k : Chan) (cause : TripCause) :
    CallsFit (m + 1) (trip k cause s) ∧
      (∃ n, (n, tripReason cause, k.val) ∈ (trip k cause s).paging.calls.map callKey) ∧
      ∀ x ∈ s.paging.calls.map callKey, x ∈ (trip k cause s).paging.calls.map callKey := by
  have hu : (pushReport (.trip k cause (reading s k)) (updateChannel k (trippedChannel cause) s)).paging = s.paging :=
    (pushReport_frame _ _).paging
  have hfit : CallsFit m (pushReport (.trip k cause (reading s k)) (updateChannel k (trippedChannel cause) s)) :=
    ⟨radio_of_profile (pushReport_frame _ _).profile h.radio, by rw [hu]; exact h.room, by rw [hu]; exact h.names⟩
  obtain ⟨hfits, hstands, hkeeps⟩ := hfit.raise hm (tripReason cause) k.val
  rw [hu] at hkeeps
  exact ⟨hfits, hstands, hkeeps⟩

theorem CallsFit.check {m : Nat} {s : State} (h : CallsFit m s) (hm : m < 16) (entries : Vector Bool 8) (k : Chan) :
    CallsFit (m + 1) (tripCheck entries k s) ∧
      ∀ x ∈ s.paging.calls.map callKey, x ∈ (tripCheck entries k s).paging.calls.map callKey := by
  rw [tripCheck_eq]
  cases tripCause entries k s with
  | none => exact ⟨⟨h.radio, h.room.trans (Nat.le_succ m), h.names⟩, fun x hx => hx⟩
  | some c =>
    obtain ⟨hfits, -, hkeeps⟩ := h.trip hm k c
    exact ⟨hfits, hkeeps⟩

theorem CallsFit.checks {m : Nat} {s : State} (h : CallsFit m s) (entries : Vector Bool 8) {ks : List Chan}
    (hm : m + ks.length ≤ 16) : CallsFit (m + ks.length) (ks.foldl (fun s k => tripCheck entries k s) s) ∧
      ∀ x ∈ s.paging.calls.map callKey,
        x ∈ (ks.foldl (fun s k => tripCheck entries k s) s).paging.calls.map callKey := by
  induction ks generalizing s m with
  | nil => exact ⟨h, fun x hx => hx⟩
  | cons k ks ih =>
    rw [List.length_cons] at hm ⊢
    obtain ⟨hfits, hkeeps⟩ := h.check (by omega) entries k
    obtain ⟨hfits', hkeeps'⟩ := ih hfits (by omega)
    rw [show m + (ks.length + 1) = m + 1 + ks.length by omega]
    exact ⟨hfits', fun x hx => hkeeps' x (hkeeps x hx)⟩

/-! ## The sweep completion (R1, R37 to R39) -/

theorem sweep_joined {s : State} (h : joined s = true) (c : Conversions) :
    sweep c s = sweepStock (sweepDish (tripChecks (faultEntries s.scan (convertAll c s.scan))
      (s.setScan (convertAll c s.scan)))) := by
  rw [sweep, deliverSweep, show joined (s.setScan (convertAll c s.scan)) = true from h, doWhen_true]

theorem faultEntries_sensor (s : State) (n : Scanner) (k : Chan) :
    (faultEntries s.scan n)[s.profile.channels[k].sensor] = (!flagged s k && flagged (s.setScan n) k) :=
  Vector.getElem_ofFn _

/-- The cause of channel `k`'s trip at a sweep completion (R37, R38). -/
theorem tripCause_sweep (s : State) (n : Scanner) (k : Chan) :
    tripCause (faultEntries s.scan n) k (s.setScan n) =
      causeOf (tripsChecked s k) (!flagged s k && flagged (s.setScan n) k) s.profile.channels[k].highLimit
        (reading (s.setScan n) k) := by
  rw [← faultEntries_sensor]
  rfl

/-- Members of a list whose keys differ are told apart by their keys. -/
theorem eq_of_key_eq {α β : Type} {key : α → β} {xs : List α} (h : xs.Pairwise (fun a b => key a ≠ key b)) {a b : α}
    (ha : a ∈ xs) (hb : b ∈ xs) (he : key a = key b) : a = b :=
  List.inj_on_of_nodup_map (List.pairwise_map.2 h) ha hb he

/-- Cancelling a call takes no call of another reason. -/
theorem cancelCall_keeps {r : CallReason} {subject : Nat} {s : State} {x : Call} (hx : x ∈ s.paging.calls)
    (hr : x.reason ≠ r) (hnames : s.paging.calls.Pairwise (fun a b => a.number ≠ b.number)) :
    x ∈ (cancelCall r subject s).paging.calls := by
  obtain ⟨hnone, hsome⟩ := cancelCall_cancelled r subject s
  cases ho : openCall r subject s with
  | none => rwa [(hnone ho).1]
  | some c =>
    rw [(hsome c ho).1]
    have hkey := List.find?_some ho
    simp only [Bool.and_eq_true, decide_eq_true_eq] at hkey
    refine List.mem_filter.2 ⟨hx, decide_eq_true fun he => hr ?_⟩
    rw [eq_of_key_eq hnames hx (List.mem_of_find?_eq_some ho) he, hkey.1]

theorem judgeRinse_keeps {booster : Temp} {flag : Bool} {s : State} {x : Call} (hx : x ∈ s.paging.calls)
    (hr : x.reason ≠ .rinseHold) (hnames : s.paging.calls.Pairwise (fun a b => a.number ≠ b.number)) :
    x ∈ (judgeRinse booster flag s).paging.calls := by
  unfold judgeRinse
  split
  · exact hx
  · split
    · exact hx
    · split
      · exact cancelCall_keeps (s := updateDish _ s) hx hr hnames
      · exact hx

/-- The dish line's duties at a sweep take no call but that of the RINSE hold. -/
theorem sweepDish_keeps {s : State} {x : Call} (hx : x ∈ s.paging.calls) (hr : x.reason ≠ .rinseHold)
    (hnames : s.paging.calls.Pairwise (fun a b => a.number ≠ b.number)) : x ∈ (sweepDish s).paging.calls := by
  unfold sweepDish
  split
  · unfold doWhen
    split
    · rw [(dishEvent_after s).paging]
      exact judgeRinse_keeps (s := sampleRacks _ _ _ _ s) hx hr hnames
    · exact hx
  · exact hx

/-- The channels before and behind `k`, among which `k` does not stand. -/
theorem finRange_split (k : Chan) : ∃ front back : List Chan, List.finRange 8 = front ++ k :: back ∧ k ∉ front ∧
    front.length + back.length = 7 := by
  obtain ⟨front, back, he⟩ := List.append_of_mem (List.mem_finRange k)
  have hlen := congrArg List.length he
  rw [List.length_finRange, List.length_append, List.length_cons] at hlen
  refine ⟨front, back, he, fun hmem => ?_, by omega⟩
  exact (List.nodup_append.1 (he ▸ List.nodup_finRange 8)).2.2 k hmem k List.mem_cons_self rfl

theorem foldl_tripCheck_frame (entries : Vector Bool 8) (ks : List Chan) (s : State) :
    SameExcept [.heat, .bus, .paging, .port] s (ks.foldl (fun s k => tripCheck entries k s) s) := by
  induction ks generalizing s with
  | nil => exact SameExcept.refl _ _
  | cons k ks ih => exact (ih _).step (tripCheck_frame entries k s) (by decide)

/-- A channel that trips at the checks of a sweep has its report queued and its call open (R39). -/
theorem tripChecks_announces {entries : Vector Bool 8} {k : Chan} {s : State} {cause : TripCause}
    (hc : tripCause entries k s = some cause) (hradio : s.profile.radio = false) :
    ⟨s.life.clock, .trip k cause (reading s k)⟩ ∈ (tripChecks entries s).port.reports ∧
      (CallsFit 8 s → CallsFit 16 (tripChecks entries s) ∧
        ∃ n, (n, tripReason cause, k.val) ∈ (tripChecks entries s).paging.calls.map callKey) := by
  obtain ⟨front, back, hsplit, hk, hlen⟩ := finRange_split k
  obtain ⟨u, hu⟩ : ∃ u, u = front.foldl (fun s k => tripCheck entries k s) s := ⟨_, rfl⟩
  have hframe : SameExcept [.heat, .bus, .paging, .port] s u := hu ▸ foldl_tripCheck_frame entries front s
  have htrip : tripCheck entries k u = trip k cause u := by
    rw [tripCheck_eq, hu, tripCause_of_fold entries hk, hc]
    rfl
  have hall : tripChecks entries s = back.foldl (fun s k => tripCheck entries k s) (trip k cause u) := by
    rw [← htrip, hu, tripChecks, hsplit, List.foldl_append, List.foldl_cons]
  have hreading : reading u k = reading s k := by
    simp only [reading, sensorOf, hframe.profile, hframe.scan]
  have huradio := radio_of_profile hframe.profile hradio
  rw [hall]
  constructor
  · have hrecent := trip_recent huradio k cause
    rw [hreading, hframe.life] at hrecent
    exact tripChecks_recent entries (radio_of_profile (trip_frame k cause u).profile huradio) hrecent (by omega)
  · intro hfit
    obtain ⟨hfront, -⟩ := hfit.checks entries (ks := front) (by omega)
    rw [← hu] at hfront
    obtain ⟨htripped, ⟨n, hn⟩, -⟩ := hfront.trip (by omega) k cause
    obtain ⟨hback, hkeeps⟩ := htripped.checks entries (ks := back) (by omega)
    rw [show 8 + front.length + 1 + back.length = 16 by omega] at hback
    exact ⟨hback, n, hkeeps _ hn⟩

theorem tripReason_ne_rinseHold (cause : TripCause) : tripReason cause ≠ .rinseHold := by cases cause <;> decide

theorem not_tripped_of_tripsChecked {s : State} {k : Chan} (h : tripsChecked s k = true) (cause : TripCause) :
    s.heat.channels[k].state ≠ .tripped cause := by
  intro he
  rw [tripsChecked, he] at h
  simp [isTripped] at h

/-- Settles O8: each channel is checked once, by its own record and the new reading alone, and what a trip queues and opens
outlasts the checks and duties behind it. -/
theorem sweepTripsHotAndFaultedChannels : Obligations.SweepTripsHotAndFaultedChannels := by
  unfold Obligations.SweepTripsHotAndFaultedChannels
  intro c s h hj hphase
  refine ⟨sweep c s, exec_sweepCompletion h hphase c, fun k => ?_⟩
  obtain ⟨n, hn⟩ : ∃ n, n = convertAll c s.scan := ⟨_, rfl⟩
  obtain ⟨u, hu⟩ : ∃ u, u = tripChecks (faultEntries s.scan n) (s.setScan n) := ⟨_, rfl⟩
  have ht : sweep c s = sweepStock (sweepDish u) := by rw [sweep_joined hj, hu, hn]
  have hdish := sweepDish_frame u
  have hstock := sweepStock_frame (sweepDish u)
  have hchecks := hu ▸ tripChecks_frame (faultEntries s.scan n) (s.setScan n)
  have hscan : (sweep c s).scan = n := by rw [sweep_scan, hn]
  have hprofile : (sweep c s).profile = s.profile := (sweep_frame c s).profile
  have hread : reading (s.setScan n) k = reading (sweep c s) k := by
    simp only [reading, sensorOf, hscan, hprofile]
    rfl
  have hflag : flagged (s.setScan n) k = flagged (sweep c s) k := by
    simp only [flagged, sensorOf, hscan, hprofile]
    rfl
  have hcause := tripCause_sweep s n k
  rw [hread, hflag] at hcause
  have hchan : (sweep c s).heat.channels[k] = (tripCause (faultEntries s.scan n) k (s.setScan n)).elim s.heat.channels[k]
      (fun cause => trippedChannel cause s.heat.channels[k]) := by
    rw [ht, hstock.heat, hdish.heat, hu]
    exact tripChecks_channel _ k _
  have hentry : (flagged s k = true ∨ flagged (sweep c s) k = false) →
      (!flagged s k && flagged (sweep c s) k) = false := by
    rintro (he | he) <;> simp [he]
  refine ⟨fun hoff => ?_, fun hon hold hnew => ?_, fun hon hno hhot => ?_, fun hon hno hcold => ?_,
    fun cause hon htripped hradio => ?_⟩
  · rw [hchan, hcause, hoff]
    rfl
  · rw [hchan, hcause, hon, hold, hnew]
    rfl
  · rw [hchan, hcause, hon, hentry hno, causeOf, if_pos rfl, if_neg Bool.false_ne_true, if_pos hhot]
    rfl
  · rw [hchan, hcause, hon, hentry hno, causeOf, if_pos rfl, if_neg Bool.false_ne_true, if_neg (Int.not_le.2 hcold)]
    rfl
  · have hsome : tripCause (faultEntries s.scan n) k (s.setScan n) = some cause := by
      rw [hchan] at htripped
      cases hc : tripCause (faultEntries s.scan n) k (s.setScan n) with
      | none =>
        rw [hc] at htripped
        exact absurd htripped (not_tripped_of_tripsChecked hon cause)
      | some x =>
        rw [hc] at htripped
        rw [ChanState.tripped.inj htripped]
    obtain ⟨hreport, hcalls⟩ := tripChecks_announces hsome hradio
    rw [← hu] at hreport hcalls
    constructor
    · rw [ht, hstock.port, hdish.port, ← ht, ← hread]
      exact hreport
    · intro hroom hnames
      obtain ⟨hfit, num, hopen⟩ := hcalls ⟨hradio, hroom, List.pairwise_map.2 hnames⟩
      obtain ⟨x, hx, hkey⟩ := List.mem_map.1 hopen
      have hreason : x.reason = tripReason cause := congrArg (fun a => a.2.1) hkey
      refine ⟨x, ?_, congrArg (fun a => a.2.2) hkey, hreason.trans (by cases cause <;> rfl)⟩
      rw [ht, hstock.paging]
      exact sweepDish_keeps hx (by rw [hreason]; exact tripReason_ne_rinseHold cause) 
        ((List.pairwise_map (f := callKey)).1 hfit.names)

end Sys2Proof.Machine
end

section
/-! How holds end (R128, R136 to R138), and what a sweep gives the loads (R126). -/

namespace Sys2Proof.Machine

/-! ## Offers in a row (R49) -/

theorem offer_bus_congr (f : Frame) {s t : State} (hl : t.life = s.life) (hp : t.profile = s.profile)
    (hb : t.bus = s.bus) : (offer f t).bus = (offer f s).bus := by
  have hsend : maySend t = maySend s := by rw [maySend, hl]; rfl
  unfold offer
  rw [hsend, ownId, hp, hb]
  split
  · rfl
  · exact hb

theorem offers_bus_congr (fs : List Frame) {s t : State} (hl : t.life = s.life) (hp : t.profile = s.profile)
    (hb : t.bus = s.bus) :
    (fs.foldl (fun u f => offer f u) t).bus = (fs.foldl (fun u f => offer f u) s).bus := by
  induction fs generalizing s t with
  | nil => exact hb
  | cons f fs ih =>
    exact ih (((offer_frame f t).life.trans hl).trans (offer_frame f s).life.symm)
      (((offer_frame f t).profile.trans hp).trans (offer_frame f s).profile.symm) (offer_bus_congr f hl hp hb)

theorem insertEntry_length (e : TxEntry) (es : List TxEntry) : (insertEntry e es).length = es.length + 1 := by
  induction es with
  | nil => rfl
  | cons x xs ih =>
    unfold insertEntry
    split
    · rfl
    · rw [List.length_cons, ih, List.length_cons]

/-- A frame that replaces none takes a free entry, and every waiting frame stands. -/
theorem offer_enters {f : Frame} {s : State} (hf : replaceable f = false) (hsend : maySend s = true)
    (hroom : occupied s.bus < 8) :
    occupied (offer f s).bus = occupied s.bus + 1 ∧ (∃ e ∈ (offer f s).bus.waiting, e.frame = f) ∧
      ∀ e ∈ s.bus.waiting, e ∈ (offer f s).bus.waiting := by
  have hnone : s.bus.waiting.any (sameWaiting f) = false := by simp [sameWaiting, hf]
  have hbus : (offer f s).bus = { s.bus with
      waiting := insertEntry { frame := f, sender := ownId s, age := s.bus.nextAge, deliver := true } s.bus.waiting
      nextAge := s.bus.nextAge + 1 } := by
    rw [offer, if_pos hsend, accept, hnone, if_neg Bool.false_ne_true, if_pos hroom]
    rfl
  rw [hbus]
  refine ⟨?_, ⟨_, (mem_insertEntry _ _ _).2 (.inl rfl), rfl⟩, fun e he => (mem_insertEntry _ _ _).2 (.inr he)⟩
  simp only [occupied, insertEntry_length]
  omega

/-- Frames that replace none all wait, with a free entry for each. -/
theorem offers_wait {fs : List Frame} (hfs : ∀ f ∈ fs, replaceable f = false) {s : State} (hsend : maySend s = true)
    (hroom : occupied s.bus + fs.length ≤ 8) :
    (∀ e ∈ s.bus.waiting, e ∈ (fs.foldl (fun u f => offer f u) s).bus.waiting) ∧
      ∀ f ∈ fs, ∃ e ∈ (fs.foldl (fun u f => offer f u) s).bus.waiting, e.frame = f := by
  induction fs generalizing s with
  | nil => exact ⟨fun e he => he, fun f hf => absurd hf List.not_mem_nil⟩
  | cons f fs ih =>
    rw [List.length_cons] at hroom
    obtain ⟨hocc, ⟨e, he, hef⟩, hstay⟩ := offer_enters (hfs f List.mem_cons_self) hsend (by omega)
    have hsend' : maySend (offer f s) = true := by rw [maySend, (offer_frame f s).life]; exact hsend
    obtain ⟨hold, hnew⟩ := ih (fun g hg => hfs g (List.mem_cons_of_mem _ hg)) hsend' (by omega)
    refine ⟨fun x hx => hold x (hstay x hx), fun g hg => ?_⟩
    obtain rfl | hg := List.mem_cons.1 hg
    · exact ⟨e, hold e he, hef⟩
    · exact hnew g hg

/-! ## A hold that ends (R137, R138) -/

/-- A hold is removed and its asker told that it ended, CUT (2) or EXPIRED (3). -/
def endHold (cause : Nat) (h : Hold) (s : State) : State :=
  tellAsker h cause 0
    (changeStock { s.stock with holds := s.stock.holds.filter (fun x => decide (x.tag ≠ h.tag)) } s)

theorem endHold_frame (cause : Nat) (h : Hold) (s : State) : SameExcept [.bus, .stock, .waves] s (endHold cause h s) :=
  (tellAsker_frame h cause 0 _).step (changeStock_frame _ s |>.mono (by decide)) (by decide)

theorem endHold_warmers (cause : Nat) (h : Hold) (s : State) : (endHold cause h s).stock.warmers = s.stock.warmers :=
  (congrArg Stock.warmers (tellAsker_frame h cause 0 _).stock).trans rfl

theorem endHold_holds (cause : Nat) (h : Hold) (s : State) :
    (endHold cause h s).stock.holds = s.stock.holds.filter (fun x => decide (x.tag ≠ h.tag)) :=
  (congrArg Stock.holds (tellAsker_frame h cause 0 _).stock).trans rfl

theorem endHold_told {cause : Nat} (hc : cause = 2 ∨ cause = 3) (h : Hold) (s : State) :
    AskerTold h cause 0 s (endHold cause h s) := by
  obtain ⟨u, hu⟩ : ∃ u, u = changeStock
      { s.stock with holds := s.stock.holds.filter (fun x => decide (x.tag ≠ h.tag)) } s := ⟨_, rfl⟩
  have hframe : SameExcept [.stock] s u := hu ▸ changeStock_frame _ s
  obtain ⟨hpeer, hown⟩ := tellAsker_told h cause 0 (by omega) u
  have hend : endHold cause h s = tellAsker h cause 0 u := by rw [hu]; rfl
  rw [hframe.profile] at hpeer hown
  rw [AskerTold, hend]
  refine ⟨fun ha => ?_, fun ha => ?_⟩
  · have hbus := offer_bus_congr (.holdState ⟨h.asker, h.tag, h.wave, h.channel.val, cause, 0⟩)
      hframe.life hframe.profile hframe.bus
    rw [hpeer ha]
    refine ⟨(offer_frame _ u).waves.trans hframe.waves, fun hsend hroom => ?_, hbus⟩
    rw [hbus]
    exact offer_waits _ s hsend hroom
  · obtain ⟨hbus, hothers, hwave⟩ := hown ha
    have hfind : ∀ n, findWave n u = findWave n s := fun n => hframe.findWave (by decide) n
    simp only [hfind] at hothers hwave
    exact ⟨hbus.trans hframe.bus, hothers, hwave⟩

/-! ## Holds that end one behind the other (R138) -/

/-- Every hold of a list is cut to 0, in the list's order. -/
def cutHolds (hs : List Hold) (s : State) : State := hs.foldl (fun u h => endHold 2 h u) s

/-- The HOLD-STATE that tells of a hold cut to 0. -/
def cutNotice (h : Hold) : Frame := .holdState ⟨h.asker, h.tag, h.wave, h.channel.val, 2, 0⟩

theorem cutHolds_cons (h : Hold) (hs : List Hold) (s : State) :
    cutHolds (h :: hs) s = cutHolds hs (endHold 2 h s) := rfl

theorem cutHolds_frame (hs : List Hold) (s : State) : SameExcept [.bus, .stock, .waves] s (cutHolds hs s) := by
  induction hs generalizing s with
  | nil => exact SameExcept.refl _ _
  | cons h hs ih => exact (endHold_frame 2 h s).trans (ih _)

theorem cutHolds_warmers (hs : List Hold) (s : State) : (cutHolds hs s).stock.warmers = s.stock.warmers := by
  induction hs generalizing s with
  | nil => rfl
  | cons h hs ih => exact (ih _).trans (endHold_warmers 2 h s)

theorem cutHolds_holds (hs : List Hold) (s : State) : (cutHolds hs s).stock.holds =
    s.stock.holds.filter (fun x => hs.all (fun h => decide (x.tag ≠ h.tag))) := by
  induction hs generalizing s with
  | nil => exact (List.filter_eq_self.2 fun x _ => rfl).symm
  | cons h hs ih =>
    rw [cutHolds_cons, ih, endHold_holds, List.filter_filter]
    simp only [List.all_cons, Bool.and_comm]

theorem cutHolds_bus (hs : List Hold) (s : State) : (cutHolds hs s).bus =
    (((hs.filter (fun h => decide (h.asker ≠ s.profile.stationId))).map cutNotice).foldl
      (fun u f => offer f u) s).bus := by
  induction hs generalizing s with
  | nil => rfl
  | cons h hs ih =>
    have hframe := endHold_frame 2 h s
    obtain ⟨hpeer, hown⟩ := endHold_told (.inl rfl) h s
    rw [cutHolds_cons, ih, hframe.profile]
    by_cases ha : h.asker = s.profile.stationId
    · rw [List.filter_cons_of_neg (by simpa using ha)]
      exact offers_bus_congr _ hframe.life hframe.profile (hown ha).1
    · rw [List.filter_cons_of_pos (by simpa using ha), List.map_cons, List.foldl_cons]
      have hoff := offer_frame (cutNotice h) s
      exact offers_bus_congr _ (hframe.life.trans hoff.life.symm) (hframe.profile.trans hoff.profile.symm) (hpeer ha).2.2

theorem endHold_findWave_other {h : Hold} {s : State} {n : Nat} (hn : h.asker = s.profile.stationId → h.wave ≠ n) :
    findWave n (endHold 2 h s) = findWave n s := by
  obtain ⟨hpeer, hown⟩ := endHold_told (.inl rfl) h s
  by_cases ha : h.asker = s.profile.stationId
  · exact (hown ha).2.1 n (hn ha).symm
  · rw [findWave, (hpeer ha).1]
    rfl

/-- A wave without a hold among those cut stands. -/
theorem cutHolds_findWave_other {hs : List Hold} {s : State} {n : Nat}
    (hn : ∀ h ∈ hs, h.asker = s.profile.stationId → h.wave ≠ n) : findWave n (cutHolds hs s) = findWave n s := by
  induction hs generalizing s with
  | nil => rfl
  | cons h hs ih =>
    rw [cutHolds_cons, ih, endHold_findWave_other (hn h List.mem_cons_self)]
    rw [(endHold_frame 2 h s).profile]
    exact fun x hx => hn x (List.mem_cons_of_mem _ hx)

/-- This station's wave hears of its hold, whatever the others are told. -/
theorem cutHolds_findWave {hs : List Hold} {s : State}
    (hkeys : hs.Pairwise (fun a b => a.asker = s.profile.stationId → b.asker = s.profile.stationId → a.wave ≠ b.wave))
    {h : Hold} (hh : h ∈ hs) (ha : h.asker = s.profile.stationId) :
    findWave h.wave (cutHolds hs s) =
      (findWave h.wave s).map (afterNotice s.profile.stationId h.channel h.tag 2 0) := by
  induction hs generalizing s with
  | nil => exact absurd hh List.not_mem_nil
  | cons x xs ih =>
    obtain ⟨hx, hxs⟩ := List.pairwise_cons.1 hkeys
    have hprofile := (endHold_frame 2 x s).profile
    rw [cutHolds_cons]
    obtain rfl | hmem := List.mem_cons.1 hh
    · rw [cutHolds_findWave_other fun y hy hya => (hx y hy ha (hprofile ▸ hya)).symm]
      exact ((endHold_told (.inl rfl) h s).2 ha).2.2
    · have hother := endHold_findWave_other (s := s) (n := h.wave) fun hxa => hx h hmem hxa ha
      rw [ih (by rw [hprofile]; exact hxs) hmem (by rw [hprofile]; exact ha), hother, hprofile]

/-- A trim by at least all that is held cuts every hold to 0. -/
theorem trimHolds_all {hs : List Hold} (hcounts : ∀ h ∈ hs, 1 ≤ h.count) {excess : Nat}
    (hsum : (hs.map (fun h => h.count)).sum ≤ excess) (r : Nat × State) :
    trimHolds hs excess r = (r.1 + hs.length, cutHolds hs r.2) := by
  induction hs generalizing excess r with
  | nil => rfl
  | cons h hs ih =>
    have hpos := hcounts h List.mem_cons_self
    rw [List.map_cons, List.sum_cons] at hsum
    have hmin : min h.count excess = h.count := by omega
    have hstep : trimHolds (h :: hs) excess r = trimHolds hs (excess - h.count) (r.1 + 1, endHold 2 h r.2) := by
      rw [trimHolds, hmin, if_neg (by omega), Nat.sub_self]
      rfl
    rw [hstep, ih (fun x hx => hcounts x (List.mem_cons_of_mem _ hx)) (by omega), List.length_cons]
    exact Prod.ext (by simp only; omega) rfl

/-! ## The cooling reset (R128) -/

theorem uncredit_warmer_same (k : Chan) (s : State) :
    (uncredit k s).stock.warmers[k] = { s.stock.warmers[k] with
      loads := s.stock.warmers[k].loads.map (fun l => { l with credit := 0 }), coolingDone := true } :=
  warmer_setWarmer_same k _ s.stock

/-- No load is ready after a cooling reset. -/
theorem readyCount_uncredit {k : Chan} {s : State} (h : 0 < s.profile.warmers[k].warmTime) :
    readyCount s.profile (uncredit k s).stock k = 0 := by
  have hnone : (s.stock.warmers[k].loads.map (fun l => { l with credit := 0 })).filter (loadReady s.profile k) = [] := by
    refine List.filter_eq_nil_iff.2 fun l hl => ?_
    obtain ⟨m, -, rfl⟩ := List.mem_map.1 hl
    have hcredit : ¬ readyCredit s.profile k ≤ 0 := by
      rw [readyCredit]
      omega
    rw [loadReady, decide_eq_true_eq]
    exact hcredit
  rw [readyCount, uncredit_warmer_same, hnone]
  rfl

/-- The holds of the channel, newest first, are all cut. -/
theorem trimChannel_uncredit {k : Chan} {s : State} (hlaw : HoldLaw s.stock.holds)
    (h : 0 < s.profile.warmers[k].warmTime) : trimChannel k (uncredit k s) =
      ((holdsOn s.stock k).length, cutHolds (holdsOn s.stock k).reverse (uncredit k s)) := by
  have hholds : holdsOn (uncredit k s).stock k = holdsOn s.stock k := rfl
  have hprofile : (uncredit k s).profile = s.profile := (uncredit_frame k s).profile
  rw [trimChannel, hprofile, readyCount_uncredit h, heldCount, hholds]
  have hcounts : ∀ x ∈ (holdsOn s.stock k).reverse, 1 ≤ x.count := fun x hx =>
    hlaw.counts x (List.mem_filter.1 (List.mem_reverse.1 hx)).1
  rw [trimHolds_all hcounts (by rw [List.map_reverse, List.sum_reverse, Nat.sub_zero])]
  exact Prod.ext (by simp) rfl

/-- With tags that differ, to cut the holds on a channel leaves the holds on the others. -/
theorem holds_cut_on {hs : List Hold} (htags : hs.Pairwise (fun a b => a.tag ≠ b.tag)) (k : Chan) :
    hs.filter (fun x => (hs.filter (fun h => decide (h.channel = k))).reverse.all (fun h => decide (x.tag ≠ h.tag))) =
      hs.filter (fun x => decide (x.channel ≠ k)) := by
  refine List.filter_congr fun x hx => ?_
  rw [Bool.eq_iff_iff]
  simp only [List.all_eq_true, List.mem_reverse, List.mem_filter, decide_eq_true_eq]
  constructor
  · exact fun h hk => h x ⟨hx, hk⟩ rfl
  · rintro hk y ⟨hy, hyk⟩ htag
    exact hk (eq_of_key_eq htags hx hy htag ▸ hyk)

theorem coolingReset_allCut {k : Chan} {s t : State} (hlaw : HoldLaw s.stock.holds)
    (hbus : t.bus = (cutHolds (holdsOn s.stock k).reverse (uncredit k s)).bus)
    (hwaves : t.waves = (cutHolds (holdsOn s.stock k).reverse (uncredit k s)).waves) : AllCut k s t := by
  have hframe := uncredit_frame k s
  have hmem : ∀ {h}, h ∈ (holdsOn s.stock k).reverse → h ∈ holdsOn s.stock k := fun hh => List.mem_reverse.1 hh
  have hchan : ∀ {h}, h ∈ holdsOn s.stock k → h.channel = k := fun hh => of_decide_eq_true (List.mem_filter.1 hh).2
  have hnotices : ((holdsOn s.stock k).reverse.filter
      (fun h => decide (h.asker ≠ s.profile.stationId))).map cutNotice = cutNotices k s :=
    List.map_congr_left fun h hh => by rw [cutNotice, hchan (hmem (List.mem_filter.1 hh).1)]
  have hall : t.bus = ((cutNotices k s).foldl (fun u f => offer f u) s).bus := by
    rw [hbus, cutHolds_bus, hframe.profile, hnotices]
    exact offers_bus_congr _ hframe.life hframe.profile hframe.bus
  have hfind : ∀ n, findWave n t = findWave n (cutHolds (holdsOn s.stock k).reverse (uncredit k s)) := by
    intro n
    rw [findWave, hwaves]
    rfl
  have hfind' : ∀ n, findWave n (uncredit k s) = findWave n s := fun n => hframe.findWave (by decide) n
  refine ⟨hall, fun hsend hroom => ?_, fun h hh ha => ?_, fun n hn => ?_⟩
  · rw [hall]
    refine (offers_wait (fun f hf => ?_) hsend hroom).2
    obtain ⟨h, -, rfl⟩ := List.mem_map.1 hf
    rfl
  · have hkeys : (holdsOn s.stock k).reverse.Pairwise (fun a b => a.asker = (uncredit k s).profile.stationId →
        b.asker = (uncredit k s).profile.stationId → a.wave ≠ b.wave) := by
      refine List.pairwise_reverse.2 ((hlaw.keys.filter _).imp_of_mem fun {a b} ha hb hne hb' ha' hw => ?_)
      exact hne ⟨ha'.trans hb'.symm, hw.symm, (hchan ha).trans (hchan hb).symm⟩
    rw [hfind, cutHolds_findWave hkeys (List.mem_reverse.2 hh) (by rw [hframe.profile]; exact ha), hfind',
      hframe.profile, hchan hh]
  · rw [hfind, cutHolds_findWave_other (s := uncredit k s), hfind']
    rw [hframe.profile]
    exact fun h hh => hn h (hmem hh)

/-! ## The sweep at a warmer (R126, R128) -/

/-- What the plate stock unit keeps for channel `k` after a sweep (R126, R128). -/
def warmerAfterSweep (k : Chan) (s : State) : Warmer :=
  if s.profile.channels[k].kind = .warmer then
    coolStep (isCold s k)
      (if isWarm s k then { s.stock.warmers[k] with
        loads := s.stock.warmers[k].loads.map (addCredit (readyCredit s.profile k)) } else s.stock.warmers[k])
  else s.stock.warmers[k]

/-- What the plate stock unit keeps for channel `k`. -/
def warmerAt (k : Chan) (s : State) : Warmer := s.stock.warmers[k]

theorem sweepWarmer_same (s : State) (k : Chan) : warmerAt k (sweepWarmer k s) = warmerAfterSweep k s := by
  unfold sweepWarmer warmerAfterSweep
  split
  · exact warmer_setWarmer_same k _ s.stock
  · rfl

theorem sweepWarmer_other (s : State) (j k : Chan) (h : j ≠ k) : warmerAt j (sweepWarmer k s) = warmerAt j s := by
  unfold sweepWarmer
  split
  · exact warmer_setWarmer_other h _ s.stock
  · rfl

theorem sweepWarmer_holds (k : Chan) (s : State) : (sweepWarmer k s).stock.holds = s.stock.holds := by
  unfold sweepWarmer
  split <;> rfl

theorem isCold_congr {s t : State} (hp : t.profile = s.profile) (hs : t.scan = s.scan) (hh : t.heat = s.heat) (k : Chan) :
    isCold t k = isCold s k := by
  have hreading : reading t k = reading s k := by simp only [reading, sensorOf, hp, hs]
  have hflagged : flagged t k = flagged s k := by simp only [flagged, sensorOf, hp, hs]
  rw [isCold, isCold, hreading, hflagged, hp, hh]

theorem warmerAfterSweep_congr {s t : State} (hp : t.profile = s.profile) (hs : t.scan = s.scan) (hh : t.heat = s.heat)
    {k : Chan} (hw : warmerAt k t = warmerAt k s) : warmerAfterSweep k t = warmerAfterSweep k s := by
  unfold warmerAt at hw
  rw [warmerAfterSweep, warmerAfterSweep, isWarm, isWarm, isCold_congr hp hs hh, hp, hw]

theorem sweepStock_warmer (k : Chan) (s : State) : (sweepStock s).stock.warmers[k] = warmerAfterSweep k s := by
  have hfold := foldl_cell (f := fun s k => sweepWarmer k s) (cell := warmerAt) (next := warmerAfterSweep)
    sweepWarmer_same sweepWarmer_other (fun s j k h => warmerAfterSweep_congr (sweepWarmer_frame k s).profile
      (sweepWarmer_frame k s).scan (sweepWarmer_frame k s).heat (sweepWarmer_other s j k h))
    (List.nodup_finRange 8) s k
  rw [if_pos (List.mem_finRange k)] at hfold
  unfold sweepStock
  exact hfold

theorem sweepStock_holds (s : State) : (sweepStock s).stock.holds = s.stock.holds := by
  unfold sweepStock
  induction List.finRange 8 generalizing s with
  | nil => rfl
  | cons k ks ih => exact (ih _).trans (sweepWarmer_holds k s)

/-- The dish line's duties at a sweep leave loads and holds alone. -/
theorem sweepDish_stock (s : State) : (sweepDish s).stock.warmers = s.stock.warmers ∧
    (sweepDish s).stock.holds = s.stock.holds := by
  unfold sweepDish
  split
  · next tank booster _ _ =>
    have hkeeps := (judgeRinse_frame (reading s booster) (flagged s booster) (sampleRacks (reading s tank)
      (reading s booster) (flagged s tank) (flagged s booster) s)).stock.trans (sampleRacks_frame _ _ _ _ s).stock
    unfold doWhen
    split
    · rw [dishEvent_published (s := s) hkeeps]
      exact ⟨rfl, rfl⟩
    · exact ⟨rfl, rfl⟩
  · exact ⟨rfl, rfl⟩

/-- A sweep at a warmer that is cold or not. -/
theorem warmerAfterSweep_of_warmer {k : Chan} {s : State} (hk : s.profile.channels[k].kind = .warmer) {cold : Bool}
    (hc : isCold s k = cold) : warmerAfterSweep k s = { s.stock.warmers[k] with
      loads := if cold = false ∧ s.stock.warmers[k].doorOpen = false
        then s.stock.warmers[k].loads.map (fun l => { l with
          credit := min (s.profile.warmers[k].warmTime * 1000) (l.credit + 250) })
        else s.stock.warmers[k].loads
      cooling := if cold = true then min 120000 (s.stock.warmers[k].cooling + 250) else 0
      coolingDone := cold && s.stock.warmers[k].coolingDone } := by
  rw [warmerAfterSweep, if_pos hk, isWarm, hc]
  generalize s.stock.warmers[k] = w
  obtain ⟨loads, doorOpen, cooling, coolingDone, nextLoad⟩ := w
  cases cold
  · cases doorOpen <;> rfl
  · rfl

/-! ## HOLD-FREE (R136) -/

theorem execHoldFree_eq {s : State} {sender : Nat} {b : HoldFreeBody} (h : awake s = true) (hsend : maySend s = true)
    (htarget : b.target = s.profile.stationId) (hlow : 1 ≤ sender) (hhigh : sender ≤ 30)
    (hother : sender ≠ s.profile.stationId) :
    exec (.holdFree sender b) s = .next (freeHold sender b.tag b.wave b.channel (driveSlot true s)) := by
  have hjoined : joined s ≠ false := by
    intro hj
    rw [maySend] at hsend
    cases hst : s.life.station <;> simp_all [joined]
  have hbad : badSender sender ≠ true := by
    rw [badSender, ne_eq, Bool.or_eq_true, decide_eq_true_eq, decide_eq_true_eq]
    omega
  have hexec : exec (.holdFree sender b) s = receiveWorking sender 8
      (addressed b.target (freeHold sender b.tag b.wave b.channel)) s := rfl
  rw [hexec, receiveWorking, event_of_awake h, receive, if_neg hjoined, if_neg hbad, ownId, if_neg hother, hsend, doWhen_true,
    addressed, decide_eq_true (htarget.trans rfl : b.target = ownId (driveSlot true s)), doWhen_true]

/-! ## The obligation -/

theorem coolingDue_of {k : Chan} {s : State} (hk : s.profile.channels[k].kind = .warmer)
    (hcool : 120000 ≤ s.stock.warmers[k].cooling) (hdone : s.stock.warmers[k].coolingDone = false) :
    coolingDue k s = true := by
  rw [coolingDue, decide_eq_true hk, hdone, decide_eq_true (show Config.coolingMs ≤ _ from hcool)]
  rfl

theorem expireHold_eq {h : Hold} {s : State} (hh : h ∈ s.stock.holds)
    (htags : s.stock.holds.Pairwise (fun a b => a.tag ≠ b.tag)) : expireHold h.tag s = endHold 3 h s := by
  unfold expireHold
  cases hf : s.stock.holds.find? (fun x => decide (x.tag = h.tag)) with
  | none => exact absurd (List.find?_eq_none.1 hf h hh) (by simp)
  | some x =>
    have htag := List.find?_some hf
    rw [eq_of_key_eq htags (List.mem_of_find?_eq_some hf) hh (of_decide_eq_true htag)]
    rfl

/-- Settles O26: a cooling reset leaves no plate ready, so that the trim cuts every hold of the channel to 0. -/
theorem holdsEndByCoolingFreeOrExpiry : Obligations.HoldsEndByCoolingFreeOrExpiry := by
  unfold Obligations.HoldsEndByCoolingFreeOrExpiry
  intro s h
  refine ⟨fun c hj hphase => ?_, fun k hk hcool hdone hlaw hwarm => ?_,
    fun sender b hsend htarget hlow hhigh hother => ?_, fun x hx hover htags => ?_⟩
  · obtain ⟨u, hu⟩ : ∃ u, u = tripChecks (faultEntries s.scan (convertAll c s.scan)) (s.setScan (convertAll c s.scan)) :=
      ⟨_, rfl⟩
    have ht : sweep c s = sweepStock (sweepDish u) := by rw [sweep_joined hj, hu]
    have hframe := sweepStock_frame (sweepDish u)
    have hustock : u.stock = s.stock := by rw [hu]; exact (tripChecks_frame _ _).stock
    obtain ⟨hwarmers, hholds⟩ := sweepDish_stock u
    rw [hustock] at hwarmers hholds
    have hprofile : (sweepDish u).profile = s.profile := by
      rw [(sweepDish_frame u).profile, hu]
      exact (tripChecks_frame _ _).profile
    refine ⟨sweep c s, exec_sweepCompletion h hphase c, ?_, fun k => ⟨fun hk => ?_, fun hk cold hcold => ?_⟩⟩
    · rw [ht, sweepStock_holds, hholds]
    · rw [ht, sweepStock_warmer, warmerAfterSweep, if_neg (by rw [hprofile]; exact hk), hwarmers]
    · have hiff : isCold (sweep c s) k = cold := by
        rw [Bool.eq_iff_iff, hcold, isCold, Bool.or_eq_true, Bool.or_eq_true, decide_eq_true_eq,
          (sweep_frame c s).profile, or_assoc]
      rw [ht, isCold_congr hframe.profile hframe.scan hframe.heat] at hiff
      rw [ht, sweepStock_warmer, warmerAfterSweep_of_warmer (by rw [hprofile]; exact hk) hiff, hprofile, hwarmers]
  · obtain ⟨v, hv⟩ : ∃ v, v = cutHolds (holdsOn s.stock k).reverse (uncredit k s) := ⟨_, rfl⟩
    have hstate : coolingReset k s = doWhen (decide (0 < s.stock.warmers[k].loads.length))
        (pushReport (.cooled k s.stock.warmers[k].loads.length (readyCount s.profile s.stock k)
          (holdsOn s.stock k).length)) v := by
      rw [hv, coolingReset, trimChannel_uncredit hlaw hwarm]
    have hframe : SameExcept [.port] v (coolingReset k s) := by
      rw [hstate]
      exact doWhen_frame _ _ (pushReport_frame _ v)
    have hstock : (coolingReset k s).stock.warmers = (uncredit k s).stock.warmers := by
      rw [hframe.stock, hv, cutHolds_warmers]
    refine ⟨coolingReset k s, expiry_of_due h (coolingDue_of hk hcool hdone) _, coolingReset_frame k s, ?_, ?_,
      fun j hj => ?_, ?_, coolingReset_allCut hlaw (hframe.bus.trans (by rw [hv])) (hframe.waves.trans (by rw [hv])),
      fun hloads => ?_⟩
    · rw [hstock, uncredit_warmer_same]
    · rw [hstock, uncredit_warmer_same]
    · rw [hstock]
      exact warmer_setWarmer_other hj _ s.stock
    · rw [hframe.stock, hv, cutHolds_holds]
      exact holds_cut_on hlaw.tags k
    · rw [hstate, decide_eq_true (List.length_pos_iff.2 hloads), doWhen_true, pushReport_getLast, hv,
        (cutHolds_frame _ _).life]
      rfl
  · refine ⟨_, execHoldFree_eq h hsend htarget hlow hhigh hother,
      (freeHold_frame _ _ _ _ _).step (driveSlot_frame true s |>.mono (by decide)) (by decide), rfl, rfl, ?_⟩
    refine List.filter_congr fun x _ => ?_
    simp only [freeMatches, ← Bool.decide_and, ← decide_not, and_assoc]
  · have hdue : holdOver x.tag s = true := List.any_eq_true.2 ⟨x, hx, by simp [hover]⟩
    refine ⟨endHold 3 x s, ?_, endHold_frame 3 x s, endHold_warmers 3 x s, endHold_holds 3 x s,
      endHold_told (.inr rfl) x s⟩
    rw [← expireHold_eq hx htags]
    exact expiry_of_due h hdue _

end Sys2Proof.Machine
end

section
/-! The checks of JOIN (R89). -/

namespace Sys2Proof.Machine

/-! ## The lowest index with a property -/

theorem find_finRange_none {n : Nat} {q : Fin n → Bool} :
    (List.finRange n).find? q = none ↔ ∀ i, q i = false := by
  simp [List.find?_eq_none]

/-- A search through the indices in order finds the lowest. -/
theorem find_finRange_lowest {n : Nat} {q : Fin n → Bool} {i : Fin n} (h : Lowest (fun i => q i = true) i) :
    (List.finRange n).find? q = some i := by
  obtain ⟨hi, hlow⟩ := h
  cases hf : (List.finRange n).find? q with
  | none => exact absurd hi (ne_true_of_eq_false (find_finRange_none.1 hf i))
  | some j =>
    obtain ⟨hj, front, back, hsplit, hfront⟩ := List.find?_eq_some_iff_append.1 hf
    have hmem : i ∈ front ++ j :: back := hsplit ▸ List.mem_finRange i
    have hsorted : (front ++ j :: back).Pairwise (· < ·) := hsplit ▸ List.pairwise_lt_finRange n
    obtain hin | hin := List.mem_append.1 hmem
    · have := hfront i hin
      simp [hi] at this
    · obtain rfl | hback := List.mem_cons.1 hin
      · rfl
      · exact absurd hj (hlow j ((List.pairwise_cons.1 (List.pairwise_append.1 hsorted).2.1).1 i hback))

theorem Lowest.congr {n : Nat} {q r : Fin n → Prop} {i : Fin n} (h : Lowest q i) (hqr : ∀ j, q j ↔ r j) : Lowest r i :=
  ⟨(hqr i).1 h.1, fun j hj hr => h.2 j hj ((hqr j).2 hr)⟩

/-! ## Checks 2 to 5: the dish line -/

theorem mem_channelsOf {p : Profile} {kind : Kind} {i : Chan} : i ∈ channelsOf p kind ↔ p.channels[i].kind = kind := by
  simp [channelsOf]

theorem channelsOf_sorted (p : Profile) (kind : Kind) : (channelsOf p kind).Pairwise (· < ·) :=
  (List.pairwise_lt_finRange 8).filter _

/-- In a rising list all but the first have a member below them. -/
theorem mem_drop_one_iff {xs : List Chan} (h : xs.Pairwise (· < ·)) {i : Chan} :
    i ∈ xs.drop 1 ↔ i ∈ xs ∧ ∃ j ∈ xs, j < i := by
  cases xs with
  | nil => simp
  | cons x xs =>
    obtain ⟨hx, -⟩ := List.pairwise_cons.1 h
    constructor
    · exact fun hi => ⟨List.mem_cons_of_mem _ hi, x, List.mem_cons_self, hx i hi⟩
    · rintro ⟨hi, j, hj, hji⟩
      obtain rfl | hi := List.mem_cons.1 hi
      · obtain rfl | hj := List.mem_cons.1 hj
        · exact absurd hji (lt_irrefl _)
        · exact absurd hji (lt_asymm (hx j hj))
      · exact hi

/-- The test of check 2 on one channel. -/
def isSecond (p : Profile) (i : Chan) : Bool :=
  ((channelsOf p .booster).drop 1).contains i || ((channelsOf p .tank).drop 1).contains i

theorem isSecond_iff {p : Profile} {i : Chan} : isSecond p i = true ↔ SecondOfKind p i := by
  simp only [isSecond, Bool.or_eq_true, List.contains_iff_mem, mem_drop_one_iff (channelsOf_sorted p _), mem_channelsOf,
    SecondOfKind, OfDishKind]
  constructor
  · rintro (⟨hi, j, hj, hlt⟩ | ⟨hi, j, hj, hlt⟩)
    · exact ⟨.inl hi, j, hlt, hj.trans hi.symm⟩
    · exact ⟨.inr hi, j, hlt, hj.trans hi.symm⟩
  · rintro ⟨hi | hi, j, hlt, hj⟩
    · exact .inl ⟨hi, j, hj.trans hi, hlt⟩
    · exact .inr ⟨hi, j, hj.trans hi, hlt⟩

theorem secondChannel_none_iff {p : Profile} :
    secondChannel p = none ↔ (channelsOf p .booster).length ≤ 1 ∧ (channelsOf p .tank).length ≤ 1 := by
  have hempty : ∀ xs : List Chan, xs.length ≤ 1 ↔ ∀ i, i ∉ xs.drop 1 := fun xs => by
    rw [← List.drop_eq_nil_iff, List.eq_nil_iff_forall_not_mem]
  rw [hempty, hempty, ← forall_and]
  refine find_finRange_none.trans (forall_congr' fun i => ?_)
  rw [Bool.or_eq_false_iff, Bool.eq_false_iff, Bool.eq_false_iff, Ne, Ne, List.contains_iff_mem, List.contains_iff_mem]

theorem secondChannel_of_none {p : Profile} (h : ∀ k, ¬ SecondOfKind p k) : secondChannel p = none :=
  find_finRange_none.2 fun k => Bool.eq_false_iff.2 (mt isSecond_iff.1 (h k))

theorem secondChannel_of_lowest {p : Profile} {k : Chan} (h : Lowest (SecondOfKind p) k) : secondChannel p = some k :=
  find_finRange_lowest (q := isSecond p) (h.congr fun _ => isSecond_iff.symm)

theorem dishChannel_of_lowest {p : Profile} {k : Chan} (h : Lowest (OfDishKind p) k) : dishChannel p = some k :=
  find_finRange_lowest (h.congr fun _ => by simp [OfDishKind])

theorem dishChannel_none_iff {p : Profile} :
    dishChannel p = none ↔ channelsOf p .booster = [] ∧ channelsOf p .tank = [] := by
  rw [List.eq_nil_iff_forall_not_mem, List.eq_nil_iff_forall_not_mem, ← forall_and]
  refine find_finRange_none.trans (forall_congr' fun i => ?_)
  simp [mem_channelsOf]

theorem edgeOutOfOrder_none_iff {p : DishProfile} :
    edgeOutOfOrder p = none ↔ p.a < p.b ∧ p.b ≤ p.c ∧ p.c < p.d ∧ p.d < p.e := by
  unfold edgeOutOfOrder
  split_ifs <;> simp <;> omega

theorem dishChecks_none_iff {p : Profile} :
    dishChecks p = none ↔ (channelsOf p .booster).length = 1 ∧ (channelsOf p .tank).length = 1 ∧
      p.dish.a < p.dish.b ∧ p.dish.b ≤ p.dish.c ∧ p.dish.c < p.dish.d ∧ p.dish.d < p.dish.e := by
  rw [← edgeOutOfOrder_none_iff]
  unfold dishChecks
  cases hs : secondChannel p with
  | some k =>
    have hmany := mt secondChannel_none_iff.2 (by rw [hs]; exact Option.some_ne_none k)
    simp only [reduceCtorEq, false_iff]
    omega
  | none =>
    obtain ⟨hb, ht⟩ := secondChannel_none_iff.1 hs
    have hmissing : channelsOf p .booster = [] ∨ channelsOf p .tank = [] ↔
        (channelsOf p .booster).length = 0 ∨ (channelsOf p .tank).length = 0 := by
      rw [List.length_eq_zero_iff, List.length_eq_zero_iff]
    dsimp only
    split_ifs with h
    · rw [hmissing] at h
      simp only [false_iff]
      omega
    · rw [hmissing] at h
      rw [Option.map_eq_none_iff]
      have hone : (channelsOf p .booster).length = 1 ∧ (channelsOf p .tank).length = 1 := by omega
      simp [hone]

/-- Checks 2 to 5 (R89). -/
def lineChecks (p : Profile) : Option (Nat × Nat) :=
  if p.dish.enable then dishChecks p else (dishChannel p).map (fun k => (4, k.val))

theorem lineChecks_none_iff {p : Profile} : lineChecks p = none ↔ DishStands p := by
  unfold lineChecks DishStands
  cases p.dish.enable
  · simp [dishChannel_none_iff]
  · simp [dishChecks_none_iff]

/-! ## Checks 6 and 7: the roster -/

/-- The test of check 6 on one roster entry. -/
theorem isGroupless_iff {p : Profile} {i : Fin 32} :
    (decide (p.roster[i].address ≠ 0) && p.roster[i].group.isNone) = true ↔ Groupless p i := by
  simp [Groupless]

theorem groupless_none_iff {p : Profile} : groupless p = none ↔ ∀ i, ¬ Groupless p i :=
  find_finRange_none.trans (forall_congr' fun _ => Bool.eq_false_iff.trans (not_congr isGroupless_iff))

theorem groupless_of_lowest {p : Profile} {i : Fin 32} (h : Lowest (Groupless p) i) : groupless p = some i :=
  find_finRange_lowest (h.congr fun _ => isGroupless_iff.symm)

/-- The test of check 7 on one roster entry. -/
theorem sharesAddress_iff {p : Profile} {i : Fin 32} : (decide (p.roster[i].address ≠ 0) &&
    (List.finRange 32).any (fun j => decide (j < i) && decide (p.roster[j].address = p.roster[i].address))) = true ↔
      SharesAddress p i := by
  simp [SharesAddress]

theorem sharedAddress_none_iff {p : Profile} : sharedAddress p = none ↔ ∀ i, ¬ SharesAddress p i :=
  find_finRange_none.trans (forall_congr' fun _ => Bool.eq_false_iff.trans (not_congr sharesAddress_iff))

theorem sharedAddress_of_lowest {p : Profile} {i : Fin 32} (h : Lowest (SharesAddress p) i) : sharedAddress p = some i :=
  find_finRange_lowest (h.congr fun _ => sharesAddress_iff.symm)

theorem no_sharesAddress_iff {p : Profile} : (∀ i, ¬ SharesAddress p i) ↔
    ∀ i j : Fin 32, i ≠ j → p.roster[i].address ≠ 0 → p.roster[i].address ≠ p.roster[j].address := by
  constructor
  · intro h i j hij hi he
    obtain hlt | hlt := lt_or_gt_of_ne hij
    · exact h j ⟨he ▸ hi, i, hlt, he⟩
    · exact h i ⟨hi, j, hlt, he.symm⟩
  · rintro h i ⟨hi, j, hlt, he⟩
    exact h i j (ne_of_gt hlt) hi he.symm

theorem rosterChecks_none_iff {p : Profile} : rosterChecks p = none ↔
    (∀ i : Fin 32, p.roster[i].address ≠ 0 → p.roster[i].group ≠ none) ∧
      ∀ i j : Fin 32, i ≠ j → p.roster[i].address ≠ 0 → p.roster[i].address ≠ p.roster[j].address := by
  have hgroups : (∀ i : Fin 32, p.roster[i].address ≠ 0 → p.roster[i].group ≠ none) ↔ groupless p = none := by
    rw [groupless_none_iff]
    exact forall_congr' fun i => by rw [Groupless, not_and]
  rw [hgroups, ← no_sharesAddress_iff, ← sharedAddress_none_iff]
  unfold rosterChecks
  cases groupless p <;> simp

/-! ## The checks in their order -/

theorem joinCheck_of_bad_id {p : Profile} (h : p.stationId = 0 ∨ 30 < p.stationId) : joinCheck p = some (1, 0) := if_pos h

theorem joinCheck_of_good_id {p : Profile} (hlow : 1 ≤ p.stationId) (hhigh : p.stationId ≤ 30) :
    joinCheck p = (lineChecks p).elim (if p.radio then rosterChecks p else none) some := by
  unfold joinCheck lineChecks
  rw [if_neg (by omega)]
  cases (if p.dish.enable = true then dishChecks p else (dishChannel p).map (fun k => (4, k.val))) <;> rfl

theorem joinCheck_of_line {p : Profile} (hlow : 1 ≤ p.stationId) (hhigh : p.stationId ≤ 30) {x : Nat × Nat}
    (h : lineChecks p = some x) : joinCheck p = some x := by
  rw [joinCheck_of_good_id hlow hhigh, h]
  rfl

theorem joinCheck_of_roster {p : Profile} (hlow : 1 ≤ p.stationId) (hhigh : p.stationId ≤ 30) (hdish : DishStands p)
    (hradio : p.radio = true) : joinCheck p = rosterChecks p := by
  rw [joinCheck_of_good_id hlow hhigh, lineChecks_none_iff.2 hdish, Option.elim_none, if_pos hradio]

theorem joinCheck_none_iff {p : Profile} : joinCheck p = none ↔ (1 ≤ p.stationId ∧ p.stationId ≤ 30) ∧ DishStands p ∧
    (p.radio = true → (∀ i : Fin 32, p.roster[i].address ≠ 0 → p.roster[i].group ≠ none) ∧
      ∀ i j : Fin 32, i ≠ j → p.roster[i].address ≠ 0 → p.roster[i].address ≠ p.roster[j].address) := by
  by_cases hid : 1 ≤ p.stationId ∧ p.stationId ≤ 30
  · rw [joinCheck_of_good_id hid.1 hid.2, ← lineChecks_none_iff, ← rosterChecks_none_iff]
    cases lineChecks p <;> cases p.radio <;> simp [hid]
  · rw [joinCheck_of_bad_id (by omega)]
    simp [hid]

theorem dishChecks_of_edges {p : Profile} (hb : (channelsOf p .booster).length = 1)
    (ht : (channelsOf p .tank).length = 1) : dishChecks p = (edgeOutOfOrder p.dish).map (fun e => (17, e)) := by
  have hpresent : ¬ (channelsOf p .booster = [] ∨ channelsOf p .tank = []) := by
    rw [← List.length_eq_zero_iff, ← List.length_eq_zero_iff]
    omega
  rw [dishChecks, secondChannel_none_iff.2 ⟨hb.le, ht.le⟩]
  exact if_neg hpresent

section
variable {p : Profile} (hlow : 1 ≤ p.stationId) (hhigh : p.stationId ≤ 30)
include hlow hhigh

theorem joinCheck_of_second (hon : p.dish.enable = true) {k : Chan} (hk : Lowest (SecondOfKind p) k) :
    joinCheck p = some (4, k.val) :=
  joinCheck_of_line hlow hhigh (by rw [lineChecks, if_pos hon, dishChecks, secondChannel_of_lowest hk])

theorem joinCheck_of_missing (hon : p.dish.enable = true) (hnone : ∀ k, ¬ SecondOfKind p k)
    (hmissing : channelsOf p .booster = [] ∨ channelsOf p .tank = []) : joinCheck p = some (16, 0) := by
  refine joinCheck_of_line hlow hhigh ?_
  rw [lineChecks, if_pos hon, dishChecks, secondChannel_of_none hnone]
  exact if_pos hmissing

theorem joinCheck_of_edge (hon : p.dish.enable = true) (hb : (channelsOf p .booster).length = 1)
    (ht : (channelsOf p .tank).length = 1) {e : Nat} (he : edgeOutOfOrder p.dish = some e) :
    joinCheck p = some (17, e) :=
  joinCheck_of_line hlow hhigh (by rw [lineChecks, if_pos hon, dishChecks_of_edges hb ht, he]; rfl)

theorem joinCheck_of_dishKind (hoff : p.dish.enable = false) {k : Chan} (hk : Lowest (OfDishKind p) k) :
    joinCheck p = some (4, k.val) :=
  joinCheck_of_line hlow hhigh (by rw [lineChecks, hoff, if_neg Bool.false_ne_true, dishChannel_of_lowest hk]; rfl)

theorem joinCheck_of_groupless (hdish : DishStands p) (hradio : p.radio = true) {i : Fin 32}
    (hi : Lowest (Groupless p) i) : joinCheck p = some (32, i.val) := by
  rw [joinCheck_of_roster hlow hhigh hdish hradio, rosterChecks, groupless_of_lowest hi]

theorem joinCheck_of_shared (hdish : DishStands p) (hradio : p.radio = true) (hnone : ∀ i, ¬ Groupless p i) {i : Fin 32}
    (hi : Lowest (SharesAddress p) i) : joinCheck p = some (31, i.val) := by
  rw [joinCheck_of_roster hlow hhigh hdish hradio, rosterChecks, groupless_none_iff.2 hnone, sharedAddress_of_lowest hi]
  rfl

end

theorem edgeOutOfOrder_one {p : DishProfile} (h : p.b ≤ p.a) : edgeOutOfOrder p = some 1 := if_pos h

theorem edgeOutOfOrder_two {p : DishProfile} (hab : p.a < p.b) (h : p.c < p.b) : edgeOutOfOrder p = some 2 := by
  rw [edgeOutOfOrder, if_neg (by omega), if_pos h]

theorem edgeOutOfOrder_three {p : DishProfile} (hab : p.a < p.b) (hbc : p.b ≤ p.c) (h : p.d ≤ p.c) :
    edgeOutOfOrder p = some 3 := by
  rw [edgeOutOfOrder, if_neg (by omega), if_neg (by omega), if_pos h]

theorem edgeOutOfOrder_four {p : DishProfile} (hab : p.a < p.b) (hbc : p.b ≤ p.c) (hcd : p.c < p.d) (h : p.e ≤ p.d) :
    edgeOutOfOrder p = some 4 := by
  rw [edgeOutOfOrder, if_neg (by omega), if_neg (by omega), if_neg (by omega), if_pos h]

end Sys2Proof.Machine
end

section
/-! What JOIN begins with (R8, R9, R38, R89, R90). -/

namespace Sys2Proof.Machine

/-! ## Folds over the lines and channels -/

theorem foldl_keeps {ι α : Type} {f : State → ι → State} {cell : State → α} (h : ∀ s i, cell (f s i) = cell s)
    (is : List ι) (s : State) : cell (is.foldl f s) = cell s := by
  induction is generalizing s with
  | nil => rfl
  | cons i is ih => exact (ih _).trans (h s i)

/-- A fold in which at most one place sets a flag of a cell. -/
theorem foldl_set {ι α : Type} {f : State → ι → State} {cell : State → α} {set : Bool → α → α} {hit val : ι → Bool}
    (hstep : ∀ s i, cell (f s i) = if hit i then set (val i) (cell s) else cell s)
    (hset : ∀ b c x, set b (set c x) = set b x) (hone : ∀ i j, hit i = true → hit j = true → i = j) (is : List ι)
    (s : State) : cell (is.foldl f s) =
      if is.any hit then set (is.any (fun i => hit i && val i)) (cell s) else cell s := by
  induction is generalizing s with
  | nil => rfl
  | cons i is ih =>
    rw [List.foldl_cons, ih, hstep, List.any_cons, List.any_cons]
    cases hi : hit i with
    | false => rfl
    | true =>
      have hlater : is.any (fun j => hit j && val j) = (is.any hit && val i) := by
        rw [Bool.eq_iff_iff, Bool.and_eq_true, List.any_eq_true, List.any_eq_true]
        constructor
        · rintro ⟨j, hj, hjv⟩
          obtain ⟨hjh, hjv⟩ := Bool.and_eq_true_iff.1 hjv
          exact ⟨⟨j, hj, hjh⟩, hone i j hi hjh ▸ hjv⟩
        · rintro ⟨⟨j, hj, hjh⟩, hv⟩
          exact ⟨j, hj, Bool.and_eq_true_iff.2 ⟨hjh, hone i j hi hjh ▸ hv⟩⟩
      rw [hlater]
      cases is.any hit
      · simp
      · simp [hset]

/-! ## The initial states of the lines (R8, R9) -/

theorem resolvedUse_inj {p : Profile} {l m : LineNo} {u : LineUse} (hu : u ≠ .unused) (hl : resolvedUse p l = u)
    (hm : resolvedUse p m = u) : l = m := by
  have hfirst : ∀ {l}, resolvedUse p l = u → p.lines[l].use = u ∧ ∀ j, j < l → p.lines[j].use ≠ u := by
    intro l h
    unfold resolvedUse at h
    dsimp only at h
    split at h
    · next hc =>
      simp only [Bool.and_eq_true, List.all_eq_true, List.mem_finRange, Bool.not_eq_true', Bool.and_eq_false_iff,
        decide_eq_false_iff_not, forall_const] at hc
      refine ⟨h, fun j hj he => ?_⟩
      obtain hn | hn := hc.2 j
      · exact hn hj
      · exact hn (he.trans h.symm)
    · exact absurd h.symm hu
  obtain ⟨hlu, hlfirst⟩ := hfirst hl
  obtain ⟨hmu, hmfirst⟩ := hfirst hm
  obtain h | h | h := lt_trichotomy l m
  · exact absurd hlu (hmfirst l h)
  · exact h
  · exact absurd hmu (hlfirst m h)

/-- A use that a line is resolved to fits the profile. -/
theorem useFits_resolvedUse (p : Profile) (l : LineNo) : useFits p (resolvedUse p l) = true := by
  unfold resolvedUse
  dsimp only
  split
  · next hc => exact (Bool.and_eq_true_iff.1 hc).1
  · rfl

/-- A line's initial state, by its use and level in `s`. -/
def lineInitially (s t : State) (l : LineNo) : State := initialLine (resolvedUse s.profile l) (lineActive s l) t

theorem initialLines_eq (s : State) : initialLines s = (List.finRange 6).foldl (lineInitially s) s := by
  have hgen : ∀ (ls : List LineNo) (t : State), t.profile = s.profile → t.lines = s.lines →
      ls.foldl (fun s l => initialLine (resolvedUse s.profile l) (lineActive s l) s) t = ls.foldl (lineInitially s) t := by
    intro ls
    induction ls with
    | nil => exact fun _ _ _ => rfl
    | cons l ls ih =>
      intro t hp hl
      have hstep : initialLine (resolvedUse t.profile l) (lineActive t l) t = lineInitially s t l := by
        rw [lineInitially, lineActive, lineActive, hp, hl]
      have hframe := initialLine_frame (resolvedUse s.profile l) (lineActive s l) t
      rw [List.foldl_cons, List.foldl_cons, hstep]
      exact ih _ (hframe.profile.trans hp) (hframe.lines.trans hl)
  exact hgen _ s rfl rfl

/-- The heat channel block beside its channels. -/
def heatRest (s : State) : PeriodClock × Nat × List Chan × Bool :=
  (s.heat.window, s.heat.grant, s.heat.order, s.heat.overdrawn)

/-- The plate stock unit beside its warmers. -/
def stockRest (s : State) : List Hold × PeriodClock × Bool × Nat :=
  (s.stock.holds, s.stock.tick, s.stock.changed, s.stock.clean)

theorem initialLine_heatRest (u : LineUse) (on : Bool) (s : State) : heatRest (initialLine u on s) = heatRest s := by
  cases u <;> rfl

theorem initialLine_stockRest (u : LineUse) (on : Bool) (s : State) : stockRest (initialLine u on s) = stockRest s := by
  cases u <;> rfl

theorem initialLines_heatRest (s : State) : heatRest (initialLines s) = heatRest s := by
  rw [initialLines_eq]
  exact foldl_keeps (fun t _ => initialLine_heatRest _ _ t) _ s

theorem initialLines_stockRest (s : State) : stockRest (initialLines s) = stockRest s := by
  rw [initialLines_eq]
  exact foldl_keeps (fun t _ => initialLine_stockRest _ _ t) _ s

/-- The use is the door of channel `k`. -/
def doorOf (k : Chan) (u : LineUse) : Bool := decide (u = .ovenDoor k) || decide (u = .warmerDoor k)

theorem doorInitially_channel (j : Chan) (on : Bool) (s : State) (k : Chan) : channelAt k (doorInitially j on s) =
    if decide (k = j) then { channelAt k s with doorFlag := on } else channelAt k s := by
  by_cases h : k = j
  · subst h
    rw [decide_eq_true rfl, if_pos rfl]
    exact channel_updateChannel_same k _ s
  · rw [decide_eq_false h, if_neg Bool.false_ne_true]
    exact channel_updateChannel_other h _ s

theorem initialLine_channel (u : LineUse) (on : Bool) (s : State) (k : Chan) : channelAt k (initialLine u on s) =
    if doorOf k u then { channelAt k s with doorFlag := on } else channelAt k s := by
  cases u with
  | ovenDoor j =>
    rw [show doorOf k (.ovenDoor j) = decide (k = j) by simp [doorOf, eq_comm]]
    exact doorInitially_channel j on s k
  | warmerDoor j =>
    rw [show doorOf k (.warmerDoor j) = decide (k = j) by simp [doorOf, eq_comm]]
    exact doorInitially_channel j on s k
  | dishEntry => rfl
  | dishExit => rfl
  | dishDoor => rfl
  | unused => rfl

theorem initialLine_warmer (u : LineUse) (on : Bool) (s : State) (k : Chan) : warmerAt k (initialLine u on s) =
    if decide (u = .warmerDoor k) then { warmerAt k s with doorOpen := on } else warmerAt k s := by
  cases u with
  | warmerDoor j =>
    by_cases h : k = j
    · subst h
      rw [decide_eq_true rfl, if_pos rfl]
      exact warmer_setWarmer_same k _ _
    · rw [decide_eq_false (by simp [Ne.symm h]), if_neg Bool.false_ne_true]
      exact warmer_setWarmer_other h _ _
  | ovenDoor j => rfl
  | dishEntry => rfl
  | dishExit => rfl
  | dishDoor => rfl
  | unused => rfl

theorem initialLine_dish (u : LineUse) (on : Bool) (s : State) : (initialLine u on s).dish =
    if decide (u = .dishDoor) then { s.dish with holds := { s.dish.holds with door := on } } else s.dish := by
  cases u <;> rfl

/-- A line is resolved to one door at most: no channel is an OVEN and a WARMER. -/
theorem doorOf_inj {p : Profile} {k : Chan} {l m : LineNo} (hl : doorOf k (resolvedUse p l) = true)
    (hm : doorOf k (resolvedUse p m) = true) : l = m := by
  have hfl := useFits_resolvedUse p l
  have hfm := useFits_resolvedUse p m
  simp only [doorOf, Bool.or_eq_true, decide_eq_true_eq] at hl hm
  have hnot : ∀ {a b : LineNo}, useFits p (resolvedUse p a) = true → useFits p (resolvedUse p b) = true →
      resolvedUse p a = .ovenDoor k → resolvedUse p b ≠ .warmerDoor k := by
    intro a b ha hb hau hbu
    rw [hau, useFits, decide_eq_true_eq] at ha
    rw [hbu, useFits, decide_eq_true_eq, ha] at hb
    exact Kind.noConfusion hb
  obtain hl | hl := hl <;> obtain hm | hm := hm
  · exact resolvedUse_inj (by simp) hl hm
  · exact absurd hm (hnot hfl hfm hl)
  · exact absurd hl (hnot hfm hfl hm)
  · exact resolvedUse_inj (by simp) hl hm

/-- Without a line that is resolved to it a use is not ACTIVE. -/
theorem useActive_of_no_line {s : State} {u : LineUse}
    (h : (List.finRange 6).any (fun l => decide (resolvedUse s.profile l = u)) = false) : useActive s u = false := by
  rw [useActive, List.any_eq_false]
  intro l hl
  simp [List.any_eq_false.1 h l hl]

/-- Each channel's door flag is set exactly if a line resolved to its door is ACTIVE. -/
theorem initialLines_channel {s : State} {k : Chan} (h : (channelAt k s).doorFlag = false) :
    channelAt k (initialLines s) =
      { channelAt k s with doorFlag := useActive s (.ovenDoor k) || useActive s (.warmerDoor k) } := by
  have hfold := foldl_set (f := lineInitially s) (cell := channelAt k) (set := fun b c => { c with doorFlag := b })
    (hit := fun l => doorOf k (resolvedUse s.profile l)) (val := lineActive s)
    (fun t l => initialLine_channel _ _ t k) (fun _ _ _ => rfl) (fun _ _ => doorOf_inj) (List.finRange 6) s
  have hflag : (List.finRange 6).any (fun l => doorOf k (resolvedUse s.profile l) && lineActive s l) =
      (useActive s (.ovenDoor k) || useActive s (.warmerDoor k)) := by
    rw [Bool.eq_iff_iff]
    simp only [useActive, doorOf, List.any_eq_true, Bool.and_eq_true, Bool.or_eq_true, decide_eq_true_eq, or_and_right,
      and_or_left, exists_or]
  rw [initialLines_eq, hfold, hflag]
  cases hhit : (List.finRange 6).any (fun l => doorOf k (resolvedUse s.profile l)) with
  | true => rfl
  | false =>
    have hnone : (useActive s (.ovenDoor k) || useActive s (.warmerDoor k)) = false := by
      rw [← hflag, List.any_eq_false]
      intro l hl
      simp [List.any_eq_false.1 hhit l hl]
    rw [hnone, if_neg Bool.false_ne_true, ← h]

theorem initialLines_warmer {s : State} {k : Chan} (h : (warmerAt k s).doorOpen = false) :
    warmerAt k (initialLines s) = { warmerAt k s with doorOpen := useActive s (.warmerDoor k) } := by
  have hfold := foldl_set (f := lineInitially s) (cell := warmerAt k) (set := fun b w => { w with doorOpen := b })
    (hit := fun l => decide (resolvedUse s.profile l = .warmerDoor k)) (val := lineActive s)
    (fun t l => initialLine_warmer _ _ t k) (fun _ _ _ => rfl)
    (fun _ _ hl hm => resolvedUse_inj (by simp) (of_decide_eq_true hl) (of_decide_eq_true hm)) (List.finRange 6) s
  rw [initialLines_eq, hfold]
  cases hhit : (List.finRange 6).any (fun l => decide (resolvedUse s.profile l = .warmerDoor k)) with
  | true => rfl
  | false =>
    rw [if_neg Bool.false_ne_true, useActive_of_no_line hhit, ← h]

theorem initialLines_dish {s : State} (h : s.dish.holds.door = false) : (initialLines s).dish =
    { s.dish with holds := { s.dish.holds with door := useActive s .dishDoor } } := by
  have hfold := foldl_set (f := lineInitially s) (cell := fun s => s.dish)
    (set := fun b d => { d with holds := { d.holds with door := b } })
    (hit := fun l => decide (resolvedUse s.profile l = .dishDoor)) (val := lineActive s)
    (fun t l => initialLine_dish _ _ t) (fun _ _ _ => rfl)
    (fun _ _ hl hm => resolvedUse_inj (by simp) (of_decide_eq_true hl) (of_decide_eq_true hm)) (List.finRange 6) s
  rw [initialLines_eq, hfold]
  cases hhit : (List.finRange 6).any (fun l => decide (resolvedUse s.profile l = .dishDoor)) with
  | true => rfl
  | false =>
    rw [if_neg Bool.false_ne_true, useActive_of_no_line hhit, ← h]

/-! ## The trips at JOIN (R38) -/

/-- A channel after the trips of JOIN. -/
def channelAfterJoin (k : Chan) (s : State) : Channel :=
  if tripsChecked s k && flagged s k then trippedChannel .sensor (channelAt k s) else channelAt k s

/-- The trip check of one channel at JOIN. -/
def tripAtJoin (s : State) (k : Chan) : State := if tripsChecked s k && flagged s k then trip k .sensor s else s

theorem tripAtJoin_frame (s : State) (k : Chan) : SameExcept [.heat, .bus, .paging, .port] s (tripAtJoin s k) := by
  unfold tripAtJoin
  split
  · exact trip_frame k .sensor s
  · exact SameExcept.refl _ _

theorem tripAtJoin_heatRest (s : State) (k : Chan) : heatRest (tripAtJoin s k) = heatRest s := by
  unfold tripAtJoin
  split
  · rw [heatRest, trip_heat]
    rfl
  · rfl

theorem tripAtJoin_same (s : State) (k : Chan) : channelAt k (tripAtJoin s k) = channelAfterJoin k s := by
  unfold tripAtJoin channelAfterJoin
  split
  · exact (congrArg (fun h : Heat => h.channels[k]) (trip_heat k .sensor s)).trans (channel_updateChannel_same k _ s)
  · rfl

theorem tripAtJoin_other (s : State) (j k : Chan) (h : j ≠ k) : channelAt j (tripAtJoin s k) = channelAt j s := by
  unfold tripAtJoin
  split
  · exact (congrArg (fun h : Heat => h.channels[j]) (trip_heat k .sensor s)).trans (channel_updateChannel_other h _ s)
  · rfl

theorem channelAfterJoin_congr {k : Chan} {s t : State} (hp : t.profile = s.profile) (hs : t.scan = s.scan)
    (hc : channelAt k t = channelAt k s) : channelAfterJoin k t = channelAfterJoin k s := by
  have hchecked : tripsChecked t k = tripsChecked s k := by
    unfold channelAt at hc
    unfold tripsChecked
    rw [hp, hc]
  have hflagged : flagged t k = flagged s k := by simp only [flagged, sensorOf, hp, hs]
  rw [channelAfterJoin, channelAfterJoin, hchecked, hflagged, hc]

theorem tripsAtJoin_channel (k : Chan) (s : State) : channelAt k (tripsAtJoin s) = channelAfterJoin k s := by
  have hfold := foldl_cell (f := tripAtJoin) (cell := channelAt) (next := channelAfterJoin) tripAtJoin_same
    tripAtJoin_other (fun s j k h => channelAfterJoin_congr (tripAtJoin_frame s k).profile (tripAtJoin_frame s k).scan
      (tripAtJoin_other s j k h)) (List.nodup_finRange 8) s k
  rw [if_pos (List.mem_finRange k)] at hfold
  unfold tripsAtJoin
  exact hfold

theorem tripsAtJoin_heatRest (s : State) : heatRest (tripsAtJoin s) = heatRest s :=
  foldl_keeps tripAtJoin_heatRest (List.finRange 8) s

/-- Without a channel to trip, JOIN trips none. -/
theorem tripsAtJoin_none {s : State} (h : ∀ k, (tripsChecked s k && flagged s k) = false) : tripsAtJoin s = s := by
  unfold tripsAtJoin
  induction List.finRange 8 with
  | nil => rfl
  | cons k ks ih =>
    rw [List.foldl_cons, if_neg (ne_true_of_eq_false (h k))]
    exact ih

/-! ## Calls raised by a station that may not send (R162 to R173) -/

/-- The paging unit as at its beginning, but for calls of reason SENSOR-FAULT, what its own serving side queues for them and
the record its modem is given; the station may not send, its controller stands as it began, and no transaction is under way
on the panel port. -/
structure OnlySensorCalls (s : State) : Prop where
  silent : maySend s = false
  bus : s.bus = Bus.initial
  transaction : s.port.transaction = .none
  paging : s.paging = { Paging.initial s.profile with
    calls := s.paging.calls, nextNumber := s.paging.nextNumber, modem := s.paging.modem, queue := s.paging.queue
    nextTag := s.paging.nextTag }
  calls : ∀ c ∈ s.paging.calls, c.reason = .sensorFault

theorem offer_of_silent {s : State} (h : maySend s = false) (f : Frame) : offer f s = s := by
  rw [offer, if_neg (ne_true_of_eq_false h)]

theorem pushReport_transaction (b : ReportBody) (s : State) :
    (pushReport b s).port.transaction = s.port.transaction := by
  unfold pushReport
  dsimp only
  split <;> rfl

namespace OnlySensorCalls

variable {s : State}

theorem congr {t : State} (h : OnlySensorCalls s) (hl : t.life = s.life) (hp : t.profile = s.profile) (hb : t.bus = s.bus)
    (hg : t.paging = s.paging) (ht : t.port.transaction = s.port.transaction) : OnlySensorCalls t where
  transaction := ht.trans h.transaction
  silent := by rw [maySend, hl]; exact h.silent
  bus := hb.trans h.bus
  paging := by rw [hg, hp]; exact h.paging
  calls := by rw [hg]; exact h.calls

/-- The calls change, and what the serving side keeps of them. -/
theorem setPaging (h : OnlySensorCalls s) {cs : List Call} (hc : ∀ c ∈ cs, c.reason = .sensorFault) (number : Nat)
    (modem : Option ModemWait) (queue : List Paged) (tag : Nat) : OnlySensorCalls (s.setPaging { s.paging with
      calls := cs, nextNumber := number, modem := modem, queue := queue, nextTag := tag }) where
  silent := h.silent
  bus := h.bus
  transaction := h.transaction
  paging := by
    show ({ s.paging with calls := cs, nextNumber := number, modem := modem, queue := queue, nextTag := tag } : Paging) = _
    rw [h.paging]
    rfl
  calls := hc

theorem serving (h : OnlySensorCalls s) (modem : Option ModemWait) (queue : List Paged) (tag : Nat) :
    OnlySensorCalls (s.setPaging { s.paging with modem := modem, queue := queue, nextTag := tag }) :=
  h.setPaging h.calls _ _ _ _

theorem pushReport (h : OnlySensorCalls s) (b : ReportBody) : OnlySensorCalls (pushReport b s) :=
  h.congr (pushReport_frame b s).life (pushReport_frame b s).profile (pushReport_frame b s).bus
    (pushReport_frame b s).paging (pushReport_transaction b s)

theorem offer (h : OnlySensorCalls s) (f : Frame) : OnlySensorCalls (offer f s) := by
  rw [offer_of_silent h.silent]
  exact h

theorem updateCall (h : OnlySensorCalls s) (n : Nat) {f : Call → Call} (hf : ∀ c, (f c).reason = c.reason) :
    OnlySensorCalls (updateCall n f s) := by
  refine h.setPaging (fun c hc => ?_) _ _ _ _
  obtain ⟨x, hx, rfl⟩ := List.mem_map.1 hc
  split
  · exact (hf x).trans (h.calls x hx)
  · exact h.calls x hx

theorem dropCall (h : OnlySensorCalls s) (n : Nat) : OnlySensorCalls (dropCall n s) :=
  h.setPaging (fun c hc => h.calls c (List.mem_filter.1 hc).1) _ _ _ _

theorem sendCancel (h : OnlySensorCalls s) (n : Nat) : OnlySensorCalls (sendCancel n s) := by
  unfold Machine.sendCancel serveCancel doWhen
  split
  · exact (h.offer _).serving _ _ _
  · exact h.offer _

theorem endCall (h : OnlySensorCalls s) (c : Call) (cause : CallCause) : OnlySensorCalls (endCall c cause s) :=
  ((h.dropCall _).pushReport _).sendCancel _

theorem withdrawCall (h : OnlySensorCalls s) (c : Call) : OnlySensorCalls (withdrawCall c s) := by
  unfold Machine.withdrawCall doWhen
  split
  · exact (h.dropCall _).sendCancel _
  · exact h.dropCall _

theorem pageStateAtOrigin (h : OnlySensorCalls s) (b : PageStateBody) : OnlySensorCalls (pageStateAtOrigin b s) := by
  unfold Machine.pageStateAtOrigin
  split
  · exact h
  · split
    · exact h.updateCall _ fun _ => rfl
    · exact h.updateCall _ fun _ => rfl
    · exact h.endCall _ _
    · exact h.endCall _ _
    · exact h.endCall _ _
    · exact h

theorem tellOrigin (h : OnlySensorCalls s) (c : Paged) (outcome detail : Nat) :
    OnlySensorCalls (tellOrigin c outcome detail s) := by
  unfold Machine.tellOrigin
  dsimp only
  split
  · exact h.pageStateAtOrigin _
  · exact h.offer _

theorem finishPaged (h : OnlySensorCalls s) (c : Paged) (outcome detail : Nat) :
    OnlySensorCalls (finishPaged c outcome detail s) :=
  (h.serving _ _ _).tellOrigin _ _ _

theorem writeSend (h : OnlySensorCalls s) (c : Paged) (i : Fin 32) : OnlySensorCalls (writeSend c i s) :=
  (h.serving _ _ _).serving _ _ _

theorem grantCalls (h : OnlySensorCalls s) (fuel : Nat) : OnlySensorCalls (grantCalls fuel s) := by
  induction fuel generalizing s with
  | zero => exact h
  | succ fuel ih =>
    unfold Machine.grantCalls
    split
    · exact h
    · split
      · exact h.writeSend _ _
      · exact ih (h.finishPaged _ _ _)

theorem arbitrate (h : OnlySensorCalls s) : OnlySensorCalls (arbitrate s) := by
  have hall : s.paging.allCall = none := by rw [h.paging]; rfl
  unfold Machine.arbitrate
  rw [hall]
  split
  · exact h.grantCalls _
  · exact h

theorem takePaged (h : OnlySensorCalls s) (origin : Nat) (b : PageCallBody) : OnlySensorCalls (takePaged origin b s) :=
  (h.serving _ _ _).tellOrigin _ _ _

theorem dropPaged (h : OnlySensorCalls s) (origin : Nat) (b : PageCallBody) : OnlySensorCalls (dropPaged origin b s) := by
  unfold Machine.dropPaged
  dsimp only
  split
  · exact h.pageStateAtOrigin _
  · exact h.offer _

theorem serveCall (h : OnlySensorCalls s) (origin : Nat) (b : PageCallBody) : OnlySensorCalls (serveCall origin b s) := by
  unfold Machine.serveCall
  split
  · split
    · split
      · exact h.tellOrigin _ _ _
      · exact h.tellOrigin _ _ _
    · split
      · exact h
      · split
        · exact (h.takePaged _ _).arbitrate
        · split
          · split
            · exact ((h.finishPaged _ _ _).takePaged _ _).arbitrate
            · exact h.dropPaged _ _
          · exact h.dropPaged _ _
  · exact h

theorem broadcast (h : OnlySensorCalls s) (c : Call) : OnlySensorCalls (broadcast c s) := by
  refine ((h.updateCall c.number (f := broadcastNow) fun x => ?_).offer _).serveCall _ _
  unfold broadcastNow
  split <;> rfl

theorem enterCall (h : OnlySensorCalls s) (subject : Nat) (group : Option Nat) (urgency : Nat) :
    OnlySensorCalls (enterCall .sensorFault subject group urgency s) := by
  have hnew : ∀ (st : CallState), OnlySensorCalls (withNewCall .sensorFault subject group urgency st s) := fun st => by
    refine h.setPaging (fun c hc => ?_) _ _ _ _
    obtain hc | hc := List.mem_append.1 hc
    · exact h.calls c hc
    · rw [List.mem_singleton.1 hc]
  cases group with
  | none => exact (hnew .local).pushReport _
  | some g => exact (hnew .calling).broadcast _

theorem makeRoom (h : OnlySensorCalls s) {urgency : Nat} {t : State} (ht : makeRoom urgency s = some t) :
    OnlySensorCalls t := by
  unfold Machine.makeRoom at ht
  split at ht
  · cases ht
    exact h
  · split at ht
    · split at ht
      · cases ht
        exact (h.withdrawCall _).pushReport _
      · cases ht
    · cases ht

theorem raiseCall (h : OnlySensorCalls s) (subject : Nat) : OnlySensorCalls (raiseCall .sensorFault subject s) := by
  unfold Machine.raiseCall
  split
  · exact h
  · split
    · next t ht => exact (h.makeRoom ht).enterCall _ _ _
    · exact h.pushReport _

theorem trip (h : OnlySensorCalls s) (k : Chan) : OnlySensorCalls (trip k .sensor s) :=
  OnlySensorCalls.raiseCall (s := Machine.pushReport _ (updateChannel k _ s))
    (OnlySensorCalls.pushReport (s := updateChannel k _ s) (h.congr rfl rfl rfl rfl rfl) _) _

theorem tripsAtJoin (h : OnlySensorCalls s) : OnlySensorCalls (tripsAtJoin s) := by
  unfold Machine.tripsAtJoin
  induction List.finRange 8 generalizing s with
  | nil => exact h
  | cons k ks ih =>
    rw [List.foldl_cons]
    apply ih
    split
    · exact h.trip k
    · exact h

end OnlySensorCalls

/-! ## The state JOIN leaves (R90) -/

/-- Every block at its beginning in LISTENING, before the report. -/
def joinBlank (s : State) : State :=
  (joinBlocks (s.setLife { s.life with joinNumber := s.life.joinNumber % 255 + 1 })).setLife
    { s.life with station := .listening, joinNumber := s.life.joinNumber % 255 + 1 }

/-- The beginnings of JOIN with its report, before the lines and trips. -/
def joinBegun (s : State) : State :=
  pushReport (.station s.life.station .listening (s.life.joinNumber % 255 + 1) .joined) (joinBlank s)

/-- The state at JOIN before its grant is formed. -/
def joinTripped (s : State) : State := tripsAtJoin (initialLines (joinBegun s))

theorem joinStation_eq_deliverGrant (s : State) : joinStation s = deliverGrant (joinTripped s) := rfl

theorem joinBlank_frame (s : State) :
    SameExcept [.life, .heat, .bus, .peers, .share, .dish, .stock, .waves, .paging] s (joinBlank s) := by
  refine SameExcept.step (State.setLife_frame _ _) (SameExcept.step (joinBlocks_frame _) (bs := [.life, .heat, .bus,
    .peers, .share, .dish, .stock, .waves, .paging]) ?_ (by decide)) (by decide)
  exact (State.setLife_frame _ _).mono (by decide)

theorem joinBegun_frame (s : State) : SameExcept [.port] (joinBlank s) (joinBegun s) := pushReport_frame _ _

theorem initialLines_begun_frame (s : State) :
    SameExcept [.heat, .dish, .stock, .port] (joinBlank s) (initialLines (joinBegun s)) :=
  (initialLines_frame _).step ((joinBegun_frame s).mono (by decide)) (by decide)

theorem joinTripped_frame (s : State) :
    SameExcept [.heat, .bus, .dish, .stock, .paging, .port] (joinBlank s) (joinTripped s) :=
  (tripsAtJoin_frame _).step ((initialLines_begun_frame s).mono (by decide)) (by decide)

theorem useActive_begun (s : State) (u : LineUse) : useActive (joinBegun s) u = useActive s u :=
  useActive_congr ((joinBegun_frame s).profile.trans (joinBlank_frame s).profile)
    ((joinBegun_frame s).lines.trans (joinBlank_frame s).lines) u

theorem channelAt_begun (s : State) (k : Chan) :
    channelAt k (joinBegun s) = Channel.initial s.profile.channels[k].baseClass := by
  rw [channelAt, (joinBegun_frame s).heat]
  exact Vector.getElem_map _ _

theorem warmerAt_begun (s : State) (k : Chan) : warmerAt k (joinBegun s) = Warmer.initial := by
  rw [warmerAt, (joinBegun_frame s).stock]
  exact Vector.getElem_replicate _

theorem joinTripped_heat (s : State) : (joinTripped s).heat.window = .stopped ∧ (joinTripped s).heat.grant = 0 ∧
    (joinTripped s).heat.order = [] ∧ (joinTripped s).heat.overdrawn = false := by
  have hrest : heatRest (joinTripped s) = (.stopped, 0, [], false) := by
    rw [joinTripped, tripsAtJoin_heatRest, initialLines_heatRest, heatRest, (joinBegun_frame s).heat]
    rfl
  simpa only [heatRest, Prod.mk.injEq] using hrest

theorem joinTripped_stock (s : State) : (joinTripped s).stock.holds = [] ∧ (joinTripped s).stock.tick = .stopped ∧
    (joinTripped s).stock.changed = false ∧ (joinTripped s).stock.clean = 0 := by
  have htrips : stockRest (joinTripped s) = stockRest (initialLines (joinBegun s)) := by
    rw [joinTripped, stockRest, (tripsAtJoin_frame _).stock]
    rfl
  have hrest : stockRest (joinTripped s) = ([], .stopped, false, 0) := by
    rw [htrips, initialLines_stockRest, stockRest, (joinBegun_frame s).stock]
    rfl
  simpa only [stockRest, Prod.mk.injEq] using hrest

theorem joinTripped_dish (s : State) : (joinTripped s).dish =
    { Dish.initial s.profile.dish with holds := { HoldSet.empty with door := useActive s .dishDoor } } := by
  have hbegun : (joinBegun s).dish = Dish.initial s.profile.dish := (joinBegun_frame s).dish
  rw [joinTripped, (tripsAtJoin_frame _).dish, initialLines_dish (by rw [hbegun]; rfl), hbegun, useActive_begun]
  rfl

theorem joinTripped_warmer (s : State) (k : Chan) :
    warmerAt k (joinTripped s) = { Warmer.initial with doorOpen := useActive s (.warmerDoor k) } := by
  have htrips : warmerAt k (joinTripped s) = warmerAt k (initialLines (joinBegun s)) := by
    rw [joinTripped, warmerAt, (tripsAtJoin_frame _).stock]
    rfl
  rw [htrips, initialLines_warmer (by rw [warmerAt_begun]; rfl), warmerAt_begun, useActive_begun]

theorem channelAt_lines (s : State) (k : Chan) : channelAt k (initialLines (joinBegun s)) =
    { Channel.initial s.profile.channels[k].baseClass with
      doorFlag := useActive s (.ovenDoor k) || useActive s (.warmerDoor k) } := by
  rw [initialLines_channel (by rw [channelAt_begun]; rfl), channelAt_begun, useActive_begun, useActive_begun]

/-- At JOIN a channel is tripped exactly if it is in use and its input is FAULTED. -/
theorem trips_begun (s : State) (k : Chan) :
    (tripsChecked (initialLines (joinBegun s)) k && flagged (initialLines (joinBegun s)) k) = true ↔
      s.profile.channels[k].kind ≠ .unused ∧ flagged s k = true := by
  have hframe := initialLines_begun_frame s
  have hprofile : (initialLines (joinBegun s)).profile = s.profile := hframe.profile.trans (joinBlank_frame s).profile
  have hscan : (initialLines (joinBegun s)).scan = s.scan := hframe.scan.trans (joinBlank_frame s).scan
  have hflagged : flagged (initialLines (joinBegun s)) k = flagged s k := by
    simp only [flagged, sensorOf, hprofile, hscan]
  have hidle : (initialLines (joinBegun s)).heat.channels[k].state = .idle :=
    congrArg Channel.state (channelAt_lines s k)
  rw [tripsChecked, hflagged, hprofile, hidle, Bool.and_eq_true, Bool.and_eq_true, decide_eq_true_eq]
  simp [isTripped]

theorem joinTripped_channel (s : State) (k : Chan) : channelAt k (joinTripped s) =
    { Channel.initial s.profile.channels[k].baseClass with
      state := if s.profile.channels[k].kind ≠ .unused ∧ flagged s k = true then .tripped .sensor else .idle
      doorFlag := useActive s (.ovenDoor k) || useActive s (.warmerDoor k) } := by
  rw [joinTripped, tripsAtJoin_channel, channelAfterJoin, channelAt_lines]
  by_cases h : s.profile.channels[k].kind ≠ .unused ∧ flagged s k = true
  · rw [if_pos ((trips_begun s k).2 h), if_pos h]
    rfl
  · rw [if_neg (mt (trips_begun s k).1 h), if_neg h]
    rfl

theorem joinTripped_calls {s : State} (h : s.port.transaction = .none) : OnlySensorCalls (joinTripped s) := by
  have hblank : OnlySensorCalls (joinBlank s) := ⟨rfl, rfl, h, rfl, fun c hc => absurd hc List.not_mem_nil⟩
  have hlines := initialLines_frame (joinBegun s)
  have hbegun : OnlySensorCalls (joinBegun s) := hblank.pushReport _
  exact (hbegun.congr hlines.life hlines.profile hlines.bus hlines.paging
    (congrArg Port.transaction hlines.port)).tripsAtJoin

/-- Without a channel to trip, the paging unit is at its beginning and the report JOINED is the newest. -/
theorem joinTripped_quiet {s : State} (h : ∀ k : Chan, s.profile.channels[k].kind = .unused ∨ flagged s k = false) :
    (joinTripped s).paging = Paging.initial s.profile ∧ (joinTripped s).port.reports.getLast? =
      some ⟨s.life.clock, .station s.life.station .listening (s.life.joinNumber % 255 + 1) .joined⟩ := by
  have hnone : joinTripped s = initialLines (joinBegun s) := by
    refine tripsAtJoin_none fun k => ?_
    rw [← Bool.not_eq_true, trips_begun]
    rintro ⟨hused, hflag⟩
    obtain hk | hk := h k
    · exact hused hk
    · rw [hk] at hflag
      exact Bool.false_ne_true hflag
  rw [hnone, (initialLines_begun_frame s).paging, (initialLines_frame _).port, joinBegun, pushReport_getLast]
  exact ⟨rfl, rfl⟩

/-- In LISTENING, with the window clock stopped, the grant is 0. -/
theorem deliverGrant_listening {s : State} (h : s.life.station = .listening) (hw : s.heat.window = .stopped) :
    deliverGrant s = (s.setShare { s.share with grant := 0, shares := .zero, limit := .none }).setHeat
      { s.heat with grant := 0 } := by
  have hg : formGrant s = (0, .zero, .none) := by
    unfold formGrant
    rw [h]
  have hstopped : (s.setShare { s.share with grant := 0, shares := .zero, limit := .none }).heat.window.running = false := by
    rw [State.setShare_heat, hw]
    rfl
  rw [deliverGrant, hg, takeGrant_of_no_cut (.inl hstopped)]
  rfl

theorem joinStation_eq (s : State) : joinStation s =
    ((joinTripped s).setShare { Share.initial with listen := some 3000 }).setHeat
      { (joinTripped s).heat with grant := 0 } := by
  have hshare : (joinTripped s).share = { Share.initial with listen := some 3000 } := (joinTripped_frame s).share
  have hlife : (joinTripped s).life.station = .listening := by rw [(joinTripped_frame s).life]; rfl
  rw [joinStation_eq_deliverGrant,
    deliverGrant_listening hlife (joinTripped_heat s).1, hshare]
  rfl

/-! ## The obligation -/

theorem join_refused {s : State} {x : Nat × Nat} (h : portDeaf s = false) (hu : s.life.station = .unjoined)
    (hc : joinCheck s.profile = some x) : exec (.join []) s = .next (s.setPort { s.port with
      reply := .refused 3 (.condition (some x)), transaction := .none }) := by
  have hbody : joinCommand [] (endTransaction s) = .error (.condition (some x)) := by
    rw [joinCommand, plain, endTransaction_life, endTransaction_profile, hu, hc]
    rfl
  have hexec : exec (.join []) s = panel 3 (joinCommand []) s := rfl
  rw [hexec, panel_of_hearing h, hbody]
  rfl

theorem join_accepted {s : State} (h : portDeaf s = false) (hu : s.life.station = .unjoined)
    (hc : joinCheck s.profile = none) :
    exec (.join []) s = .next (setReply (.done 3 false .none) (joinStation (endTransaction s))) := by
  refine panel_of_accepted h ?_
  rw [joinCommand, plain, endTransaction_life, endTransaction_profile, hu, hc]
  rfl

/-- Settles O53: the checks are those of R89 in their order, and what JOIN begins with is read off its blocks, its lines, its
trips and its grant of 0. -/
theorem joinIsCheckedAndEntersListening : Obligations.JoinIsCheckedAndEntersListening := by
  unfold Obligations.JoinIsCheckedAndEntersListening
  refine ⟨⟨fun p => joinCheck_none_iff, fun p => ⟨joinCheck_of_bad_id, fun hlow hhigh => ⟨fun hon => ⟨?_, ?_, ?_⟩, ?_, ?_⟩⟩,
    fun x s h hu hc => join_refused h hu hc⟩, fun s h hu hc => ?_⟩
  · exact fun k => joinCheck_of_second hlow hhigh hon
  · exact joinCheck_of_missing hlow hhigh hon
  · intro hb ht
    have hedge : ∀ {e}, edgeOutOfOrder p.dish = some e → joinCheck p = some (17, e) :=
      fun he => joinCheck_of_edge hlow hhigh hon hb ht he
    exact ⟨fun h => hedge (edgeOutOfOrder_one h), fun hab h => hedge (edgeOutOfOrder_two hab h),
      fun hab hbc h => hedge (edgeOutOfOrder_three hab hbc h),
      fun hab hbc hcd h => hedge (edgeOutOfOrder_four hab hbc hcd h)⟩
  · exact fun hoff k => joinCheck_of_dishKind hlow hhigh hoff
  · exact fun hradio hdish => ⟨fun i => joinCheck_of_groupless hlow hhigh hdish hradio,
      fun hnone i => joinCheck_of_shared hlow hhigh hdish hradio hnone⟩
  · obtain ⟨j, hj⟩ : ∃ j, j = endTransaction s := ⟨_, rfl⟩
    have hframe : SameExcept [.port] s j := hj ▸ State.setPort_frame s _
    have huse : ∀ u, useActive j u = useActive s u := useActive_congr hframe.profile hframe.lines
    have hflag : ∀ k, flagged j k = flagged s k := fun k => by simp only [flagged, sensorOf, hframe.profile, hframe.scan]
    have hstate : exec (.join []) s = .next (setReply (.done 3 false .none) (joinStation j)) := hj ▸ join_accepted h hu hc
    rw [joinStation_eq] at hstate
    obtain ⟨hwindow, -, horder, hover⟩ := joinTripped_heat j
    obtain ⟨hholds, htick, hchanged, hclean⟩ := joinTripped_stock j
    have hcalls := joinTripped_calls (s := j) (by rw [hj]; rfl)
    have hpaging := hcalls.paging
    have hkept := joinTripped_frame j
    have hdish := joinTripped_dish j
    have hchannel := joinTripped_channel j
    have hwarmer := joinTripped_warmer j
    have hquiet := joinTripped_quiet (s := j)
    have hlife : (joinTripped j).life =
        { s.life with station := .listening, joinNumber := s.life.joinNumber % 255 + 1 } := by
      rw [hkept.life, ← hframe.life]
      rfl
    have hpeers : (joinTripped j).peers = [] := hkept.peers
    have hwaves : (joinTripped j).waves = [] := hkept.waves
    have hprofile : (joinTripped j).profile = s.profile :=
      hkept.profile.trans ((joinBlank_frame j).profile.trans hframe.profile)
    rw [hprofile] at hpaging
    simp only [hframe.profile, hframe.life, huse, hflag, hu] at hdish hchannel hwarmer hquiet
    have hall := ((setReply_frame (.done 3 false .none) _).step (bs := [.life, .heat, .bus, .peers, .share, .dish, .stock,
      .waves, .paging, .port]) ((joinStation_frame j).step (hframe.mono (by decide)) (by decide)) (by decide))
    rw [joinStation_eq] at hall
    generalize joinTripped j = v at *
    refine ⟨_, hstate, hlife, hcalls.bus, congrArg Bus.waiting hcalls.bus, congrArg Bus.onLine hcalls.bus, hpeers, hwaves,
      hholds, rfl, rfl, hwindow, horder, hover, htick, hchanged, hclean, congrArg Paging.radioUp hpaging,
      congrArg Paging.duty hpaging, congrArg Paging.failures hpaging, congrArg Paging.pointer hpaging,
      congrArg Paging.allCall hpaging, congrArg Paging.collecting hpaging, hcalls.calls, fun hnone => ?_, hdish,
      fun k => ⟨congrArg Channel.demand (hchannel k), congrArg Channel.heater (hchannel k), hchannel k, hwarmer k⟩, rfl,
      hcalls.transaction, hall⟩
    obtain ⟨hinitial, hreport⟩ := hquiet hnone
    exact ⟨congrArg Paging.calls hinitial, congrArg Paging.nextNumber hinitial, congrArg Paging.queue hinitial,
      congrArg Paging.nextTag hinitial, congrArg Paging.modem hinitial, hreport⟩

end Sys2Proof.Machine
end

section
/-! What a command answers, whatever the branch it takes: the combinators by which a law is followed through the wrappers of
the commands (R87, R182, R185). -/

namespace Sys2Proof.Machine

/-! ## Outcomes and command bodies that satisfy a law -/

/-- Every next state of an outcome satisfies `P`. -/
def Always (P : State → Prop) (o : Out) : Prop := ∀ t, o = .next t → P t

/-- Every state that an accepted command leaves satisfies `P`. -/
def Yields (P : State → Prop) (r : Except Reason Done) : Prop := ∀ d, r = .ok d → P d.state

variable {P : State → Prop}

theorem Always.next {t : State} (h : P t) : Always P (.next t) := by
  rintro u ⟨⟩
  exact h

theorem doWhen_of {f : State → State} {s : State} (c : Bool) (h : P s) (hf : P (f s)) : P (doWhen c f s) := by
  cases c
  · exact h
  · exact hf

theorem Always.event {f : State → State} {s : State} (h : P s) (hf : P (f s)) : Always P (event f s) :=
  .next (doWhen_of _ h hf)

theorem Always.expiry {due : Bool} {f : State → State} {s : State} (h : P s) (hf : P (f s)) :
    Always P (expiry due f s) := .event h (doWhen_of _ h hf)

/-- An expiry's effect need only be judged where its timer stands at its end. -/
theorem Always.expiry_of_due {due : Bool} {f : State → State} {s : State} (h : P s) (hf : due = true → P (f s)) :
    Always P (Machine.expiry due f s) := by
  cases due
  · rw [expiry_of_not_due rfl]
    exact .next h
  · exact .expiry h (hf rfl)

theorem Yields.error (r : Reason) : Yields P (.error r) := by
  rintro d ⟨⟩

theorem Yields.ok {d : Done} (h : P d.state) : Yields P (.ok d) := by
  rintro e ⟨⟩
  exact h

theorem Yields.accepted {s : State} (h : P s) (clamped : Bool) : Yields P (accepted s clamped) := .ok h

theorem Yields.ite {c : Prop} [Decidable c] {r q : Except Reason Done} (hr : c → Yields P r) (hq : ¬ c → Yields P q) :
    Yields P (if c then r else q) := by
  split
  · exact hr ‹_›
  · exact hq ‹_›

theorem Yields.checked {stage tokens ranges : Bool} {owner : Except Reason Done} (h : stage = true → Yields P owner) :
    Yields P (checked stage tokens ranges owner) := by
  unfold Machine.checked
  exact .ite (fun hs => .ite (fun _ => .ite (fun _ => h hs) (fun _ => .error _)) (fun _ => .error _)) (fun _ => .error _)

theorem Yields.plain {g : Stage} {p : List Word} {s : State} {owner : Except Reason Done}
    (h : stageOk g s.life.station = true → Yields P owner) : Yields P (plain g p s owner) := by
  unfold Machine.plain
  split
  · exact .checked h
  · exact .error _

theorem Yields.oneId {lo hi : Nat} {p : List Word} {s : State} {owner : Nat → Except Reason Done}
    (h : ∀ n, Yields P (owner n)) : Yields P (oneId lo hi p s owner) := by
  unfold Machine.oneId
  split
  · exact .checked fun _ => h _
  · exact .error _

theorem Yields.oneNumber {p : List Word} {s : State} {owner : Param → Except Reason Done}
    (h : ∀ q, Yields P (owner q)) : Yields P (oneNumber p s owner) := by
  unfold Machine.oneNumber
  split
  · exact .checked fun _ => h _
  · exact .error _

/-- A panel command keeps a law that its body keeps and that does not look at the port. -/
theorem Always.panel {code : Nat} {body : State → Except Reason Done} {s : State}
    (hport : ∀ t (x : Port), P t → P (t.setPort x)) (h : P s) (hb : Yields P (body (endTransaction s))) :
    Always P (panel code body s) := by
  have he : P (endTransaction s) := hport _ _ h
  refine .next ?_
  split
  · exact he
  · cases hr : body (endTransaction s) with
    | error e => exact hport _ _ he
    | ok d => exact hport _ _ (hb d hr)

theorem Always.endWith {f : State → State} {s : State} (h : P (endTransaction s)) (hf : P (f (endTransaction s))) :
    Always P (endWith f s) := .next (by split <;> assumption)

end Sys2Proof.Machine
end

section
/-! The heater law and the charge law along every operation on the heat channels (R23 to R39). -/

namespace Sys2Proof.Machine

/-! ## One channel -/

/-- What an operation on one channel record has to keep: the heater law of the channel, the charge, and a heater at rest. -/
structure ChannelKept (k : Kind) (c d : Channel) : Prop where
  law : ChannelLaw k c → ChannelLaw k d
  charge : d.charge = c.charge
  rest : c.heater = false ∧ c.onTime = 0 ∧ c.served = 0 → d.heater = false ∧ d.onTime = 0 ∧ d.served = 0

theorem ChannelKept.refl (k : Kind) (c : Channel) : ChannelKept k c c := ⟨id, rfl, id⟩

theorem channelLaw_initial (k : Kind) (n : Nat) : ChannelLaw k (Channel.initial n) := by
  constructor <;> simp [Channel.initial, heating, setpointOf]

/-- Of a heater that is off, the kind does not matter. -/
theorem ChannelLaw.of_off {k j : Kind} {c : Channel} (h : ChannelLaw k c) (hoff : c.heater = false) : ChannelLaw j c :=
  { h with door := by simp [hoff] }

theorem kept_heaterOff (k : Kind) (c : Channel) : ChannelKept k c { c with heater := false } :=
  ⟨fun h => { h with heater := by simp, door := by simp }, rfl, fun h => ⟨rfl, h.2⟩⟩

/-- A heating channel that leaves its state with its demand, duty, on-time and heater at rest. -/
theorem kept_stopped {x : ChanState} (hx : heating x = false) (k : Kind) (c : Channel) : ChannelKept k c
    { c with state := x, demand := 0, duty := 0, integral := 0, onTime := c.served, heater := false } :=
  ⟨fun _ => by constructor <;> simp [hx], rfl, fun ⟨_, _, hs⟩ => ⟨rfl, hs, hs⟩⟩

theorem kept_trippedChannel (k : Kind) (cause : TripCause) (c : Channel) : ChannelKept k c (trippedChannel cause c) :=
  kept_stopped rfl k c

theorem kept_heatOffChannel (k : Kind) (c : Channel) : ChannelKept k c (heatOffChannel c) := by
  unfold heatOffChannel
  split
  · exact kept_stopped rfl k c
  · exact .refl k c

/-- A change of state alone keeps the law where it loses no heating channel, or where the channel was not heating. -/
theorem kept_state {x : ChanState} {k : Kind} {c : Channel} (hx : heating x = true ∨ heating c.state = false) :
    ChannelKept k c { c with state := x } := by
  refine ⟨fun h => ?_, rfl, id⟩
  obtain hx | hc := hx
  · exact { h with idle := by simp [hx], heater := fun hh => ⟨hx, (h.heater hh).2⟩ }
  · have hoff : c.heater = false := by
      cases hh : c.heater
      · rfl
      · exact absurd (h.heater hh).1 (by simp [hc])
    exact { h with idle := fun _ => h.idle hc, heater := by simp [hoff] }

theorem kept_takeTarget (k : Kind) (top target ramp : Nat) (t : Temp) (c : Channel) :
    ChannelKept k c (takeTarget top t target ramp c) := by
  unfold takeTarget
  split
  · exact kept_state (.inl rfl)
  · exact kept_state (.inl rfl)
  · exact kept_state (.inl rfl)
  · exact .refl k c

theorem kept_doorOpens {k : Kind} {oven : Bool} (ho : k = .oven → oven = true) (c : Channel) :
    ChannelKept k c (doorOpens oven c) := by
  refine ⟨fun h => { h with heater := fun hh => h.heater ?_, door := fun hh hk => ?_ }, rfl, fun h => ⟨?_, h.2⟩⟩
  · simp only [doorOpens, Bool.and_eq_true] at hh
    exact hh.1
  · simp [doorOpens, ho hk] at hh
  · simp [doorOpens, h.1]

theorem kept_doorCloses (k : Kind) (c : Channel) : ChannelKept k c { c with doorFlag := false } :=
  ⟨fun h => { h with door := fun _ _ => rfl }, rfl, id⟩

/-- A heater that a closing OVEN door lights again has an on-time left. -/
theorem kept_ovenDoorCloses (k : Kind) (overdrawn : Bool) (c : Channel) :
    ChannelKept k c (ovenDoorCloses overdrawn c) := by
  refine ⟨fun h => { h with heater := fun hh => ?_, door := fun _ _ => rfl }, rfl, fun ⟨hh, hon, hs⟩ => ⟨?_, hon, hs⟩⟩
  · simp only [ovenDoorCloses, Bool.or_eq_true, Bool.and_eq_true, decide_eq_true_eq] at hh
    obtain hh | ⟨⟨hheat, _⟩, hlt⟩ := hh
    · exact h.heater hh
    · exact ⟨hheat, Nat.zero_lt_of_lt hlt⟩
  · simp [ovenDoorCloses, hh, hon, hs]

theorem kept_wants (k : Kind) (c : Channel) (n w : Nat) : ChannelKept k c { c with effClass := n, want := w } :=
  ⟨fun h => { h with }, rfl, id⟩

theorem kept_effClass (k : Kind) (c : Channel) (n : Nat) : ChannelKept k c { c with effClass := n } :=
  ⟨fun h => { h with }, rfl, id⟩

theorem kept_tickChannel (k : Kind) (c : Channel) : ChannelKept k c (tickChannel c) := by
  rw [tickChannel_eq]
  refine ⟨fun h => { h with served := ?_ }, rfl, fun ⟨hh, hon, hs⟩ => ⟨hh, hon, ?_⟩⟩
  · have := h.served
    dsimp only
    split <;> omega
  · simp [hh, hs]

theorem channelLaw_cutChannel {k : Kind} {c : Channel} (h : ChannelLaw k c) (load x : Nat) :
    ChannelLaw k (cutChannel load x c) := by
  have hserved := h.served
  have hduty := h.duty
  refine { h with duty := ?_, served := ?_, heater := fun hh => ?_, door := fun hh => h.door ?_ }
  · simp only [cutChannel]
    split <;> omega
  · simp only [cutChannel, cutOnTime]
    omega
  · simp only [cutChannel, Bool.and_eq_true, decide_eq_true_eq] at hh
    exact ⟨(h.heater hh.1).1, Nat.zero_lt_of_lt hh.2⟩
  · simp only [cutChannel, Bool.and_eq_true] at hh
    exact hh.1

theorem channelLaw_overdrawnChannel {k : Kind} {c : Channel} (h : ChannelLaw k c) :
    ChannelLaw k (overdrawnChannel c) := by
  have hduty := h.duty
  refine { h with duty := ?_, served := Nat.le_refl _, heater := by simp [overdrawnChannel],
                  door := by simp [overdrawnChannel] }
  simp only [overdrawnChannel]
  split <;> omega

/-! ## The whole block -/

theorem clocksRun_congr {s t : State} (hl : t.life = s.life) : clocksRun t = clocksRun s := by
  simp only [clocksRun, hl]

/-- Both laws of the heat channels. -/
structure HeatSafe (s : State) : Prop where
  heater : HeaterLaw s
  charge : ChargeLaw s

theorem HeatSafe.congr {s t : State} (h : HeatSafe s) (hh : t.heat = s.heat) (hp : t.profile = s.profile)
    (hl : t.life.station = s.life.station) : HeatSafe t := by
  obtain ⟨⟨hc, hk, hs⟩, ⟨hw, hz, hr⟩⟩ := h
  have hrun : clocksRun t = clocksRun s := by simp only [clocksRun, hl]
  exact ⟨⟨by rwa [hh, hp], by rwa [hh, hrun], by rwa [hh, hrun]⟩, ⟨by rwa [hh], by rwa [hh], by rwa [hh]⟩⟩

/-- The blocks that the laws of the heat channels do not look at. -/
def coldBlocks : List Block :=
  [.pending, .resetting, .scan, .lines, .pulseAge, .bus, .peers, .share, .dish, .stock, .waves, .paging, .port]

theorem HeatSafe.cold {s t : State} {bs : List Block} (h : HeatSafe s) (hb : ∀ b ∈ bs, b ∈ coldBlocks)
    (hf : SameExcept bs s t) : HeatSafe t := by
  have hf := hf.mono hb
  exact h.congr (hf.heat (by decide)) (hf.profile (by decide)) (congrArg Life.station (hf.life (by decide)))

theorem chargesSum_congr {cs ds : Vector Channel 8} (h : ∀ k : Chan, ds[k].charge = cs[k].charge) :
    chargesSum ds = chargesSum cs := by
  have hmap : ds.map (fun c => c.charge) = cs.map (fun c => c.charge) := by
    ext i hi
    simpa using h ⟨i, hi⟩
  rw [chargesSum, chargesSum, ← Vector.toList_map, ← Vector.toList_map, hmap]

/-- The laws hold over heat channels at their beginning, in every station state. -/
theorem heatSafe_initial {s : State} {p : Profile} (h : s.heat = Heat.initial p) : HeatSafe s := by
  have hc : ∀ k : Chan, s.heat.channels[k] = Channel.initial p.channels[k].baseClass := fun k => by
    simp [h, Heat.initial]
  have hz : chargesSum s.heat.channels = 0 :=
    (chargesSum_congr (cs := Vector.replicate 8 (Channel.initial 0)) fun k => by rw [hc]; simp [Channel.initial]).trans rfl
  refine ⟨⟨fun k => hc k ▸ channelLaw_initial _ _, ?_, fun _ k => ?_⟩, ⟨?_, fun _ => hz, ?_⟩⟩
  · simp [h, Heat.initial, PeriodClock.stopped]
  · rw [hc]
    exact ⟨rfl, rfl, rfl⟩
  · simp [hz]
  · simp [h, Heat.initial, PeriodClock.stopped]

/-- New channel records that are kept one by one keep the laws, also under a window clock that ticks. -/
theorem HeatSafe.channels {s t : State} {cs : Vector Channel 8} {w : PeriodClock} (h : HeatSafe s)
    (ht : t.heat = { s.heat with channels := cs, window := w }) (hp : t.profile = s.profile)
    (hl : t.life.station = s.life.station) (hw : w.running = s.heat.window.running)
    (hd : w.due = true → s.heat.window.running = true ∨ s.heat.window.due = true)
    (hc : ∀ k : Chan, ChannelKept s.profile.channels[k].kind s.heat.channels[k] cs[k]) : HeatSafe t := by
  obtain ⟨⟨hlaw, hclock, hstopped⟩, ⟨hwithin, hzero, hdue⟩⟩ := h
  have hrun : clocksRun t = clocksRun s := by simp only [clocksRun, hl]
  have hsum : chargesSum cs = chargesSum s.heat.channels := chargesSum_congr fun k => (hc k).charge
  refine ⟨⟨fun k => ?_, ?_, ?_⟩, ⟨?_, ?_, ?_⟩⟩
  · rw [ht, hp]
    exact (hc k).law (hlaw k)
  · rw [ht, hrun, hw]
    rintro (hr | hd')
    · exact hclock (.inl hr)
    · exact hclock (hd hd')
  · rw [ht, hrun]
    exact fun hno k => (hc k).rest (hstopped hno k)
  · rw [ht, hsum]
    exact hwithin
  · rw [ht, hsum, hw]
    exact hzero
  · rw [ht, hw]
    exact fun hd' => (hd hd').elim id hdue

theorem HeatSafe.setChannels {s : State} (h : HeatSafe s) {cs : Vector Channel 8}
    (hc : ∀ k : Chan, ChannelKept s.profile.channels[k].kind s.heat.channels[k] cs[k]) :
    HeatSafe (setChannels cs s) := h.channels (w := s.heat.window) rfl rfl rfl rfl .inr hc

theorem HeatSafe.updateChannel {s : State} (h : HeatSafe s) {k : Chan} {f : Channel → Channel}
    (hf : ChannelKept s.profile.channels[k].kind s.heat.channels[k] (f s.heat.channels[k])) :
    HeatSafe (updateChannel k f s) := by
  refine h.setChannels fun j => ?_
  by_cases hj : j = k
  · subst hj
    rw [channel_set_same]
    exact hf
  · rw [channel_set_other hj]
    exact .refl _ _

/-! ## The grant (R32 to R34) -/

/-- Over running clocks only the channels themselves are bound by the heater law. -/
theorem heaterLaw_of_running {s : State} (hr : clocksRun s = true)
    (hc : ∀ k : Chan, ChannelLaw s.profile.channels[k].kind s.heat.channels[k]) : HeaterLaw s :=
  ⟨hc, fun _ => hr, fun hno => absurd hr (by simp [hno])⟩

theorem cutResult_law {s : State} (h : HeaterLaw s) (g : Nat) (k : Chan) :
    ChannelLaw s.profile.channels[k].kind (cutResult g s).2[k] := by
  unfold cutResult
  obtain he | ⟨x, he⟩ := cutWalk_channel s.profile k (walkOrder s.heat) (chargesSum s.heat.channels - g) s.heat.channels
  · rw [he]
    exact h.channels k
  · rw [he]
    exact channelLaw_cutChannel (h.channels k) _ _

theorem cutResult_charges {g : Nat} {s : State} (h : g ≤ chargesSum s.heat.channels) :
    chargesSum (cutResult g s).2 = g + (cutResult g s).1 := by
  have := cutWalk_charges s.profile (walkOrder s.heat) (chargesSum s.heat.channels - g) s.heat.channels
  unfold cutResult
  omega

/-- A delivered grant brings both laws about wherever the heater law holds and a stopped window has no charge. -/
theorem takeGrant_safe {s : State} (h : HeaterLaw s)
    (hzero : s.heat.window.running = false → chargesSum s.heat.channels = 0)
    (hdue : s.heat.window.due = true → s.heat.window.running = true) (g : Nat) : HeatSafe (takeGrant g s) := by
  obtain ⟨hlife, hprofile⟩ : (takeGrant g s).life = s.life ∧ (takeGrant g s).profile = s.profile :=
    ⟨(takeGrant_frame g s).life, (takeGrant_frame g s).profile⟩
  have hruns := clocksRun_congr hlife
  by_cases hcut : CutsTo g s
  · have hr : s.heat.window.running = true := hcut.1
    have hclocks : clocksRun (takeGrant g s) = true := hruns.trans (h.clock (.inl hr))
    have hlt : g < chargesSum s.heat.channels := hcut.2.2
    have hsum := cutResult_charges (Nat.le_of_lt hlt)
    have hheat := takeGrant_heat_of_cut hcut
    by_cases hmet : (cutResult g s).1 = 0
    · rw [if_pos hmet] at hheat
      refine ⟨heaterLaw_of_running hclocks fun k => ?_, ⟨fun _ => ?_, ?_, ?_⟩⟩
      · rw [hheat, hprofile]
        exact cutResult_law h g k
      · rw [hheat]
        exact Nat.le_of_eq (by rw [hsum, hmet, Nat.add_zero])
      · simp [hheat, hr]
      · simp [hheat, hr]
    · rw [if_neg hmet] at hheat
      refine ⟨heaterLaw_of_running hclocks fun k => ?_, ⟨?_, ?_, ?_⟩⟩
      · rw [hheat, hprofile]
        simpa using channelLaw_overdrawnChannel (cutResult_law h g k)
      · simp [hheat]
      · simp [hheat, hr]
      · simp [hheat, hr]
  · have hno : s.heat.window.running = false ∨ s.heat.overdrawn = true ∨ chargesSum s.heat.channels ≤ g := by
      unfold CutsTo at hcut
      cases hr : s.heat.window.running <;> cases ho : s.heat.overdrawn <;> simp_all
    rw [takeGrant_of_no_cut hno]
    refine ⟨⟨h.channels, h.clock, h.stopped⟩, ⟨fun ho => ?_, hzero, hdue⟩⟩
    obtain hr | ho' | hle := hno
    · exact (hzero hr).trans_le (Nat.zero_le _)
    · exact absurd ho (by simp [ho'])
    · exact hle

theorem deliverGrant_safe {s : State} (h : HeaterLaw s)
    (hzero : s.heat.window.running = false → chargesSum s.heat.channels = 0)
    (hdue : s.heat.window.due = true → s.heat.window.running = true) : HeatSafe (deliverGrant s) :=
  takeGrant_safe (s := s.setShare { s.share with
      grant := (formGrant s).1, shares := (formGrant s).2.1, limit := (formGrant s).2.2 })
    ⟨h.channels, h.clock, h.stopped⟩ hzero hdue _

theorem HeatSafe.deliverGrant {s : State} (h : HeatSafe s) : HeatSafe (deliverGrant s) :=
  deliverGrant_safe h.heater h.charge.stopped h.charge.clock

/-! ## The window start (R24 to R30) -/

theorem clampInt_within {lo hi : Int} (h : lo ≤ hi) (n : Int) : lo ≤ clampInt lo hi n ∧ clampInt lo hi n ≤ hi := by
  unfold clampInt
  omega

/-- The integral and the demand after a window start stand in their ranges, and demand belongs to RAMP and REGULATE. -/
theorem demandStep_law (p : ChanProfile) (t : Temp) (door : Bool) {c : Channel}
    (h : -1000 ≤ c.integral ∧ c.integral ≤ 1000) :
    (demandStep p t door c).demand ≤ 1000 ∧
      (-1000 ≤ (demandStep p t door c).integral ∧ (demandStep p t door c).integral ≤ 1000) ∧
      (heating (demandStep p t door c).state = false → (demandStep p t door c).demand = 0) := by
  unfold demandStep
  split
  · next sp hsp =>
    refine ⟨?_, ?_, fun hh => absurd hh (by simp [heating, hsp])⟩
    · have := clampInt_within (lo := 0) (hi := 1000) (by decide)
        (proportional p (sp.w - t) + nextIntegral p c (sp.w - t) door)
      dsimp only
      omega
    · dsimp only
      unfold nextIntegral
      split
      · exact h
      · exact clampInt_within (by decide) _
  · exact ⟨Nat.zero_le _, h, fun _ => rfl⟩

/-- A charge never passes the remaining current that its duty was cut to (R29). -/
theorem chargeOf_dutyOf_le (load demand remaining : Nat) : chargeOf load (dutyOf load demand remaining) ≤ remaining := by
  have hdiv : dutyOf load demand remaining * load ≤ remaining * 1000 :=
    (Nat.mul_le_mul_right _ (Nat.min_le_right _ _)).trans (Nat.div_mul_le_self _ _)
  unfold chargeOf ceilDiv
  omega

/-- The record of channel `k` once it has its part of the remaining current `r` (R29). -/
def allotted (p : Profile) (k : Chan) (r : Nat) (c : Channel) : Channel :=
  { c with
    duty := dutyOf p.channels[k].load c.demand r
    charge := chargeOf p.channels[k].load (dutyOf p.channels[k].load c.demand r) }

theorem allocate_cons (p : Profile) (k : Chan) (ks : List Chan) (r : Nat) (cs : Vector Channel 8) :
    allocate p (k :: ks) r cs =
      allocate p ks (r - (allotted p k r cs[k]).charge) (cs.set k (allotted p k r cs[k])) := rfl

theorem allotted_charge_le (p : Profile) (k : Chan) (r : Nat) (c : Channel) : (allotted p k r c).charge ≤ r :=
  chargeOf_dutyOf_le _ _ _

/-- The allocation gives each channel outside the order nothing. -/
theorem allocate_other {p : Profile} {j : Chan} {ks : List Chan} (h : j ∉ ks) (r : Nat) (cs : Vector Channel 8) :
    (allocate p ks r cs)[j] = cs[j] := by
  induction ks generalizing r cs with
  | nil => rfl
  | cons k ks ih =>
    obtain ⟨hjk, hjs⟩ := not_or.1 (fun hm => h (List.mem_cons.2 hm))
    rw [allocate_cons, ih hjs, channel_set_other hjk]

/-- The charges of an order of distinct channels come out of the current one after the other. -/
theorem allocate_append {p : Profile} {ks js : List Chan} (h : ks.Nodup) (r : Nat) (cs : Vector Channel 8) :
    allocate p (ks ++ js) r cs =
      allocate p js (r - (ks.map (fun k => (allocate p ks r cs)[k].charge)).sum) (allocate p ks r cs) := by
  induction ks generalizing r cs with
  | nil => rfl
  | cons k ks ih =>
    obtain ⟨hk, hks⟩ := List.nodup_cons.1 h
    rw [List.cons_append, allocate_cons, ih hks, ← allocate_cons, List.map_cons, List.sum_cons, ← Nat.sub_sub]
    congr 2
    rw [allocate_cons, allocate_other hk, channel_set_same]

/-- The channel at a place of the order takes its part of what the charges ahead of it leave (R29). -/
theorem allocate_at {p : Profile} {before after : List Chan} {k : Chan} (h : (before ++ k :: after).Nodup) (r : Nat)
    (cs : Vector Channel 8) : (allocate p (before ++ k :: after) r cs)[k] = allotted p k
      (r - (before.map (fun j => (allocate p (before ++ k :: after) r cs)[j].charge)).sum) cs[k] := by
  obtain ⟨hbefore, hrest, hapart⟩ := List.nodup_append.1 h
  have hk : k ∉ before := fun hm => hapart k hm k List.mem_cons_self rfl
  have hcharges : before.map (fun j => (allocate p (before ++ k :: after) r cs)[j].charge) =
      before.map (fun j => (allocate p before r cs)[j].charge) := by
    refine List.map_congr_left fun j hj => ?_
    rw [allocate_append hbefore, allocate_other fun hm => hapart j hj j hm rfl]
  rw [hcharges, allocate_append hbefore, allocate_cons, allocate_other (List.nodup_cons.1 hrest).1, channel_set_same,
    allocate_other hk]

theorem allocate_charges (p : Profile) (ks : List Chan) (r : Nat) (cs : Vector Channel 8)
    (h : chargesSum cs = 0) : chargesSum (allocate p ks r cs) ≤ r := by
  suffices hg : ∀ (ks : List Chan) (r : Nat) (cs : Vector Channel 8),
      chargesSum (allocate p ks r cs) ≤ chargesSum cs + r by
    simpa [h] using hg ks r cs
  intro ks
  induction ks with
  | nil => exact fun r cs => Nat.le_add_right _ _
  | cons k ks ih =>
    intro r cs
    have hset := chargesSum_set cs k (allotted p k r cs[k])
    have hle := allotted_charge_le p k r cs[k]
    have hrest := ih (r - (allotted p k r cs[k]).charge) (cs.set k (allotted p k r cs[k]))
    rw [allocate_cons]
    omega

theorem eachChannel_get (f : Chan → Channel → Channel) (cs : Vector Channel 8) (k : Chan) :
    (eachChannel f cs)[k] = f k cs[k] := by
  simp [eachChannel]

/-- A channel's record after the demand step: no duty and no charge, with its class and demand of this window (R24 to
R28). -/
theorem demandedChannels_get (s : State) (k : Chan) : (demandedChannels s)[k] =
    { demandStep s.profile.channels[k] (reading s k) s.heat.channels[k].doorSeen
        (setpointStep (closeWindow s.heat.channels[k])) with duty := 0, effClass := classNow s k } := by
  simp only [demandedChannels, eachChannel_get]

theorem demandedChannels_charges (s : State) : chargesSum (demandedChannels s) = 0 :=
  (chargesSum_congr (cs := Vector.replicate 8 (Channel.initial 0)) fun k => by
    rw [demandedChannels_get]
    simp only [demandStep, setpointStep]
    split <;> split <;> simp [closeWindow, Channel.initial]).trans rfl

/-- The allocation order holds each channel with demand of an effective class up to 3 (R29). -/
theorem mem_allocationOrder {cs : Vector Channel 8} {k : Chan} :
    k ∈ allocationOrder cs ↔ 0 < cs[k].demand ∧ cs[k].effClass ≤ 3 := by
  simp only [allocationOrder, List.flatMap_cons, List.flatMap_nil, List.append_nil, List.mem_append, List.mem_filter,
    List.mem_finRange, true_and, Bool.and_eq_true, decide_eq_true_eq]
  omega

/-- The allocation order runs from the highest class down, and within a class by number (R29). -/
theorem allocationOrder_sorted (cs : Vector Channel 8) : (allocationOrder cs).Pairwise (fun a b =>
    cs[b].effClass < cs[a].effClass ∨ (cs[b].effClass = cs[a].effClass ∧ a < b)) := by
  unfold allocationOrder
  rw [List.pairwise_flatMap]
  refine ⟨fun n _ => ?_, ?_⟩
  · refine ((List.pairwise_lt_finRange 8).filter _).imp_of_mem fun {a b} ha hb hab => .inr ⟨?_, hab⟩
    simp only [List.mem_filter, Bool.and_eq_true, decide_eq_true_eq] at ha hb
    rw [ha.2.2, hb.2.2]
  · have hdown : [3, 2, 1, 0].Pairwise (fun n m : Nat => m < n) := by decide
    refine hdown.imp fun {n m} hnm a ha b hb => .inl ?_
    simp only [List.mem_filter, Bool.and_eq_true, decide_eq_true_eq] at ha hb
    rw [ha.2.2, hb.2.2]
    exact hnm

theorem allocationOrder_nodup (cs : Vector Channel 8) : (allocationOrder cs).Nodup :=
  (allocationOrder_sorted cs).imp fun h he => by
    subst he
    exact h.elim (Nat.lt_irrefl _) (fun h => lt_irrefl _ h.2)

/-- Every record after the allocation is that of before it, or has been given its part of some remaining current. -/
theorem allocate_channel {p : Profile} {ks : List Chan} (h : ks.Nodup) (r : Nat) (cs : Vector Channel 8) (k : Chan) :
    (allocate p ks r cs)[k] = cs[k] ∨ ∃ n, (allocate p ks r cs)[k] = allotted p k n cs[k] := by
  by_cases hk : k ∈ ks
  · obtain ⟨before, after, rfl⟩ := List.append_of_mem hk
    exact .inr ⟨_, allocate_at h r cs⟩
  · exact .inl (allocate_other hk r cs)

theorem windowStart_get (s : State) (k : Chan) : (windowStart s).heat.channels[k] =
    outputStep s.profile.channels[k].kind
      (allocate s.profile (allocationOrder (demandedChannels s)) s.heat.grant (demandedChannels s))[k] :=
  eachChannel_get _ _ k

/-- The output step lights a heater over a duty alone, which stands for demand, and not at an open OVEN (R30). -/
theorem channelLaw_outputStep {k : Kind} {c : Channel} (hdemand : c.demand ≤ 1000) (hduty : c.duty ≤ c.demand)
    (hserved : c.served = 0) (hintegral : -1000 ≤ c.integral ∧ c.integral ≤ 1000)
    (hidle : heating c.state = false → c.demand = 0) : ChannelLaw k (outputStep k c) where
  demand := hdemand
  duty := hduty
  served := hserved.trans_le (Nat.zero_le _)
  integral := hintegral
  idle := hidle
  heater := fun hh => by
    simp only [outputStep, Bool.and_eq_true, decide_eq_true_eq] at hh ⊢
    refine ⟨?_, by omega⟩
    cases hs : heating c.state
    · have := hidle hs
      omega
    · rfl
  door := fun hh hk => by
    simp only [outputStep, hk, Bool.and_eq_true, decide_true, Bool.true_and, Bool.not_eq_true'] at hh
    exact hh.2

theorem demandedChannels_law {s : State} (h : HeaterLaw s) (k : Chan) :
    (demandedChannels s)[k].demand ≤ 1000 ∧ (demandedChannels s)[k].duty = 0 ∧ (demandedChannels s)[k].served = 0 ∧
      (-1000 ≤ (demandedChannels s)[k].integral ∧ (demandedChannels s)[k].integral ≤ 1000) ∧
      (heating (demandedChannels s)[k].state = false → (demandedChannels s)[k].demand = 0) := by
  have hi : -1000 ≤ (setpointStep (closeWindow s.heat.channels[k])).integral ∧
      (setpointStep (closeWindow s.heat.channels[k])).integral ≤ 1000 := by
    unfold setpointStep
    split <;> exact (h.channels k).integral
  obtain ⟨hdemand, hintegral, hidle⟩ :=
    demandStep_law s.profile.channels[k] (reading s k) s.heat.channels[k].doorSeen hi
  rw [demandedChannels_get]
  refine ⟨hdemand, rfl, ?_, hintegral, hidle⟩
  simp only [demandStep, setpointStep]
  split <;> split <;> rfl

theorem windowStart_law {s : State} (h : HeaterLaw s) (k : Chan) :
    ChannelLaw s.profile.channels[k].kind (windowStart s).heat.channels[k] := by
  obtain ⟨hdemand, hduty, hserved, hintegral, hidle⟩ := demandedChannels_law h k
  rw [windowStart_get]
  obtain he | ⟨n, he⟩ := allocate_channel (allocationOrder_nodup (demandedChannels s)) s.heat.grant
    (p := s.profile) (demandedChannels s) k
  · rw [he]
    exact channelLaw_outputStep hdemand (hduty.trans_le (Nat.zero_le _)) hserved hintegral hidle
  · rw [he]
    exact channelLaw_outputStep hdemand (Nat.min_le_left _ _) hserved hintegral hidle

theorem windowStart_charges (s : State) : chargesSum (windowStart s).heat.channels ≤ s.heat.grant := by
  refine (chargesSum_congr fun k => ?_).trans_le
    (allocate_charges s.profile (allocationOrder (demandedChannels s)) s.heat.grant _ (demandedChannels_charges s))
  rw [windowStart_get]
  rfl

/-- What a window start leaves in the block beside the channels. -/
theorem windowStart_rest (s : State) : (windowStart s).heat.window = { s.heat.window with phase := 0, due := false } ∧
    (windowStart s).heat.grant = s.heat.grant ∧ (windowStart s).heat.overdrawn = false ∧
    (windowStart s).heat.order = allocationOrder (demandedChannels s) := ⟨rfl, rfl, rfl, rfl⟩

theorem HeatSafe.windowStart {s : State} (h : HeatSafe s) (hd : s.heat.window.due = true) :
    HeatSafe (windowStart s) := by
  have hr := h.charge.clock hd
  obtain ⟨hwindow, hgrant, -, -⟩ := windowStart_rest s
  have hclocks : clocksRun (Machine.windowStart s) = true :=
    (clocksRun_congr (windowStart_frame s).life).trans (h.heater.clock (.inl hr))
  refine ⟨heaterLaw_of_running hclocks fun k => ?_, ⟨fun _ => ?_, ?_, ?_⟩⟩
  · rw [(windowStart_frame s).profile]
    exact windowStart_law h.heater k
  · rw [hgrant]
    exact windowStart_charges s
  · simp [hwindow, hr]
  · simp [hwindow]

end Sys2Proof.Machine
end

section
/-! The heater law and the charge law along every step (R23 to R39): the operations of each chapter that reach the heat
channels, and then the commands. -/

namespace Sys2Proof.Machine

variable {s : State}

/-! ## Trips, sweeps and lines (chapters 1 and 2) -/

theorem HeatSafe.trip (h : HeatSafe s) (k : Chan) (cause : TripCause) : HeatSafe (trip k cause s) :=
  ((h.updateChannel (kept_trippedChannel _ cause _)).cold (by decide) (pushReport_frame _ _)).cold (by decide) (raiseCall_frame _ _ _)

theorem HeatSafe.tripCheck (h : HeatSafe s) (entries : Vector Bool 8) (k : Chan) :
    HeatSafe (tripCheck entries k s) := by
  rw [tripCheck_eq]
  cases tripCause entries k s with
  | none => exact h
  | some cause => exact h.trip k cause

theorem HeatSafe.foldl {α : Type} {f : State → α → State} (hf : ∀ s a, HeatSafe s → HeatSafe (f s a)) (h : HeatSafe s)
    (xs : List α) : HeatSafe (xs.foldl f s) := by
  induction xs generalizing s with
  | nil => exact h
  | cons x xs ih => exact ih (hf s x h)

theorem HeatSafe.sweep (h : HeatSafe s) (c : Conversions) : HeatSafe (sweep c s) := by
  have hscan := h.cold (by decide) (s.setScan_frame (convertAll c s.scan))
  cases hj : joined s with
  | false => rwa [sweep_unjoined hj]
  | true =>
    have htrips : HeatSafe (tripChecks (faultEntries s.scan (convertAll c s.scan)) (s.setScan (convertAll c s.scan))) :=
      hscan.foldl (fun _ k hs => hs.tripCheck _ k) _
    rw [sweep_joined hj]
    exact (htrips.cold (by decide) (sweepDish_frame _)).cold (by decide) (sweepStock_frame _)

theorem HeatSafe.deliverLine (h : HeatSafe s) {u : LineUse} (hu : useFits s.profile u = true) (on : Bool) :
    HeatSafe (deliverLine u on s) := by
  cases u with
  | ovenDoor k =>
    cases on
    · exact h.updateChannel (kept_ovenDoorCloses _ _ _)
    · exact h.updateChannel (kept_doorOpens (fun _ => rfl) _)
  | warmerDoor k =>
    have hk : s.profile.channels[k].kind ≠ .oven := fun hk => by
      rw [useFits, decide_eq_true_eq, hk] at hu
      exact nomatch hu
    have hflag : HeatSafe (warmerDoorFlag k on s) := by
      cases on
      · exact h.updateChannel (kept_doorCloses _ _)
      · exact h.updateChannel (kept_doorOpens (fun he => absurd he hk) _)
    exact hflag.cold (by decide) (warmerDoorState_frame k on _)
  | dishEntry =>
    cases on
    · exact h
    · exact h.cold (by decide) (dishEvent_frame (bs := [.bus, .dish, .stock, .paging, .port])
        (fun t => (entryActive_frame t).mono (by decide)) (by decide) s)
  | dishExit =>
    cases on
    · exact h.cold (by decide) (dishEvent_frame (bs := [.bus, .dish, .stock, .paging, .port])
        (fun t => (exitInactive_frame t).mono (by decide)) (by decide) s)
    · exact h.cold (by decide) (dishEvent_frame (bs := [.bus, .dish, .stock, .paging, .port])
        (fun t => (exitActive_frame t).mono (by decide)) (by decide) s)
  | dishDoor =>
    exact h.cold (by decide) (dishEvent_frame (bs := [.dish, .stock]) (fun t => (dishDoor_frame on t).mono (by decide)) (by decide) s)
  | unused => exact h

theorem HeatSafe.lineEdge (h : HeatSafe s) (l : LineNo) : HeatSafe (lineEdge l s) := by
  have ht := h.cold (by decide) (updateLine_frame l (fun x => { x with taken := x.pin, debounce := none }) s)
  exact doWhen_of _ ht (ht.deliverLine (useFits_resolvedUse s.profile l) _)

/-! ## Waves (chapter 9) -/

theorem HeatSafe.onWave (h : HeatSafe s) (n : Nat) {f : Wave → State → State} (hf : ∀ w, HeatSafe (f w s)) :
    HeatSafe (onWave n f s) := by
  unfold Machine.onWave
  split
  · exact hf _
  · exact h

theorem HeatSafe.writeOvenTarget (h : HeatSafe s) (w : Wave) : HeatSafe (writeOvenTarget w s) := by
  unfold Machine.writeOvenTarget writeTarget
  by_cases ht : isTripped s.heat.channels[w.oven].state = true
  · rw [if_pos ht]
    exact h.cold (by decide) (pushReport_frame _ _)
  · rw [if_neg ht]
    exact h.updateChannel (kept_takeTarget _ _ _ _ _ _)

theorem HeatSafe.enterPreheat (h : HeatSafe s) (n : Nat) : HeatSafe (enterPreheat n s) := by
  have hstate := h.cold (by decide) (updateWave_frame n (fun w => { w with state := .preheat, check := some Config.askMs }) s)
  have hasked := (hstate.onWave n fun w => hstate.writeOvenTarget w).cold (by decide) (askSources_frame n _)
  exact (hasked.onWave n fun w => hasked.cold (by decide) (pushReport_frame _ _)).cold (by decide) (firstShortage_frame n _)

/-- The PREHEAT step of a wave at a clock second (R147). -/
def preheatStep (n : Nat) (s : State) : State :=
  onWave n (fun w => doWhen (decide (w.state = .planned) && preheatTime w s) (enterPreheat n)) s

/-- The FIRE-DUE step of a wave at a clock second (R148). -/
def fireDueStep (n : Nat) (s : State) : State :=
  onWave n (fun w => doWhen (decide (w.state = .preheat) && reached s.life.clock w.fire) (enterFireDue n)) s

/-- The LATE step of a wave at a clock second (R153). -/
def lateStep (n : Nat) (s : State) : State :=
  onWave n (fun w => doWhen (decide (w.state ≠ .plating) && !w.late && reached s.life.clock w.pass) (makeLate n)) s

theorem judgeWave_eq (n : Nat) (s : State) :
    judgeWave n s = firstShortage n (lateStep n (fireDueStep n (preheatStep n s))) := rfl

theorem HeatSafe.judgeWave (h : HeatSafe s) (n : Nat) : HeatSafe (judgeWave n s) := by
  have hpreheat : ∀ {t}, HeatSafe t → HeatSafe (preheatStep n t) := fun ht =>
    ht.onWave n fun _ => doWhen_of _ ht (ht.enterPreheat n)
  have hfire : ∀ {t}, HeatSafe t → HeatSafe (fireDueStep n t) := fun ht =>
    ht.onWave n fun _ => doWhen_of _ ht (ht.cold (by decide) (enterFireDue_frame n _))
  have hlate : ∀ {t}, HeatSafe t → HeatSafe (lateStep n t) := fun ht =>
    ht.onWave n fun _ => doWhen_of _ ht (ht.cold (by decide) (makeLate_frame n _))
  rw [judgeWave_eq]
  exact (hlate (hfire (hpreheat h))).cold (by decide) (firstShortage_frame n _)

theorem HeatSafe.judgeWaves (h : HeatSafe s) : HeatSafe (judgeWaves s) :=
  HeatSafe.foldl (fun _ n hs => hs.judgeWave n) h _

theorem HeatSafe.clockSecond (h : HeatSafe s) : HeatSafe (clockSecond s) := by
  unfold Machine.clockSecond
  exact HeatSafe.judgeWaves (h.congr rfl rfl rfl)

theorem HeatSafe.fireFromPlanned (h : HeatSafe s) (w : Wave) : HeatSafe (fireFromPlanned w s) :=
  ((((((h.writeOvenTarget w).cold (by decide) (startCooking_frame _ _)).cold (by decide) (updateWave_frame _ _ _)).cold
    (by decide) (askSources_frame _ _)).cold (by decide) (reportFired_frame _ _ _)).cold (by decide) (firstShortage_frame _ _))

/-! ## Changes of station state (chapters 3, 5 and 6) -/

/-- A grant delivered in a new station state, over the heat channels of a state that kept both laws, with the window clock
as it was or started. -/
theorem HeatSafe.newStation {t : State} (h : HeatSafe s) (hc : t.heat.channels = s.heat.channels)
    (hw : t.heat.window = s.heat.window ∨ t.heat.window.running = true) (hp : t.profile = s.profile)
    (hr : clocksRun t = true) : HeatSafe (Machine.deliverGrant t) := by
  refine deliverGrant_safe (heaterLaw_of_running hr fun k => ?_) (fun hno => ?_) (fun hd => ?_)
  · rw [hc, hp]
    exact h.heater.channels k
  · rw [hc]
    obtain hw | hw := hw
    · exact h.charge.stopped (hw ▸ hno)
    · exact absurd (hw.symm.trans hno) (by simp)
  · obtain hw | hw := hw
    · rw [hw] at hd ⊢
      exact h.charge.clock hd
    · exact hw

theorem clocksRun_of_station {s : State} (h : s.life.station = .active ∨ s.life.station = .isolated ∨
    s.life.station = .duplicate) : clocksRun s = true := by
  simpa [clocksRun, or_assoc] using h

/-- What a change of station state leaves of the block it changes. -/
theorem changeStation_life (dest : Station) (cause : StationCause) (s : State) :
    (changeStation dest cause s).life = { s.life with station := dest } := by
  unfold changeStation
  rw [(pushReport_frame _ _).life]
  rfl

theorem HeatSafe.isolate (h : HeatSafe s) : HeatSafe (isolate s) := by
  have hcall := raiseCall_frame .isolated (ownId s) (changeStation .isolated (.unheard s.share.unacked) s)
  have hstation := changeStation_frame .isolated (.unheard s.share.unacked) s
  refine h.newStation ?_ (.inl ?_) (hcall.profile.trans hstation.profile) (clocksRun_of_station (.inr (.inl ?_)))
  · rw [hcall.heat, hstation.heat]
  · rw [hcall.heat, hstation.heat]
  · rw [hcall.life, changeStation_life]

theorem HeatSafe.rejoin (h : HeatSafe s) : HeatSafe (rejoin s) := by
  have hcall := cancelCall_frame .isolated (ownId s) (changeStation .active .heard s)
  have hstation := changeStation_frame .active .heard s
  refine h.newStation ?_ (.inl ?_) (hcall.profile.trans hstation.profile) (clocksRun_of_station (.inl ?_))
  · rw [hcall.heat, hstation.heat]
  · rw [hcall.heat, hstation.heat]
  · rw [hcall.life, changeStation_life]

theorem HeatSafe.announceResult (h : HeatSafe s) (acked : Bool) : HeatSafe (announceResult acked s) := by
  have hcount := h.cold (by decide) (s.setShare_frame
    { s.share with unacked := if acked then 0 else min 255 (s.share.unacked + 1) })
  unfold Machine.announceResult
  dsimp only
  generalize s.setShare _ = t at hcount ⊢
  by_cases hn : (if acked = true then 0 else min 255 (s.share.unacked + 1)) = Config.isolationCount ∧
      s.life.station = .active
  · rw [if_pos hn]
    exact hcount.isolate
  · rw [if_neg hn]
    split
    · exact hcount.rejoin
    · exact hcount

theorem startClocks_heat (s : State) :
    (startClocks s).heat = { s.heat with window := { running := true, phase := 0, due := true } } := rfl

theorem HeatSafe.endListening (h : HeatSafe s) : HeatSafe (endListening s) := by
  have hstation := changeStation_frame .active .listened s
  have hclocks := startClocks_frame (changeStation .active .listened s)
  refine h.newStation ?_ (.inr ?_) (hclocks.profile.trans hstation.profile) (clocksRun_of_station (.inl ?_))
  · rw [startClocks_heat, hstation.heat]
  · rw [startClocks_heat]
  · rw [hclocks.life, changeStation_life]

theorem HeatSafe.announceTick (h : HeatSafe s) : HeatSafe (announceTick s) := by
  have hwants : HeatSafe (computeWants s) := h.setChannels fun k => by
    rw [eachChannel_get]
    exact kept_wants _ _ _ _
  have hasks : HeatSafe (formAsks s) := hwants.cold (by decide) ((computeWants s).setShare_frame _)
  have hoffer := hasks.deliverGrant.cold (by decide) (offerAnnounce_frame _)
  exact doWhen_of _ hoffer (hoffer.cold (by decide) (offerStock_frame _))

theorem HeatSafe.frameEnded (h : HeatSafe s) (e : TxEntry) (acked : Bool) : HeatSafe (frameEnded e acked s) := by
  unfold Machine.frameEnded
  split
  · exact h.cold (by decide) (fallSilent_frame s)
  · refine doWhen_of _ h ?_
    unfold deliverResult
    split
    · exact h.announceResult acked
    · exact h

theorem HeatSafe.endOnLine (h : HeatSafe s) (acked : Bool) : HeatSafe (endOnLine acked s) := by
  unfold Machine.endOnLine
  split
  · exact (h.cold (by decide) (updateBus_frame _ s)).frameEnded _ acked
  · exact h

theorem HeatSafe.startHead (h : HeatSafe s) : HeatSafe (startHead s) := by
  unfold Machine.startHead
  split
  · split
    · exact (h.cold (by decide) (updateBus_frame _ s)).frameEnded _ false
    · exact h.cold (by decide) (updateBus_frame _ s)
  · exact h

/-- The station silenced by a duplicate identity, before its clocks start and its grant is delivered (R93). -/
def silenced (kind : Nat) (s : State) : State :=
  let t := doWhen (decide (s.life.station = .isolated)) (cancelCall .isolated (ownId (returnFrames
    (changeStation .duplicate (.duplicateId kind) s)))) (returnFrames (changeStation .duplicate (.duplicateId kind) s))
  t.setShare { t.share with unacked := 0 }

theorem enterDuplicate_eq (kind : Nat) (s : State) : enterDuplicate kind s =
    deliverGrant (doWhen (decide (s.life.station = .listening)) startClocks (silenced kind s)) := by
  have hid : ownId (returnFrames (changeStation .duplicate (.duplicateId kind) s)) = ownId s :=
    congrArg Profile.stationId ((returnFrames_frame _).profile.trans (changeStation_frame _ _ s).profile)
  unfold enterDuplicate silenced
  rw [hid]

theorem silenced_frame (kind : Nat) (s : State) :
    SameExcept [.life, .bus, .share, .stock, .waves, .paging, .port] s (silenced kind s) :=
  ((State.setShare_frame _ _).step (doWhen_step (((returnFrames_frame _).step
    ((changeStation_frame _ _ s).mono (by decide)) (by decide))) ((cancelCall_frame _ _ _).mono (by decide))) (by decide))

theorem silenced_life (kind : Nat) (s : State) : (silenced kind s).life = { s.life with station := .duplicate } := by
  unfold silenced
  rw [State.setShare_life, (doWhen_frame _ _ (cancelCall_frame _ _ _)).life, (returnFrames_frame _).life,
    changeStation_life]

theorem HeatSafe.enterDuplicate (h : HeatSafe s) (kind : Nat) : HeatSafe (enterDuplicate kind s) := by
  have hkept := silenced_frame kind s
  have hlife := silenced_life kind s
  rw [enterDuplicate_eq]
  generalize silenced kind s = t at hkept hlife
  have hrun : t.life.station = .duplicate := congrArg Life.station hlife
  cases decide (s.life.station = .listening)
  · exact h.newStation (congrArg Heat.channels hkept.heat) (.inl (congrArg Heat.window hkept.heat)) hkept.profile
      (clocksRun_of_station (.inr (.inr hrun)))
  · have hclocks := startClocks_frame t
    refine h.newStation ?_ (.inr ?_) (hclocks.profile.trans hkept.profile) (clocksRun_of_station (.inr (.inr ?_)))
    · rw [doWhen_true, startClocks_heat, hkept.heat]
    · rw [doWhen_true, startClocks_heat]
    · rw [doWhen_true, hclocks.life, hrun]

theorem HeatSafe.duplicateEvent (h : HeatSafe s) (kind : Nat) : HeatSafe (duplicateEvent kind s) :=
  doWhen_of _ h (h.enterDuplicate kind)

theorem HeatSafe.receive (h : HeatSafe s) (sender kind : Nat) (delivered : Bool) {f : State → State}
    (hf : ∀ t, HeatSafe t → HeatSafe (f t)) : HeatSafe (receive sender kind delivered f s) := by
  have hslot := fun b => h.cold (by decide) (driveSlot_frame b s)
  unfold Machine.receive
  split
  · exact h
  · split
    · exact hslot _
    · split
      · exact (hslot _).duplicateEvent kind
      · exact doWhen_of _ (hslot _) (hf _ (hslot _))

theorem HeatSafe.receiveWorking (h : HeatSafe s) (sender kind : Nat) {f : State → State}
    (hf : ∀ t, HeatSafe t → HeatSafe (f t)) : Always HeatSafe (receiveWorking sender kind f s) :=
  .event h (h.receive sender kind _ hf)

theorem HeatSafe.announceAtTable (h : HeatSafe s) (sender : Nat) (b : AnnounceBody) :
    HeatSafe (announceAtTable sender b s) := h.cold (by decide) (announceAtTable_frame sender b s)

/-! ## JOIN, LEAVE, PROFILE-PUT and SET-CLOCK (chapter 6) -/

/-- JOIN leaves every channel at its beginning but for its door flag and a trip (R9, R38, R90). -/
theorem joinStation_safe (s : State) : HeatSafe (joinStation s) := by
  have hchannel : ∀ k : Chan, ∃ x door, (joinTripped s).heat.channels[k] =
      { Channel.initial s.profile.channels[k].baseClass with state := x, doorFlag := door } ∧ heating x = false := by
    intro k
    refine ⟨_, _, joinTripped_channel s k, ?_⟩
    split <;> rfl
  have hcharges : chargesSum (joinTripped s).heat.channels = 0 :=
    (chargesSum_congr (cs := Vector.replicate 8 (Channel.initial 0)) fun k => by
      obtain ⟨x, door, he, -⟩ := hchannel k
      rw [he]
      simp [Channel.initial]).trans rfl
  obtain ⟨hwindow, -, -, -⟩ := joinTripped_heat s
  rw [joinStation_eq]
  generalize joinTripped s = t at hchannel hcharges hwindow ⊢
  refine ⟨⟨fun k => ?_, ?_, fun _ k => ?_⟩, ⟨fun _ => ?_, fun _ => ?_, ?_⟩⟩
  · obtain ⟨x, door, he, hx⟩ := hchannel k
    rw [State.setHeat_heat, he]
    constructor <;> simp [Channel.initial, hx]
  · simp [hwindow, PeriodClock.stopped]
  · obtain ⟨x, door, he, hx⟩ := hchannel k
    rw [State.setHeat_heat, he]
    exact ⟨rfl, rfl, rfl⟩
  · simp [hcharges]
  · exact hcharges
  · simp [hwindow, PeriodClock.stopped]

/-- Items stored in UNJOINED find every heater off, so a new channel kind binds none. -/
theorem HeatSafe.storeItem (h : HeatSafe s) (hu : s.life.station = .unjoined) (item element v : Nat) :
    HeatSafe (storeItem item element v s) := by
  obtain ⟨⟨hlaw, hclock, hstopped⟩, hcharge⟩ := h
  have hoff : clocksRun s = false := by simp [clocksRun, hu]
  unfold Machine.storeItem
  generalize writeItem item element v s.profile = p
  have hset : HeatSafe (s.setProfile p) :=
    ⟨⟨fun k => (hlaw k).of_off (hstopped hoff k).1, hclock, hstopped⟩, hcharge.within, hcharge.stopped, hcharge.clock⟩
  refine doWhen_of _ hset ?_
  exact hset.updateChannel (k := chanOf element)
    (f := fun c => { c with effClass := p.channels[chanOf element].baseClass }) (kept_effClass _ _ _)

/-! ## The commands -/

/-- What a panel command's body yields need not be proved of the port. -/
theorem HeatSafe.panel (h : HeatSafe s) {code : Nat} {body : State → Except Reason Done}
    (hb : ∀ t, HeatSafe t → Yields HeatSafe (body t)) : Always HeatSafe (panel code body s) :=
  .panel (fun t x ht => ht.cold (by decide) (t.setPort_frame x)) h (hb _ (h.cold (by decide) (endTransaction_frame s)))

theorem HeatSafe.accepted (h : HeatSafe s) (clamped : Bool) : Yields HeatSafe (Machine.accepted s clamped) := .ok h

theorem HeatSafe.event (h : HeatSafe s) {f : State → State} {bs : List Block} (hb : ∀ b ∈ bs, b ∈ coldBlocks)
    (hf : SameExcept bs s (f s)) : Always HeatSafe (Machine.event f s) := .event h (h.cold hb hf)

theorem HeatSafe.expiry (h : HeatSafe s) {due : Bool} {f : State → State} {bs : List Block} (hb : ∀ b ∈ bs, b ∈ coldBlocks)
    (hf : SameExcept bs s (f s)) : Always HeatSafe (Machine.expiry due f s) := .expiry h (h.cold hb hf)

end Sys2Proof.Machine
end

section
/-! Every command and every step keeps the heater law and the charge law. -/

namespace Sys2Proof.Machine

variable {s : State}

/-! ## The bodies of the panel commands -/

theorem HeatSafe.heatable {t : State} (ht : HeatSafe t) (k : Chan) (clamped : Bool) :
    Yields HeatSafe (heatable k s (Machine.accepted t clamped)) :=
  .ite (fun _ => .error _) fun _ => .ite (fun _ => .error _) fun _ => ht.accepted clamped

theorem HeatSafe.heatCommand (h : HeatSafe s) (p : List Word) : Yields HeatSafe (heatCommand p s) := by
  unfold Machine.heatCommand
  split
  · exact .checked fun _ => (h.updateChannel (kept_takeTarget _ _ _ _ _ _)).heatable _ _
  · exact .error _

theorem HeatSafe.heatOffCommand (h : HeatSafe s) (p : List Word) : Yields HeatSafe (heatOffCommand p s) :=
  .oneId fun _ => (h.updateChannel (kept_heatOffChannel _ _)).heatable _ _

theorem HeatSafe.clearTrip (h : HeatSafe s) {k : Chan} {cause : TripCause} (hk : s.heat.channels[k].state = .tripped cause) :
    HeatSafe (clearTrip k cause s) :=
  (h.updateChannel (f := fun c => { c with state := .idle }) (kept_state (.inr (by rw [hk]; rfl)))).cold
    (by decide) (cancelCall_frame _ _ _)

theorem HeatSafe.channelClearCommand (h : HeatSafe s) (p : List Word) :
    Yields HeatSafe (channelClearCommand p s) := by
  refine .oneId fun n => .ite (fun _ => .error _) fun _ => ?_
  split
  · next cause hc => exact .ite (fun _ => (h.clearTrip hc).accepted _) fun _ => .error _
  · exact .error _

theorem HeatSafe.profilePutCommand (h : HeatSafe s) (p : List Word) : Yields HeatSafe (profilePutCommand p s) := by
  unfold Machine.profilePutCommand
  split
  · exact .checked fun hs => (h.storeItem (of_decide_eq_true hs) _ _ _).accepted _
  · exact .error _

theorem joinCommand_safe (p : List Word) (s : State) : Yields HeatSafe (joinCommand p s) := by
  refine .plain fun _ => ?_
  split
  · exact .error _
  · exact (joinStation_safe s).accepted _

theorem leaveCommand_safe (p : List Word) (s : State) : Yields HeatSafe (leaveCommand p s) :=
  .plain fun _ => (heatSafe_initial (p := s.profile) (changeStation_frame .unjoined .left (leaveBlocks s)).heat).accepted _

theorem HeatSafe.setClockCommand (h : HeatSafe s) (p : List Word) : Yields HeatSafe (setClockCommand p s) := by
  unfold Machine.setClockCommand
  split
  · exact .checked fun _ => .ok (h.congr rfl rfl rfl)
  · exact .error _

theorem HeatSafe.dishOnly (h : HeatSafe s) {owner : Except Reason Done} (ho : HeatSafe s → Yields HeatSafe owner) :
    Yields HeatSafe (dishOnly s owner) := .ite (fun _ => ho h) fun _ => .error _

theorem HeatSafe.dishEvent (h : HeatSafe s) {f : State → State}
    (hf : ∀ t, SameExcept [.bus, .dish, .stock, .paging, .port] t (f t)) : HeatSafe (dishEvent f s) :=
  h.cold (by decide) (dishEvent_frame hf (by decide) s)

theorem HeatSafe.dishOnCommand (h : HeatSafe s) (p : List Word) : Yields HeatSafe (dishOnCommand p s) := by
  refine .plain fun _ => h.dishOnly fun h => ?_
  split
  · exact (h.dishEvent fun t => (startDish_frame t).mono (by decide)).accepted _
  · exact h.accepted _
  · exact .error _

theorem HeatSafe.dishOffCommand (h : HeatSafe s) (p : List Word) : Yields HeatSafe (dishOffCommand p s) :=
  .plain fun _ => h.dishOnly fun h => .ite (fun _ => h.accepted _) fun _ =>
    (h.dishEvent fun t => (stopDish_frame t).mono (by decide)).accepted _

theorem HeatSafe.dishSpeedCommand (h : HeatSafe s) (p : List Word) : Yields HeatSafe (dishSpeedCommand p s) :=
  .oneNumber fun _ => h.dishOnly fun h => (h.cold (by decide) (updateDish_frame _ s)).accepted _

theorem HeatSafe.dishResumeCommand (h : HeatSafe s) (p : List Word) : Yields HeatSafe (dishResumeCommand p s) :=
  .plain fun _ => h.dishOnly fun h => .ite
    (fun _ => (h.dishEvent fun t => (resumeDish_frame t).mono (by decide)).accepted _) fun _ => .error _

theorem HeatSafe.nextRackCommand (h : HeatSafe s) (p : List Word) : Yields HeatSafe (nextRackCommand p s) :=
  .oneNumber fun _ => h.dishOnly fun h => (h.cold (by decide) (updateDish_frame _ s)).accepted _

theorem HeatSafe.pickupCommand (h : HeatSafe s) (p : List Word) : Yields HeatSafe (pickupCommand p s) :=
  .oneNumber fun _ => h.dishOnly fun h => (h.dishEvent fun t => (updateDish_frame _ t).mono (by decide)).accepted _

theorem HeatSafe.putPlates (h : HeatSafe s) (k : Chan) (n : Nat) (clamped : Bool) :
    Yields HeatSafe (putPlates k n clamped s) := by
  refine .ite (fun _ => .error _) fun _ => .ite (fun _ => .ok (h.cold (by decide) (changeStock_frame _ s))) fun _ => ?_
  split
  · exact .ite (fun _ => .error _) fun _ => .ok (h.cold (by decide) (changeStock_frame _ s))
  · exact .error _

theorem HeatSafe.loadCommand (h : HeatSafe s) (p : List Word) : Yields HeatSafe (loadCommand p s) := by
  unfold Machine.loadCommand
  split
  · exact .checked fun _ => .ite (fun _ => h.putPlates _ _ _) fun _ => .error _
  · exact .error _

theorem HeatSafe.takeTagged (h : HeatSafe s) (k : Chan) (asked : Nat) (clamped : Bool) (tag : Nat) :
    Yields HeatSafe (takeTagged k asked clamped tag s) := by
  unfold Machine.takeTagged
  split
  · exact .error _
  · exact .ok ((h.cold (by decide) (changeStock_frame _ s)).cold (by decide) (tellAsker_frame _ _ _ _))

theorem HeatSafe.takeCommand (h : HeatSafe s) (p : List Word) : Yields HeatSafe (takeCommand p s) := by
  unfold Machine.takeCommand
  split
  · exact .checked fun _ => .ite (fun _ => .ok (h.cold (by decide) (changeStock_frame _ s))) fun _ => .error _
  · exact .checked fun _ => .ite (fun _ => h.takeTagged _ _ _ _) fun _ => .error _
  · exact .error _

theorem HeatSafe.planCommand (h : HeatSafe s) (q : PlanWords) : Yields HeatSafe (planCommand q s) :=
  .checked fun _ => .ite (fun _ => .error _) fun _ => .ite (fun _ => .error _) fun _ => .ite (fun _ => .error _) fun _ =>
    .ite (fun _ => .error _) fun _ => ((h.cold (by decide) (s.setWaves_frame _)).cold (by decide) (pushReport_frame _ _)).accepted _

theorem HeatSafe.wavePlanCommand (h : HeatSafe s) (p : List Word) : Yields HeatSafe (wavePlanCommand p s) := by
  unfold Machine.wavePlanCommand
  split
  · exact h.planCommand _
  · exact h.planCommand _
  · exact .error _

theorem yields_waveCommand {P : State → Prop} {p : List Word} {owner : Wave → Except Reason Done}
    (ho : ∀ w, Yields P (owner w)) : Yields P (waveCommand p s owner) := by
  refine .oneId fun n => ?_
  split
  · exact ho _
  · exact .error _

theorem HeatSafe.waveFireCommand (h : HeatSafe s) (p : List Word) : Yields HeatSafe (waveFireCommand p s) := by
  refine yields_waveCommand fun w => ?_
  split
  · exact .ite (fun _ => .error _) fun _ => (h.fireFromPlanned w).accepted _
  · exact .ite (fun _ => .error _) fun _ => ((h.cold (by decide) (startCooking_frame _ s)).cold (by decide) (reportFired_frame _ _ _)).accepted _
  · exact .ite (fun _ => .error _) fun _ =>
      (((h.cold (by decide) (startCooking_frame _ s)).cold (by decide) (cancelCall_frame _ _ _)).cold (by decide) (reportFired_frame _ _ _)).accepted _
  · exact .error _

theorem HeatSafe.wavePlateCommand (h : HeatSafe s) (p : List Word) : Yields HeatSafe (wavePlateCommand p s) :=
  yields_waveCommand fun w => .ite (fun _ => (h.cold (by decide) (plateWave_frame w s)).accepted _) fun _ => .error _

theorem HeatSafe.waveCloseCommand (h : HeatSafe s) (p : List Word) : Yields HeatSafe (waveCloseCommand p s) := by
  refine yields_waveCommand fun w => ?_
  split
  · exact (h.cold (by decide) (closeWave_frame w s)).accepted _
  · exact (h.cold (by decide) (closeWave_frame w s)).accepted _
  · exact .error _

theorem HeatSafe.waveCancelCommand (h : HeatSafe s) (p : List Word) : Yields HeatSafe (waveCancelCommand p s) :=
  yields_waveCommand fun w => (h.cold (by decide) (cancelWave_frame w s)).accepted _

theorem HeatSafe.pageCommand (h : HeatSafe s) (p : List Word) : Yields HeatSafe (pageCommand p s) := by
  unfold Machine.pageCommand
  split
  · refine .checked fun _ => ?_
    dsimp only
    split
    · exact .ok h
    · split
      · next t ht => exact .ok ((h.cold (by decide) (makeRoom_frame _ _ _ ht)).cold (by decide) (enterCall_frame _ _ _ _ _))
      · exact .error _
  · exact .error _

theorem HeatSafe.callEndCommand (h : HeatSafe s) (p : List Word) : Yields HeatSafe (callEndCommand p s) := by
  refine .oneId fun n => ?_
  split
  · exact .error _
  · exact .ite (fun _ => (h.cold (by decide) (withdrawCall_frame _ s)).accepted _) fun _ => .error _

theorem HeatSafe.dutyCommand (h : HeatSafe s) (p : List Word) : Yields HeatSafe (dutyCommand p s) := by
  unfold Machine.dutyCommand
  split
  · exact .checked fun _ => .ite (fun _ => .error _) fun _ => .ite (fun _ => .error _) fun _ =>
      (h.cold (by decide) (setDuty_frame _ _ s)).accepted _
  · exact .error _

theorem HeatSafe.allCallCommand (h : HeatSafe s) (p : List Word) : Yields HeatSafe (allCallCommand p s) :=
  .oneNumber fun _ => .ite (fun _ => .error _) fun _ => .ite (fun _ => .error _) fun _ =>
    (h.cold (by decide) (startAllCall_frame _ s)).accepted _

theorem HeatSafe.allCallEndCommand (h : HeatSafe s) (p : List Word) : Yields HeatSafe (allCallEndCommand p s) :=
  .plain fun _ => .ite (fun _ => .error _) fun _ => .ite (fun _ => .error _) fun _ =>
    (h.cold (by decide) (endAllCall_frame _ s)).accepted _

theorem HeatSafe.queryCommand (h : HeatSafe s) (p : List Word) : Yields HeatSafe (queryCommand p s) := by
  unfold Machine.queryCommand
  split
  · exact .checked fun _ => .ok h
  · exact .error _

theorem HeatSafe.readReportCommand (h : HeatSafe s) (p : List Word) : Yields HeatSafe (readReportCommand p s) := by
  refine .plain fun _ => ?_
  unfold takeReport
  split
  · exact .ok (h.cold (by decide) (s.setPort_frame _))
  · exact .ok h

/-! ## The modem line and the own records of the port -/

theorem HeatSafe.modemRecord (h : HeatSafe s) {f : State → State}
    (hf : ∀ t, SameExcept [.bus, .paging, .port] t (f t)) : Always HeatSafe (modemRecord f s) :=
  have hstop := h.cold (by decide) (stopCollecting_frame s)
  .event h (doWhen_of _ hstop (hstop.cold (by decide) (hf _)))

theorem HeatSafe.endWith (h : HeatSafe s) {f : State → State} (hf : ∀ t, SameExcept [.port] t (f t)) :
    Always HeatSafe (endWith f s) :=
  have hend := h.cold (by decide) (endTransaction_frame s)
  .endWith hend (hend.cold (by decide) (hf _))

theorem HeatSafe.restart (h : HeatSafe s) (p : List Word) : Always HeatSafe (execRestart p s) := by
  have hend := h.cold (by decide) (endTransaction_frame s)
  refine .next ?_
  split
  · exact hend
  · cases p with
    | nil => exact heatSafe_initial rfl
    | cons w ws => exact hend.cold (by decide) (setReply_frame _ _)

/-! ## One command -/

/-- Every command keeps the heater law and the charge law. -/
theorem HeatSafe.exec (h : HeatSafe s) (c : Instr) : Always HeatSafe (exec c s) := by
  cases c with
  | resetAssert => exact .next (heatSafe_initial rfl)
  | resetRelease => exact .next (doWhen_of _ h (heatSafe_initial rfl))
  | restartRelease => exact .next (doWhen_of _ h (heatSafe_initial rfl))
  | restart p => exact h.restart p
  | sweepCompletion c => exact .expiry h (h.sweep c)
  | linePinChange l high => exact .next (h.cold (by decide) (updateLine_frame _ _ s))
  | lineEdge l => exact .expiry h (h.lineEdge l)
  | encoderPulse => exact h.event (by decide) (pulse_frame s)
  | windowStart => exact .expiry_of_due h h.windowStart
  | onTimeEnd k => exact .expiry h (h.updateChannel (kept_heaterOff _ _))
  | heat p => exact h.panel fun t ht => ht.heatCommand p
  | heatOff p => exact h.panel fun t ht => ht.heatOffCommand p
  | channelClear p => exact h.panel fun t ht => ht.channelClearCommand p
  | frameStart => exact .event h (doWhen_of _ h h.startHead)
  | arbitrationLost => exact h.event (by decide) (updateBus_frame requeue s)
  | bitFault => exact .event h (h.endOnLine false)
  | frameResult acked => exact .event h (h.endOnLine acked)
  | lineStuck => exact .event h (doWhen_of _ h (h.cold (by decide) (findStuck_frame s)))
  | lineClear => exact .event h (doWhen_of _ h (h.cold (by decide) (findClear_frame s)))
  | badFrame bytes => exact .event h (doWhen_of _ h (h.cold (by decide) (driveSlot_frame false s)))
  | frameMismatch bytes => exact .event h (h.receive _ _ _ fun t ht => ht)
  | duplicateId kind => exact .event h (doWhen_of _ h ((h.cold (by decide) (driveSlot_frame false s)).duplicateEvent kind))
  | leavingAnnounceTimeout => exact h.expiry (by decide) (dropLeaving_frame s)
  | announce sender b =>
    exact .event h (h.receive _ _ _ fun t ht => (ht.announceAtTable sender b).deliverGrant)
  | silenceStale peer => exact h.expiry (by decide) (updatePeer_frame peer _ s)
  | silenceRemove peer => exact h.expiry (by decide) (removeSilent_frame peer s)
  | stock sender b => exact .event h (h.receive _ _ _ fun t ht => ht.cold (by decide) (stockAtTable_frame sender b t))
  | stockAgeExpiry peer => exact h.expiry (by decide) (updatePeer_frame peer _ s)
  | announceTick => exact .expiry h h.announceTick
  | listeningTimerExpiry => exact .expiry h h.endListening
  | profilePut p => exact h.panel fun t ht => ht.profilePutCommand p
  | join p => exact h.panel fun t _ => joinCommand_safe p t
  | leave p => exact h.panel fun t _ => leaveCommand_safe p t
  | setClock p => exact h.panel fun t ht => ht.setClockCommand p
  | clockSecond => exact .expiry h h.clockSecond
  | dishOn p => exact h.panel fun t ht => ht.dishOnCommand p
  | dishOff p => exact h.panel fun t ht => ht.dishOffCommand p
  | dishSpeed p => exact h.panel fun t ht => ht.dishSpeedCommand p
  | dishResume p => exact h.panel fun t ht => ht.dishResumeCommand p
  | nextRack p => exact h.panel fun t ht => ht.nextRackCommand p
  | pickup p => exact h.panel fun t ht => ht.pickupCommand p
  | jamTimerExpiry => exact .expiry h (h.dishEvent fun t => (jam_frame t).mono (by decide))
  | rinseHoldTimeExpiry =>
    exact .expiry h ((h.cold (by decide) (updateDish_frame (fun d => { d with rinseCalled := true }) s)).cold (by decide) (raiseCall_frame _ _ _))
  | idleTimeExpiry => exact .expiry h (h.dishEvent fun t => (updateHolds_frame _ t).mono (by decide))
  | load p => exact h.panel fun t ht => ht.loadCommand p
  | take p => exact h.panel fun t ht => ht.takeCommand p
  | coolingReset k => exact h.expiry (by decide) (coolingReset_frame k s)
  | holdAsk sender b =>
    exact h.receiveWorking _ _ fun t ht => doWhen_of _ ht (ht.cold (by decide) (answerPeer_frame sender b t))
  | holdFree sender b =>
    exact h.receiveWorking _ _ fun t ht => doWhen_of _ ht (ht.cold (by decide) (freeHold_frame sender b.tag b.wave b.channel t))
  | holdExpiry tag => exact h.expiry (by decide) (expireHold_frame tag s)
  | stockTick => exact h.expiry (by decide) (stockTick_frame s)
  | wavePlan p => exact h.panel fun t ht => ht.wavePlanCommand p
  | waveFire p => exact h.panel fun t ht => ht.waveFireCommand p
  | wavePlate p => exact h.panel fun t ht => ht.wavePlateCommand p
  | waveClose p => exact h.panel fun t ht => ht.waveCloseCommand p
  | waveCancel p => exact h.panel fun t ht => ht.waveCancelCommand p
  | cookTimer wave => exact h.expiry (by decide) (cookSecond_frame wave s)
  | askCheck wave => exact h.expiry (by decide) (askCheck_frame wave s)
  | answerTimerExpiry wave second => exact h.expiry (by decide) (answerExpiry_frame wave second s)
  | holdAnswer sender b =>
    exact h.receiveWorking _ _ fun t ht => doWhen_of _ ht (ht.cold (by decide) (takeAnswer_frame sender b t))
  | holdState sender b =>
    exact h.receiveWorking _ _ fun t ht => doWhen_of _ ht (ht.cold (by decide) (takeHoldState_frame sender b t))
  | page p => exact h.panel fun t ht => ht.pageCommand p
  | callEnd p => exact h.panel fun t ht => ht.callEndCommand p
  | duty p => exact h.panel fun t ht => ht.dutyCommand p
  | allCall p => exact h.panel fun t ht => ht.allCallCommand p
  | allCallEnd p => exact h.panel fun t ht => ht.allCallEndCommand p
  | broadcastTimerExpiry number => exact h.expiry (by decide) (broadcastExpiry_frame number s)
  | pageCall sender b => exact h.receiveWorking _ _ fun t ht => ht.cold (by decide) (serveCall_frame sender b t)
  | pageState sender b =>
    exact h.receiveWorking _ _ fun t ht => doWhen_of _ ht (ht.cold (by decide) (pageStateAtOrigin_frame b t))
  | pageCancel sender number => exact h.receiveWorking _ _ fun t ht => ht.cold (by decide) (serveCancel_frame sender number t)
  | modemRecordSent => exact h.event (by decide) (recordSent_frame s)
  | result tag r => exact h.modemRecord (takeResult_frame tag r)
  | resultTimeout => exact h.expiry (by decide) (resultMissing_frame s)
  | ack address tag => exact h.modemRecord (takeAck_frame address tag)
  | dutyRecord address on => exact h.modemRecord fun t => (takeDuty_frame address on t).mono (by decide)
  | ready => exact h.modemRecord takeReady_frame
  | modemInterbyteTimeout => exact h.event (by decide) (stopCollecting_frame s)
  | busyTimerExpiry tag =>
    exact .expiry h ((h.cold (by decide) (updatePaged_frame tag (fun c => { c with busyTimer := none }) s)).cold (by decide) (arbitrate_frame _))
  | ackTimerExpiry tag =>
    exact .expiry h ((h.cold (by decide) (updatePaged_frame tag (fun c => { c with ackTimer := none }) s)).cold (by decide) (arbitrate_frame _))
  | allRecordDue => exact .expiry h ((h.cold (by decide) (markAllDue_frame s)).cold (by decide) (arbitrate_frame _))
  | allCallExpiry => exact h.expiry (by decide) (endAllCall_frame true s)
  | transactionStart => exact .next (h.cold (by decide) (setTransaction_frame _ s))
  | incompleteCommand code => exact h.endWith fun t => setReply_frame _ t
  | statusOnlyEnd => exact .next (h.cold (by decide) (endTransaction_frame s))
  | unknownCommand code => exact h.endWith fun t => setReply_frame _ t
  | nothing p => exact h.endWith fun t => nothingCommand_frame p t
  | query p => exact h.panel fun t ht => ht.queryCommand p
  | readReport p => exact h.panel fun t ht => ht.readReportCommand p
  | startByte => exact h.event (by decide) (s.setPaging_frame _)
  | modemRecordDiscarded c => exact h.event (by decide) (stopCollecting_frame s)

/-! ## One step -/

/-- A clock that ticks goes on running or standing, and only a running one comes due. -/
theorem tickOf_running (period : Nat) (c : PeriodClock) : (c.tickOf period).running = c.running ∧
    ((c.tickOf period).due = true → c.running = true ∨ c.due = true) := by
  unfold PeriodClock.tickOf
  split
  · exact ⟨rfl, .inr⟩
  · next hr =>
    split
    · exact ⟨rfl, fun _ => .inl (by simpa using hr)⟩
    · exact ⟨rfl, .inr⟩

theorem HeatSafe.passTime (h : HeatSafe s) : HeatSafe (passTime s) := by
  obtain ⟨hr, hd⟩ := tickOf_running Config.windowMs s.heat.window
  refine h.channels (cs := s.heat.channels.map tickChannel) (w := s.heat.window.tickOf Config.windowMs) rfl rfl rfl hr hd
    fun k => ?_
  simpa using kept_tickChannel s.profile.channels[k].kind s.heat.channels[k]

theorem HeatSafe.idle (h : HeatSafe s) : HeatSafe (idle s) := by
  unfold Machine.idle
  split
  · exact h.cold (by decide) (s.setPending_frame _)
  · split
    · exact h
    · unfold advance
      split
      · exact h.passTime
      · exact h
      · exact h.cold (by decide) (s.setResetting_frame _)

theorem HeatSafe.step (h : HeatSafe s) : Always HeatSafe (step s) := by
  unfold Machine.step
  split
  · exact (h.cold (by decide) (s.setPending_frame _)).exec _
  · exact .next h.idle

/-- Settles O58: the laws are kept by each operation on the heat channels, so by each command and by each millisecond. -/
theorem stepKeepsTheHeaterAndChargeLaws : Obligations.StepKeepsTheHeaterAndChargeLaws := by
  unfold Obligations.StepKeepsTheHeaterAndChargeLaws
  intro s t hheater hcharge hstep
  obtain ⟨hheater', hcharge'⟩ := HeatSafe.step ⟨hheater, hcharge⟩ t hstep
  exact ⟨hheater', hcharge'⟩

end Sys2Proof.Machine
end

section
/-! The window start channel by channel (R24 to R30). -/

namespace Sys2Proof.Machine

/-! ## The record a window start leaves -/

/-- The output step and the allocation touch nothing of a record but its duty, charge, on-time and heater. -/
theorem windowStart_channel (s : State) (k : Chan) : ∃ duty charge onTime heater,
    (windowStart s).heat.channels[k] = { (demandedChannels s)[k] with
      duty := duty, charge := charge, onTime := onTime, heater := heater } := by
  rw [windowStart_get]
  obtain he | ⟨n, he⟩ := allocate_channel (allocationOrder_nodup (demandedChannels s)) s.heat.grant
    (p := s.profile) (demandedChannels s) k
  · exact ⟨_, _, _, _, by rw [he]; rfl⟩
  · exact ⟨_, _, _, _, by rw [he]; rfl⟩

theorem setpointOf_stateFor (p : Setpoint) : setpointOf (stateFor p) = some p := by
  unfold stateFor
  split <;> rfl

theorem demandedChannels_of_no_target {s : State} {k : Chan} (h : setpointOf s.heat.channels[k].state = none) :
    (demandedChannels s)[k] =
      { closeWindow s.heat.channels[k] with demand := 0, duty := 0, effClass := classNow s k } := by
  have hstep : setpointStep (closeWindow s.heat.channels[k]) = closeWindow s.heat.channels[k] := by
    rw [setpointStep, closeWindow, h]
  have hdemand : demandStep s.profile.channels[k] (reading s k) s.heat.channels[k].doorSeen
      (closeWindow s.heat.channels[k]) = { closeWindow s.heat.channels[k] with demand := 0 } := by
    rw [demandStep, closeWindow, h]
  rw [demandedChannels_get, hstep, hdemand]

/-- A heating channel's setpoint moves, and its integral and demand follow from the error at the new setpoint (R25, R26). -/
theorem demandedChannels_of_target {s : State} {k : Chan} {p : Setpoint}
    (h : setpointOf s.heat.channels[k].state = some p) :
    (demandedChannels s)[k] = { closeWindow s.heat.channels[k] with
      state := stateFor (stepSetpoint p)
      integral := nextIntegral s.profile.channels[k] (closeWindow s.heat.channels[k])
        ((stepSetpoint p).w - reading s k) s.heat.channels[k].doorSeen
      demand := (clampInt 0 1000 (proportional s.profile.channels[k] ((stepSetpoint p).w - reading s k) +
        nextIntegral s.profile.channels[k] (closeWindow s.heat.channels[k])
          ((stepSetpoint p).w - reading s k) s.heat.channels[k].doorSeen)).toNat
      duty := 0
      effClass := classNow s k } := by
  have hstep : setpointStep (closeWindow s.heat.channels[k]) =
      { closeWindow s.heat.channels[k] with state := stateFor (stepSetpoint p) } := by
    rw [setpointStep, closeWindow, h]
  rw [demandedChannels_get, hstep, demandStep, setpointOf_stateFor]
  rfl

theorem stepSetpoint_eq (p : Setpoint) : stepSetpoint p = { p with
    w := if p.ramp = 0 ∨ (p.target - p.w ≤ p.ramp ∧ p.w - p.target ≤ p.ramp) then p.target
      else if p.w < p.target then p.w + p.ramp else p.w - p.ramp } := by
  unfold stepSetpoint
  have hc : (p.ramp = 0 ∨ (p.target - p.w).natAbs ≤ p.ramp) ↔
      (p.ramp = 0 ∨ (p.target - p.w ≤ p.ramp ∧ p.w - p.target ≤ p.ramp)) := by
    have habs (a b : Int) (r : Nat) : (a - b).natAbs ≤ r ↔ a - b ≤ r ∧ b - a ≤ r := by omega
    exact or_congr_right (habs _ _ _)
  simp only [hc]
  split
  · rfl
  · split <;> rfl

/-- The integral stands still in a window without integral part, at full or cut duty below the setpoint, at no demand above
it, and after an open door (R27). -/
def Freezes (s : State) (k : Chan) (w : Int) : Prop :=
  s.profile.channels[k].integralWindows = 0 ∨
    (s.heat.channels[k].duty = 1000 ∧ reading s k < w) ∨
    (s.heat.channels[k].duty < s.heat.channels[k].demand ∧ reading s k < w) ∨
    (s.heat.channels[k].demand = 0 ∧ w < reading s k) ∨ s.heat.channels[k].doorSeen = true

theorem frozen_iff (c : Channel) (w r : Int) (seen : Bool) : frozen c (w - r) seen = true ↔
    (c.prevDuty = 1000 ∧ r < w) ∨ (c.prevDuty < c.prevDemand ∧ r < w) ∨ (c.prevDemand = 0 ∧ w < r) ∨ seen = true := by
  have hneg : w - r < 0 ↔ w < r := by omega
  simp only [frozen, Bool.or_eq_true, Bool.and_eq_true, decide_eq_true_eq, Int.sub_pos, hneg, or_assoc]

theorem freezes_iff (s : State) (k : Chan) (w : Int) : Freezes s k w ↔ (s.profile.channels[k].integralWindows = 0 ∨
    frozen (closeWindow s.heat.channels[k]) (w - reading s k) s.heat.channels[k].doorSeen = true) :=
  or_congr_right (frozen_iff (closeWindow s.heat.channels[k]) w (reading s k) _).symm

theorem nextIntegral_of_freezes {s : State} {k : Chan} {w : Int} (h : Freezes s k w) :
    nextIntegral s.profile.channels[k] (closeWindow s.heat.channels[k]) (w - reading s k)
      s.heat.channels[k].doorSeen = s.heat.channels[k].integral := if_pos ((freezes_iff s k w).1 h)

theorem nextIntegral_of_not_freezes {s : State} {k : Chan} {w : Int} (h : ¬ Freezes s k w) :
    nextIntegral s.profile.channels[k] (closeWindow s.heat.channels[k]) (w - reading s k)
      s.heat.channels[k].doorSeen = max (-1000) (min 1000 (s.heat.channels[k].integral +
        Int.tdiv ((w - reading s k) * 1000)
          ((s.profile.channels[k].band : Int) * s.profile.channels[k].integralWindows))) :=
  if_neg fun hf => h ((freezes_iff s k w).2 hf)

theorem exec_windowStart {s : State} (h : awake s = true) (hd : s.heat.window.due = true) :
    exec .windowStart s = .next (windowStart s) := expiry_of_due h hd _

/-- Settles O9: the record of each channel is read off the steps of the window start in their order. -/
theorem windowStartStepsSetpointAndDemand : Obligations.WindowStartStepsSetpointAndDemand := by
  unfold Obligations.WindowStartStepsSetpointAndDemand
  intro s h hd
  refine ⟨windowStart s, exec_windowStart h hd, fun k => ?_⟩
  obtain ⟨duty, charge, onTime, heater, he⟩ := windowStart_channel s k
  cases hp : setpointOf s.heat.channels[k].state with
  | none =>
    rw [he, demandedChannels_of_no_target hp]
    refine ⟨rfl, rfl, rfl, rfl, rfl, fun _ => ⟨rfl, rfl, rfl⟩, ?_⟩
    rintro p ⟨⟩
  | some p =>
    have hw := stepSetpoint_eq p
    rw [he, demandedChannels_of_target hp]
    refine ⟨rfl, rfl, rfl, rfl, rfl, (nomatch ·), ?_⟩
    rintro q ⟨⟩
    refine ⟨(stepSetpoint p).w, congrArg Setpoint.w hw, ?_, nextIntegral_of_freezes, nextIntegral_of_not_freezes, ?_⟩
    · have htarget : stepSetpoint p = { p with w := (stepSetpoint p).w } := by rw [hw]
      exact congrArg stateFor htarget
    · exact Int.toNat_of_nonneg (clampInt_within (by decide) _).1

/-! ## The published classes (R28, R122, R140, R159) -/

theorem foldl_max_spec (xs : List Nat) (a : Nat) : a ≤ xs.foldl max a ∧ (∀ x ∈ xs, x ≤ xs.foldl max a) ∧
    (xs.foldl max a = a ∨ xs.foldl max a ∈ xs) := by
  induction xs generalizing a with
  | nil => simp
  | cons x xs ih =>
    obtain ⟨hle, hall, hmem⟩ := ih (max a x)
    simp only [List.foldl_cons, List.mem_cons, forall_eq_or_imp]
    refine ⟨(Nat.le_max_left a x).trans hle, ⟨(Nat.le_max_right a x).trans hle, hall⟩, ?_⟩
    obtain he | hm := hmem
    · rw [he]
      omega
    · exact .inr (.inr hm)

/-- The elevation of an oven is the highest class of its waves (R159). -/
theorem waveElevation_spec (s : State) (k : Chan) :
    (∀ w ∈ s.waves, w.oven = k → waveClass w.state ≤ waveElevation s k) ∧
      (waveElevation s k = 0 ∨ ∃ w ∈ s.waves, w.oven = k ∧ waveClass w.state = waveElevation s k) := by
  obtain ⟨-, hall, hmem⟩ := foldl_max_spec
    ((s.waves.filter (fun w => decide (w.oven = k))).map (fun w => waveClass w.state)) 0
  refine ⟨fun w hw ho => hall _ (List.mem_map_of_mem (List.mem_filter.2 ⟨hw, decide_eq_true ho⟩)), hmem.imp_right ?_⟩
  intro hm
  obtain ⟨w, hw, he⟩ := List.mem_map.1 hm
  obtain ⟨hmem, ho⟩ := List.mem_filter.1 hw
  exact ⟨w, hmem, of_decide_eq_true ho, he⟩

theorem waveClass_eq_two {x : WaveState} : waveClass x = 2 ↔ x = .preheat ∨ x = .fireDue ∨ x = .cooking := by
  cases x <;> simp [waveClass]

theorem waveClass_eq_one {x : WaveState} : waveClass x = 1 ↔ x = .done ∨ x = .plating := by
  cases x <;> simp [waveClass]

theorem waveClass_le (x : WaveState) : waveClass x ≤ 2 := by cases x <;> decide

theorem publishedClass_oven {s : State} {k : Chan} (h : s.profile.channels[k].kind = .oven) :
    PublishedClass s k (waveElevation s k) := by
  obtain ⟨hall, hmem⟩ := waveElevation_spec s k
  have hle : waveElevation s k ≤ 2 := by
    obtain he | ⟨w, -, -, he⟩ := hmem
    · omega
    · have := waveClass_le w.state
      omega
  unfold PublishedClass
  rw [h]
  intro hot warm hhot hwarm
  have hreach : ∀ w ∈ s.waves, w.oven = k → (waveClass w.state = 2 → hot) ∧ (waveClass w.state = 1 → warm) :=
    fun w hw ho => ⟨fun hc => hhot.2 ⟨w, hw, ho, waveClass_eq_two.1 hc⟩, fun hc => hwarm.2 ⟨w, hw, ho, waveClass_eq_one.1 hc⟩⟩
  refine ⟨fun hh => ?_, fun hno hw => ?_, fun hno hnw => ?_⟩
  · obtain ⟨w, hw, ho, hs⟩ := hhot.1 hh
    have := hall w hw ho
    rw [waveClass_eq_two.2 hs] at this
    omega
  · obtain ⟨w, hw, ho, hs⟩ := hwarm.1 hw
    have hone := hall w hw ho
    rw [waveClass_eq_one.2 hs] at hone
    obtain he | ⟨x, hx, hxo, he⟩ := hmem
    · omega
    · have hnot : waveClass x.state ≠ 2 := fun hc => hno ((hreach x hx hxo).1 hc)
      omega
  · obtain he | ⟨x, hx, hxo, he⟩ := hmem
    · exact he
    · have hnot : waveClass x.state ≠ 2 := fun hc => hno ((hreach x hx hxo).1 hc)
      have hnot' : waveClass x.state ≠ 1 := fun hc => hnw ((hreach x hx hxo).2 hc)
      omega

theorem publishedClass_elevation (s : State) (k : Chan) : PublishedClass s k (elevation s k) := by
  cases hk : s.profile.channels[k].kind with
  | unused =>
    rw [elevation, hk, PublishedClass, hk]
  | oven =>
    rw [elevation, hk]
    exact publishedClass_oven hk
  | warmer =>
    have hempty : (holdsOn s.stock k).isEmpty = true ↔ ∀ h ∈ s.stock.holds, h.channel ≠ k := by
      simp [holdsOn, List.filter_eq_nil_iff]
    rw [elevation, hk, PublishedClass, hk]
    refine ⟨fun ⟨h, hm, hc⟩ => if_neg fun he => hempty.1 he h hm hc, fun hnone => if_pos (hempty.2 hnone)⟩
  | booster =>
    rw [elevation, hk, PublishedClass, hk]
    cases hm : s.dish.mode <;> simp [dishElevation, hm]
  | tank =>
    rw [elevation, hk, PublishedClass, hk]
    cases hm : s.dish.mode <;> simp [dishElevation, hm]

/-! ## The division of the grant (R29, R30) -/

theorem windowStart_class (s : State) (k : Chan) : (windowStart s).heat.channels[k].effClass = classNow s k ∧
    (windowStart s).heat.channels[k].demand = (demandedChannels s)[k].demand ∧
    (demandedChannels s)[k].effClass = classNow s k ∧
    (windowStart s).heat.channels[k].want = s.heat.channels[k].want := by
  obtain ⟨duty, charge, onTime, heater, he⟩ := windowStart_channel s k
  rw [he, demandedChannels_get]
  refine ⟨rfl, rfl, rfl, ?_⟩
  simp only [demandStep, setpointStep]
  split <;> split <;> rfl

theorem demandedChannels_rest (s : State) (k : Chan) :
    (demandedChannels s)[k].duty = 0 ∧ (demandedChannels s)[k].charge = 0 := by
  rw [demandedChannels_get]
  refine ⟨rfl, ?_⟩
  simp only [demandStep, setpointStep]
  split <;> split <;> rfl

/-- Every channel's charge is its duty of its rated load (R29), and its outputs follow from its duty (R30). -/
theorem windowStart_output (s : State) (k : Chan) :
    (windowStart s).heat.channels[k].charge =
        ((windowStart s).heat.channels[k].duty * s.profile.channels[k].load + 999) / 1000 ∧
      (windowStart s).heat.channels[k].onTime = (windowStart s).heat.channels[k].duty * 10 ∧
      ((windowStart s).heat.channels[k].heater = true ↔ 0 < (windowStart s).heat.channels[k].duty ∧
        ¬ (s.profile.channels[k].kind = .oven ∧ (windowStart s).heat.channels[k].doorFlag = true)) := by
  obtain ⟨hduty, hcharge⟩ := demandedChannels_rest s k
  rw [windowStart_get]
  refine ⟨?_, rfl, ?_⟩
  · obtain he | ⟨n, he⟩ := allocate_channel (allocationOrder_nodup (demandedChannels s)) s.heat.grant
      (p := s.profile) (demandedChannels s) k
    · rw [he]
      change (demandedChannels s)[k].charge = ((demandedChannels s)[k].duty * _ + 999) / 1000
      rw [hduty, hcharge, Nat.zero_mul]
    · rw [he]
      rfl
  · simp only [outputStep, Bool.and_eq_true, Bool.not_eq_true', Bool.and_eq_false_iff, decide_eq_true_eq,
      decide_eq_false_iff_not, not_and_or, Bool.not_eq_true]

theorem windowStart_not_mem {s : State} {k : Chan} (h : k ∉ (windowStart s).heat.order) :
    (windowStart s).heat.channels[k].duty = 0 := by
  have hout : k ∉ allocationOrder (demandedChannels s) := h
  have hother := allocate_other (p := s.profile) hout s.heat.grant (demandedChannels s)
  rw [windowStart_get, hother]
  exact (demandedChannels_rest s k).1

/-- The channel at a place of the order takes the smaller of its demand and what the charges ahead of it leave (R29). -/
theorem windowStart_at {s : State} {before after : List Chan} {k : Chan}
    (h : (windowStart s).heat.order = before ++ k :: after) :
    (windowStart s).heat.channels[k].duty = min (windowStart s).heat.channels[k].demand
      ((s.heat.grant - (before.map (fun j => (windowStart s).heat.channels[j].charge)).sum) * 1000 /
        s.profile.channels[k].load) := by
  have horder : allocationOrder (demandedChannels s) = before ++ k :: after := h
  have hcharges : before.map (fun j => (windowStart s).heat.channels[j].charge) =
      before.map (fun j => (allocate s.profile (before ++ k :: after) s.heat.grant (demandedChannels s))[j].charge) :=
    List.map_congr_left fun j _ => by rw [windowStart_get, horder]; rfl
  rw [(windowStart_class s k).2.1, hcharges, windowStart_get, horder]
  have hnodup := allocationOrder_nodup (demandedChannels s)
  rw [horder] at hnodup
  exact congrArg Channel.duty (allocate_at hnodup _ _)

/-- Settles O10: the order is that of the classes and numbers, and the grant is walked along it. -/
theorem windowStartDividesTheGrantInOrder : Obligations.WindowStartDividesTheGrantInOrder := by
  unfold Obligations.WindowStartDividesTheGrantInOrder
  refine ⟨publishedClass_elevation, fun s h hd => ?_⟩
  obtain ⟨hwindow, hgrant, hover, horder⟩ := windowStart_rest s
  have hclass := fun k => (windowStart_class s k).1.trans (windowStart_class s k).2.2.1.symm
  have hdemand := fun k => (windowStart_class s k).2.1
  refine ⟨windowStart s, exec_windowStart h hd, windowStart_frame s, hgrant, hover, hwindow, windowStart_charges s,
    fun k => ?_, ?_, fun _ _ _ => windowStart_at, fun k => ?_⟩
  · rw [horder, mem_allocationOrder, hclass, hdemand]
  · simp only [horder, hclass]
    exact allocationOrder_sorted _
  · obtain ⟨hcharge, honTime, hheater⟩ := windowStart_output s k
    obtain ⟨hnow, -, -, hwant⟩ := windowStart_class s k
    exact ⟨windowStart_not_mem, hcharge, honTime, hheater, hnow, hwant⟩

end Sys2Proof.Machine
end

section
/-! The reset state (R87), LEAVE (R94) and HEAT (R18, R19). -/

namespace Sys2Proof.Machine

/-! ## The laws at reset release -/

theorem withinCapacity_reset : WithinCapacity State.reset where
  reports := by decide
  frames := by decide
  racks := by decide
  holds := by decide
  loads k := by rw [reset_warmer]; decide
  waves := by decide
  calls := by decide
  paged := by decide

theorem stockLaw_reset : StockLaw State.reset where
  holds := ⟨.nil, .nil, fun _ h => nomatch h⟩
  plates k l hl := by rw [reset_warmer] at hl; cases hl
  capacity k := by rw [reset_warmer]; exact Nat.zero_le _
  ready k := Nat.zero_le _
  warm k := by
    have hk : State.reset.profile.warmers[k] = ⟨120, 600, 1200⟩ := by simp [State.reset, Profile.initial]
    rw [hk]
    decide
  unjoined _ := ⟨rfl, fun k => by rw [reset_warmer]; rfl⟩

/-- Settles O5: every list is empty at reset release, and the items stand in their ranges. -/
theorem resetStateKeepsEveryLaw : Obligations.ResetStateKeepsEveryLaw := by
  have hheat : HeatSafe State.reset := heatSafe_initial rfl
  exact ⟨withinCapacity_reset, hheat.heater, hheat.charge, stockLaw_reset, ⟨.nil, .nil⟩, .nil, .nil, trivial,
    by constructor <;> decide⟩

/-! ## LEAVE (R94) -/

/-- What LEAVE leaves (R94). -/
def leftState (s : State) : State :=
  setReply (.done 4 false .none) (changeStation .unjoined .left (leaveBlocks (endTransaction s)))

theorem exec_leave {s : State} (hd : portDeaf s = false) (hj : joined s = true) : exec (.leave []) s =
    .next (leftState s) := by
  refine panel_of_accepted hd ?_
  rw [leaveCommand, plain, stageOk_joinedOnly (s := endTransaction s) hj]
  rfl

theorem leaveBus_of_sends {s : State} (h : maySend s = true) : leaveBus s = { s.bus with
    waiting := [{ frame := .announce (leavingBody s), sender := ownId s, age := s.bus.nextAge, deliver := false }]
    onLine := s.bus.onLine.map (fun e => { e with deliver := false })
    nextAge := s.bus.nextAge + 1
    leaveTimer := some 0 } := if_pos h

theorem leaveBus_of_silent {s : State} (h : maySend s = false) : leaveBus s =
    { s.bus with waiting := [], onLine := none, stuck := false, leaveTimer := none } := if_neg (by simp [h])

/-- A report that finds an empty queue stands there alone (R190). -/
theorem pushReport_of_empty {b : ReportBody} {s : State} (h : s.port.reports = []) :
    pushReport b s = s.setPort { s.port with reports := [⟨s.life.clock, b⟩] } := by
  rw [pushReport, h]
  rfl

theorem leftState_frame (s : State) :
    SameExcept [.life, .heat, .bus, .peers, .share, .dish, .stock, .waves, .paging, .port] s (leftState s) :=
  (setReply_frame _ _).step ((changeStation_frame _ _ _).step ((leaveBlocks_frame _).step
    ((endTransaction_frame s).mono (by decide)) (by decide)) (by decide)) (by decide)

theorem leftState_eq (s : State) : leftState s = { leaveBlocks s with
    life := { s.life with station := .unjoined }
    port := { s.port with
      reply := .done 4 false .none
      transaction := .none
      gap := s.port.gap || !s.port.reports.isEmpty
      reports := [⟨s.life.clock, .station s.life.station .unjoined s.life.joinNumber .left⟩] } } := by
  rw [leftState, changeStation, pushReport_of_empty rfl]
  rfl

/-- Settles O3: LEAVE writes every block out, and its report finds an empty queue. -/
theorem leaveClearsTheRuntimeTables : Obligations.LeaveClearsTheRuntimeTables := by
  unfold Obligations.LeaveClearsTheRuntimeTables
  intro s hd hj
  have hbus : (leftState s).bus = leaveBus s := congrArg State.bus (leftState_eq s)
  refine ⟨leftState s, exec_leave hd hj, ?_⟩
  have hframe := leftState_frame s
  rw [hbus]
  rw [leftState_eq] at hframe ⊢
  refine ⟨rfl, rfl, rfl, rfl, rfl, rfl, rfl, rfl, rfl, rfl, rfl, rfl, fun hs => ?_, fun hs => ?_, hframe⟩
  · rw [leaveBus_of_sends hs]
    exact ⟨rfl, rfl, rfl, rfl⟩
  · rw [leaveBus_of_silent hs]
    exact ⟨rfl, rfl, rfl⟩

/-! ## HEAT (R18, R19) -/

/-- A HEAT that names a channel reaches the checks of that channel. -/
theorem heatCommand_of_chan {c g r : Word} {k : Chan} {s : State} (hj : joined s = true) (h : c.toNat = k.val) :
    heatCommand [c, g, r] s = heatable k s
      (accepted (updateChannel k (takeTarget (topTarget s.profile k) (reading s k)
          (numeric 0 (topTarget s.profile k) 0 (narrow g)).1
          (numeric 0 500 s.profile.channels[k].rampStep (narrow r)).1) s)
        ((numeric 0 (topTarget s.profile k) 0 (narrow g)).2 ||
          (numeric 0 500 s.profile.channels[k].rampStep (narrow r)).2)) := by
  have hk : k.val ≤ 7 := by omega
  simp only [heatCommand, narrow_of_chan h, stageOk_joinedOnly hj, hasValue, idWithin, idValue, chanOf_val, hk, Nat.zero_le, decide_true, Bool.and_true, checked_pass]

theorem heatable_of_unused {k : Chan} {s : State} (h : s.profile.channels[k].kind = .unused)
    (owner : Except Reason Done) : heatable k s owner = .error .wrongKind := if_pos h

theorem heatable_of_tripped {k : Chan} {s : State} (h : s.profile.channels[k].kind ≠ .unused)
    (ht : isTripped s.heat.channels[k].state = true) (owner : Except Reason Done) :
    heatable k s owner = .error .state := (if_neg h).trans (if_pos ht)

theorem heatable_of_free {k : Chan} {s : State} (h : s.profile.channels[k].kind ≠ .unused)
    (ht : isTripped s.heat.channels[k].state = false) (owner : Except Reason Done) : heatable k s owner = owner :=
  (if_neg h).trans (if_neg (ht ▸ Bool.false_ne_true))

/-- A refused command leaves its reply and the end of its transaction. -/
theorem panel_of_refused {s : State} {code : Nat} {body : State → Except Reason Done} {e : Reason}
    (h : portDeaf s = false) (hb : body (endTransaction s) = .error e) :
    panel code body s = .next (refusedWith code e s) := by
  rw [panel_of_hearing h, hb]
  rfl

/-- A target changes the state of a channel alone. -/
theorem takeTarget_state (top : Nat) (t : Temp) (target ramp : Nat) (c : Channel) :
    takeTarget top t target ramp c = { c with state := (takeTarget top t target ramp c).state } := by
  unfold takeTarget
  split <;> rfl

theorem takeTarget_of_idle {c : Channel} (h : c.state = .idle) (top : Nat) (t : Temp) (target ramp : Nat) :
    (takeTarget top t target ramp c).state = .ramp { target := target, ramp := ramp, w := clampInt 0 top t } := by
  rw [takeTarget, h]

theorem takeTarget_of_ramp {c : Channel} {p : Setpoint} (h : c.state = .ramp p) (top : Nat) (t : Temp)
    (target ramp : Nat) :
    (takeTarget top t target ramp c).state = .ramp { p with target := target, ramp := ramp } := by
  rw [takeTarget, h]

theorem takeTarget_of_regulate {c : Channel} {p : Setpoint} (h : c.state = .regulate p) (top : Nat) (t : Temp)
    (target ramp : Nat) :
    (takeTarget top t target ramp c).state = .regulate { p with target := target, ramp := ramp } := by
  rw [takeTarget, h]

theorem updateChannel_same (k : Chan) (f : Channel → Channel) (s : State) :
    (updateChannel k f s).heat.channels[k] = f s.heat.channels[k] := channel_set_same _ _ _

/-- Settles O11: the refusals are the first two checks, and the target is written by the state of the channel. -/
theorem heatSetsTargetRampAndSetpoint : Obligations.HeatSetsTargetRampAndSetpoint := by
  unfold Obligations.HeatSetsTargetRampAndSetpoint
  intro c g r k s hd hj hc
  have hcommand := heatCommand_of_chan (g := g) (r := r) (s := endTransaction s) hj hc
  refine ⟨fun hk => ?_, fun hk ht => ?_, fun hk ht target ramp c1 c2 htarget hramp => ?_⟩
  · exact panel_of_refused hd (hcommand.trans (heatable_of_unused (s := endTransaction s) hk _))
  · exact panel_of_refused hd (hcommand.trans (heatable_of_tripped (s := endTransaction s) hk ht _))
  · have hok : heatCommand [c, g, r] (endTransaction s) = .ok ⟨updateChannel k
        (takeTarget (topTarget s.profile k) (reading s k) target ramp) (endTransaction s), c1 || c2, .none⟩ := by
      have htarget' : numeric 0 (topTarget s.profile k) 0 (narrow g) = (target, c1) := numeric_of_takes htarget
      rw [hcommand, heatable_of_free (s := endTransaction s) hk ht, endTransaction_profile, htarget',
        numeric_of_takes hramp]
      rfl
    obtain ⟨t, ht, hframe, hanswered, hheat⟩ : ∃ t, exec (.heat [c, g, r]) s = .next t ∧
        SameExcept [.heat, .port] s t ∧ Answered 16 (c1 || c2) .none s t ∧
        t.heat = (updateChannel k (takeTarget (topTarget s.profile k) (reading s k) target ramp) s).heat :=
      ⟨_, panel_of_accepted hd hok, (setReply_frame _ _).step ((updateChannel_frame _ _ _).step
        ((endTransaction_frame s).mono (by decide)) (by decide)) (by decide), answered_setReply _ _ _ rfl, rfl⟩
    have hchannel : t.heat.channels[k] = takeTarget (topTarget s.profile k) (reading s k) target ramp
        s.heat.channels[k] := by rw [hheat, updateChannel_same]
    refine ⟨t, ht, hframe, hanswered, ?_, ?_, ?_, ?_⟩ <;> rw [hchannel]
    · rw [← takeTarget_state, hheat]
      rfl
    · exact fun h => takeTarget_of_idle h _ _ _ _
    · exact fun p h => takeTarget_of_ramp h _ _ _ _
    · exact fun p h => takeTarget_of_regulate h _ _ _ _

end Sys2Proof.Machine
end

section
/-! The delivery of a grant (R78), and the end of a frame with its result (R45, R46, R49, R82, R92). -/

namespace Sys2Proof.Machine

/-! ## What the forming and the delivery of a grant depend on -/

/-- A grant reads the channels and the profile alone. -/
theorem takeGrant_heat_congr {g : Nat} {s t : State} (hh : t.heat = s.heat) (hp : t.profile = s.profile) :
    (takeGrant g t).heat = (takeGrant g s).heat := by
  have hr : cutResult g t = cutResult g s := by rw [cutResult, cutResult, hh, hp]
  have hc : CutsTo g t ↔ CutsTo g s := by rw [CutsTo, CutsTo, hh]
  by_cases h : CutsTo g s
  · rw [takeGrant_heat_of_cut h, takeGrant_heat_of_cut (hc.2 h), hr, hh]
  · have hno (u : State) (hu : ¬ CutsTo g u) : (takeGrant g u).heat = { u.heat with grant := g } := by
      rw [CutsTo, not_and_or, not_and_or, Bool.not_eq_true, Bool.not_eq_false, not_lt] at hu
      rw [takeGrant_of_no_cut hu]
      rfl
    rw [hno s h, hno t (mt hc.1 h), hh]

theorem classTotal_congr {s t : State} (ha : t.share.asks = s.share.asks) (hd : t.share.drawing = s.share.drawing)
    (hpeers : t.peers = s.peers) (n : Nat) : classTotal t n = classTotal s n := by
  rw [classTotal, classTotal, ha, hd, hpeers]

theorem waterFill_congr {s t : State} (hp : t.profile = s.profile) (ha : t.share.asks = s.share.asks)
    (hd : t.share.drawing = s.share.drawing) (hpeers : t.peers = s.peers) : waterFill t = waterFill s := by
  simp only [waterFill, hp, ha, classTotal_congr ha hd hpeers]

/-- A grant is formed from the station state, the feeder items, the own figures and the table (R74 to R77). -/
theorem formGrant_congr {s t : State} (hl : t.life.station = s.life.station) (hp : t.profile = s.profile)
    (ha : t.share.asks = s.share.asks) (hd : t.share.drawing = s.share.drawing) (hpeers : t.peers = s.peers) :
    formGrant t = formGrant s := by
  rw [formGrant, formGrant, waterFill_congr hp ha hd hpeers, hl, hp]

/-- Outside ACTIVE a station that works by itself has the allowance (R77). -/
theorem formGrant_alone {s : State} (h : s.life.station = .isolated ∨ s.life.station = .duplicate) :
    formGrant s = (min s.profile.feeder.ceiling s.profile.feeder.allowance, .zero, .allowance) := by
  rw [formGrant]
  obtain h | h := h <;> rw [h]

theorem deliverGrant_heat (s : State) : (deliverGrant s).heat = (takeGrant (formGrant s).1 s).heat :=
  takeGrant_heat_congr rfl rfl

theorem deliverGrant_share (s : State) : (deliverGrant s).share = { s.share with
    grant := (formGrant s).1, shares := (formGrant s).2.1, limit := (formGrant s).2.2 } :=
  (takeGrant_frame _ _).share (by decide)

/-- A delivery over the same channels, behind the same reports. -/
theorem ReportsThenCut.congr {s s' u u' t : State} (h : ReportsThenCut s' u' t) (hh : s'.heat = s.heat)
    (hp : u.port = u'.port) (hl : u.life = u'.life) : ReportsThenCut s u t := by
  obtain ⟨hkept, hreport⟩ := h
  rw [hh] at hkept hreport
  rw [ReportsThenCut, hp, pushReport_port _ hp hl]
  exact ⟨hkept, hreport⟩

/-! ## The result of an ANNOUNCE (R82, R92) -/

theorem announceResult_acked {s : State} (h : s.life.station = .active) :
    announceResult true s = s.setShare { s.share with unacked := 0 } := by
  simp [announceResult, h, Config.isolationCount]

theorem announceResult_heard {s : State} (h : s.life.station = .isolated) :
    announceResult true s = rejoin (s.setShare { s.share with unacked := 0 }) := by
  simp [announceResult, h, Config.isolationCount]

theorem announceResult_unacked {s : State} (h : s.life.station ≠ .active ∨ s.share.unacked ≠ 2) :
    announceResult false s = s.setShare { s.share with unacked := min 255 (s.share.unacked + 1) } := by
  have hn : ¬ (min 255 (s.share.unacked + 1) = 3 ∧ s.life.station = .active) := by
    rintro ⟨h3, ha⟩
    obtain h | h := h
    · exact h ha
    · omega
  exact (if_neg hn).trans (if_neg (fun hc => Bool.false_ne_true hc.1))

theorem announceResult_third {s : State} (h : s.life.station = .active) (h2 : s.share.unacked = 2) :
    announceResult false s = isolate (s.setShare { s.share with unacked := 3 }) := by
  have hn : min 255 (s.share.unacked + 1) = 3 := by rw [h2]; decide
  rw [announceResult]
  simp only [Bool.false_eq_true, if_false, hn, h, Config.isolationCount, and_self, if_true]

/-- The return from ISOLATED (R83, R92), told over the state `u` behind its STATION report. -/
theorem rejoin_spec {s u : State} (hu : u = changeStation .active .heard s) :
    SameExcept [.life, .heat, .bus, .share, .paging, .port] s (rejoin s) ∧ (rejoin s).life = u.life ∧
      (rejoin s).heat = (takeGrant (formGrant u).1 u).heat ∧ (rejoin s).share = { u.share with
        grant := (formGrant u).1, shares := (formGrant u).2.1, limit := (formGrant u).2.2 } ∧
      (rejoin s).bus = (cancelCall .isolated s.profile.stationId u).bus ∧
      (rejoin s).paging = (cancelCall .isolated s.profile.stationId u).paging ∧
      CallCancelled .isolated s.profile.stationId u (rejoin s) ∧ ReportsThenCut s u (rejoin s) := by
  have hchange := changeStation_frame .active .heard s
  have hcancel := cancelCall_frame .isolated s.profile.stationId u
  have hcancelled := cancelCall_cancelled .isolated s.profile.stationId u
  rw [← hu] at hchange
  have hrejoin : rejoin s = deliverGrant (cancelCall .isolated s.profile.stationId u) := by rw [hu]; rfl
  refine ⟨rejoin_frame s, ?_⟩
  rw [hrejoin]
  generalize cancelCall .isolated s.profile.stationId u = v at hcancel hcancelled ⊢
  have hdeliver := deliverGrant_frame v
  have hform : formGrant v = formGrant u := formGrant_congr (congrArg Life.station (hcancel.life (by decide)))
    (hcancel.profile (by decide)) (congrArg Share.asks (hcancel.share (by decide)))
    (congrArg Share.drawing (hcancel.share (by decide))) (hcancel.peers (by decide))
  have hbus := hdeliver.bus (by decide)
  have hpaging := hdeliver.paging (by decide)
  refine ⟨(hdeliver.life (by decide)).trans (hcancel.life (by decide)), ?_, ?_, hbus, hpaging,
    hcancelled.congr rfl rfl rfl hpaging hbus, (deliverGrant_reports v).2.congr
      ((hcancel.heat (by decide)).trans (hchange.heat (by decide))) (hcancel.port (by decide)).symm
      (hcancel.life (by decide)).symm⟩
  · rw [deliverGrant_heat, hform, takeGrant_heat_congr (hcancel.heat (by decide)) (hcancel.profile (by decide))]
  · rw [deliverGrant_share, hform, hcancel.share (by decide)]

/-- The entry to ISOLATED (R92), told over the state `u` behind its STATION report. -/
theorem isolate_spec {s u : State} (hu : u = changeStation .isolated (.unheard s.share.unacked) s) :
    ∃ v, CallRaised .isolated s.profile.stationId u v ∧
      SameExcept [.life, .heat, .bus, .share, .paging, .port] s (isolate s) ∧ (isolate s).life = u.life ∧
      (isolate s).heat = (takeGrant (min s.profile.feeder.ceiling s.profile.feeder.allowance) u).heat ∧
      (isolate s).share = { u.share with
        grant := min s.profile.feeder.ceiling s.profile.feeder.allowance, shares := .zero, limit := .allowance } ∧
      (isolate s).paging = v.paging ∧ (isolate s).bus = v.bus ∧ ReportsThenCut s v (isolate s) := by
  have hchange := changeStation_frame .isolated (.unheard s.share.unacked) s
  have hlife : u.life = { s.life with station := .isolated } := by rw [hu, changeStation_life]
  have hraise := raiseCall_frame .isolated s.profile.stationId u
  rw [← hu] at hchange
  have hisolate : isolate s = deliverGrant (raiseCall .isolated s.profile.stationId u) := by rw [hu]; rfl
  refine ⟨raiseCall .isolated s.profile.stationId u, ⟨rfl, rfl, rfl⟩, isolate_frame s, ?_⟩
  rw [hisolate]
  generalize raiseCall .isolated s.profile.stationId u = v at hraise ⊢
  have hdeliver := deliverGrant_frame v
  have hprofile : v.profile = s.profile := (hraise.profile (by decide)).trans (hchange.profile (by decide))
  have hstation : v.life.station = .isolated := by rw [hraise.life (by decide), hlife]
  have hform := formGrant_alone (.inl hstation)
  rw [hprofile] at hform
  refine ⟨(hdeliver.life (by decide)).trans (hraise.life (by decide)), ?_, ?_, hdeliver.paging (by decide),
    hdeliver.bus (by decide), (deliverGrant_reports v).2.congr
      ((hraise.heat (by decide)).trans (hchange.heat (by decide))) rfl rfl⟩
  · rw [deliverGrant_heat, hform, takeGrant_heat_congr (hraise.heat (by decide)) (hraise.profile (by decide))]
  · rw [deliverGrant_share, hform, hraise.share (by decide)]

/-! ## The end of a frame (R45, R46, R49, R53) -/

theorem exec_frameResult {s : State} (h : awake s = true) (acked : Bool) :
    exec (.frameResult acked) s = .next (endOnLine acked s) := event_of_awake h _

theorem exec_bitFault {s : State} (h : awake s = true) : exec .bitFault s = .next (endOnLine false s) :=
  event_of_awake h _

theorem endOnLine_of_none {s : State} (h : s.bus.onLine = none) (acked : Bool) : endOnLine acked s = s := by
  rw [endOnLine, h]

theorem endOnLine_of_some {s : State} {e : TxEntry} (h : s.bus.onLine = some e) (acked : Bool) :
    endOnLine acked s = frameEnded e acked (s.setBus { s.bus with onLine := none }) := by
  rw [endOnLine, h]
  rfl

theorem frameEnded_of_leaving {e : TxEntry} (h : isLeaving e.frame = true) (acked : Bool) (s : State) :
    frameEnded e acked s = fallSilent s := if_pos h

theorem frameEnded_of_staying {e : TxEntry} (h : isLeaving e.frame = false) (acked : Bool) (s : State) :
    frameEnded e acked s = doWhen (e.deliver && joined s) (deliverResult e.frame acked) s :=
  if_neg (h ▸ Bool.false_ne_true)

theorem deliverResult_of_no_announce {f : Frame} (h : kindCode f ≠ 1) (acked : Bool) (s : State) :
    deliverResult f acked s = s := by
  cases f with
  | announce b => exact absurd rfl h
  | _ => rfl

/-- A result that no block gets, or that goes to no share unit, changes nothing. -/
theorem frameEnded_unheard {e : TxEntry} {s : State} (h : isLeaving e.frame = false)
    (hd : e.deliver = false ∨ joined s = false ∨ kindCode e.frame ≠ 1) (acked : Bool) : frameEnded e acked s = s := by
  rw [frameEnded_of_staying h]
  obtain hd | hj | hk := hd
  · rw [hd]
    rfl
  · rw [hj, Bool.and_false]
    rfl
  · rw [doWhen, deliverResult_of_no_announce hk, ite_self]

theorem joined_of_maySend {s : State} (h : maySend s = true) : joined s = true := by
  simp only [maySend, Bool.or_eq_true, decide_eq_true_eq] at h
  obtain h | h := h <;> simp [joined, h]

/-- The result of an ANNOUNCE that a block offered reaches the share unit (R49, R82). -/
theorem endOnLine_announce {s : State} {e : TxEntry} {b : AnnounceBody} (h : s.bus.onLine = some e)
    (he : e.frame = .announce b) (hb : b.leaving = false) (hd : e.deliver = true) (hs : maySend s = true) (acked : Bool) :
    endOnLine acked s = announceResult acked (s.setBus { s.bus with onLine := none }) := by
  have hl : isLeaving e.frame = false := by rw [he, isLeaving, hb]
  have hj : joined (s.setBus { s.bus with onLine := none }) = true := joined_of_maySend hs
  rw [endOnLine_of_some h, frameEnded_of_staying hl, hd, hj, he]
  rfl

/-- Settles O13: the end of a frame by who hears of it, and the result of an ANNOUNCE by the station state and the count. -/
theorem frameResultsFreeTheEntryAndCountAnnouncements : Obligations.FrameResultsFreeTheEntryAndCountAnnouncements := by
  unfold Obligations.FrameResultsFreeTheEntryAndCountAnnouncements
  refine ⟨fun s ha hn => ?_, fun e s ha he => ⟨fun hl => ?_, fun hl hd => ?_, fun b hb hl hd hs => ?_⟩⟩
  · simp only [exec_frameResult ha, exec_bitFault ha, endOnLine_of_none hn, implies_true, and_self]
  · simp only [exec_frameResult ha, exec_bitFault ha, endOnLine_of_some he, frameEnded_of_leaving hl]
    exact ⟨fun _ => rfl, rfl⟩
  · have hend (acked : Bool) : endOnLine acked s = s.setBus { s.bus with onLine := none } := by
      rw [endOnLine_of_some he]
      exact frameEnded_unheard (s := s.setBus { s.bus with onLine := none }) hl hd acked
    simp only [exec_frameResult ha, exec_bitFault ha, hend, implies_true, and_self]
  · have hend := endOnLine_announce he hb hl hd hs
    have hfree (n : Nat) : SameExcept [.life, .heat, .bus, .share, .paging, .port] s
        ((s.setBus { s.bus with onLine := none }).setShare { s.share with unacked := n }) :=
      ((State.setBus_frame _ _).mono (by decide)).trans ((State.setShare_frame _ _).mono (by decide))
    rw [exec_bitFault ha, exec_frameResult ha, exec_frameResult ha, hend, hend]
    refine ⟨⟨_, rfl, fun hact => announceResult_acked hact, fun u hu hiso => ?_⟩, rfl,
      ⟨_, rfl, fun h => announceResult_unacked (s := s.setBus { s.bus with onLine := none }) h, fun u hu hact htwo => ?_⟩⟩
    · rw [announceResult_heard (s := s.setBus { s.bus with onLine := none }) hiso]
      have hchange : u = changeStation .active .heard
          ((s.setBus { s.bus with onLine := none }).setShare { s.share with unacked := 0 }) := by
        rw [hu, ← hiso]
        rfl
      obtain ⟨hframe, hrest⟩ := rejoin_spec hchange
      exact ⟨(hfree 0).trans hframe, hrest⟩
    · rw [announceResult_third (s := s.setBus { s.bus with onLine := none }) hact htwo]
      have hchange : u = changeStation .isolated (.unheard 3)
          ((s.setBus { s.bus with onLine := none }).setShare { s.share with unacked := 3 }) := by
        rw [hu, ← hact]
        rfl
      obtain ⟨v, hraised, hframe, hrest⟩ := isolate_spec hchange
      exact ⟨v, hraised, (hfree 3).trans hframe, hrest⟩

end Sys2Proof.Machine
end

section
/-! The announce tick (R71 to R73, R78, R80, R141). -/

namespace Sys2Proof.Machine

/-! ## Own asks (R28, R31, R71, R72) -/

theorem channels_toList (cs : Vector Channel 8) : cs.toList = (List.finRange 8).map (fun k : Chan => cs[k]) := by
  apply List.ext_getElem
  · simp
  · intro i h₁ h₂
    simp

/-- A raw ask counts the wants of the channels of its class (R71). -/
theorem rawAsk_eq (s : State) (n : Nat) : rawAsk s n = ((List.finRange 8).map (fun k : Chan =>
    if s.heat.channels[k].effClass = n then s.heat.channels[k].want else 0)).sum := by
  rw [rawAsk, channels_toList, List.filter_map, List.map_map, List.sum_map_ite]
  simp [Function.comp_def]

theorem computeWants_channel (s : State) (k : Chan) : (computeWants s).heat.channels[k] =
    { s.heat.channels[k] with
      effClass := classNow s k
      want := (s.heat.channels[k].demand * s.profile.channels[k].load + 999) / 1000 } := by
  have hwant : wantOf s.profile.channels[k].load s.heat.channels[k] =
      (s.heat.channels[k].demand * s.profile.channels[k].load + 999) / 1000 := rfl
  rw [← hwant]
  exact eachChannel_get (fun k c => { c with effClass := classNow s k, want := wantOf s.profile.channels[k].load c }) _ k

theorem askOf_rawAsks (s : State) {n : Nat} (h : n ≤ 3) : askOf (rawAsks s) n = rawAsk s n := by
  interval_cases n <;> rfl

/-- The ceiling takes from the lowest classes first (R72). -/
theorem reduceAsks_spec (ceiling : Nat) (a : Asks) : asksSum (reduceAsks ceiling a) = min ceiling (asksSum a) ∧
    (reduceAsks ceiling a).c3 ≤ a.c3 ∧ (reduceAsks ceiling a).c2 ≤ a.c2 ∧ (reduceAsks ceiling a).c1 ≤ a.c1 ∧
    (reduceAsks ceiling a).c0 ≤ a.c0 ∧ ((reduceAsks ceiling a).c1 < a.c1 → (reduceAsks ceiling a).c0 = 0) ∧
    ((reduceAsks ceiling a).c2 < a.c2 → (reduceAsks ceiling a).c1 = 0 ∧ (reduceAsks ceiling a).c0 = 0) ∧
    ((reduceAsks ceiling a).c3 < a.c3 →
      (reduceAsks ceiling a).c2 = 0 ∧ (reduceAsks ceiling a).c1 = 0 ∧ (reduceAsks ceiling a).c0 = 0) := by
  simp only [reduceAsks, asksSum]
  omega

/-! ## What a grant leaves of class and want -/

theorem takeGrant_class (g : Nat) (s : State) (k : Chan) :
    (takeGrant g s).heat.channels[k].effClass = s.heat.channels[k].effClass ∧
      (takeGrant g s).heat.channels[k].want = s.heat.channels[k].want := by
  have hwalk : (cutResult g s).2[k].effClass = s.heat.channels[k].effClass ∧
      (cutResult g s).2[k].want = s.heat.channels[k].want := by
    obtain h | ⟨x, h⟩ := cutWalk_channel s.profile k (walkOrder s.heat) (chargesSum s.heat.channels - g) s.heat.channels
    · rw [cutResult, h]
      exact ⟨rfl, rfl⟩
    · rw [cutResult, h]
      exact ⟨rfl, rfl⟩
  by_cases h : CutsTo g s
  · cases ho : (takeGrant g s).heat.overdrawn with
    | false =>
      rw [takeGrant_channels_of_met h ho]
      exact hwalk
    | true =>
      rw [takeGrant_channel_of_overdrawn h ho]
      exact hwalk
  · rw [CutsTo, not_and_or, not_and_or, Bool.not_eq_true, Bool.not_eq_false, not_lt] at h
    rw [takeGrant_of_no_cut h]
    exact ⟨rfl, rfl⟩

/-- The reports of a delivery follow from the channels, the profile, the queue and the service clock. -/
theorem takeGrant_port_congr {g : Nat} {s t : State} (hh : t.heat = s.heat) (hp : t.profile = s.profile)
    (hport : t.port = s.port) (hl : t.life = s.life) : (takeGrant g t).port = (takeGrant g s).port := by
  obtain ⟨-, -, hs⟩ := takeGrant_reports g s
  obtain ⟨-, -, ht⟩ := takeGrant_reports g t
  rw [hs, ht, takeGrant_heat_congr hh hp, hh, hport, pushReport_port _ hport hl]

/-! ## Replaceable frames in the queue (R48, R49) -/

/-- A frame of kind `n` waits. -/
def kindWaits (n : Nat) (b : Bus) : Bool := b.waiting.any (fun e => decide (kindCode e.frame = n))

theorem kindWaits_iff {n : Nat} {b : Bus} : kindWaits n b = true ↔ ∃ e ∈ b.waiting, kindCode e.frame = n := by
  simp [kindWaits]

theorem sameWaiting_of_replaceable {f : Frame} (h : replaceable f = true) (e : TxEntry) :
    sameWaiting f e = decide (kindCode e.frame = kindCode f) := by
  rw [sameWaiting, h, Bool.true_and]

/-- What an accepted frame of a replaceable kind leaves of the queue (R48): it waits, the frames of the other kinds stand,
no other kind comes in, and an entry is taken only where none of its kind waited. -/
structure Entered (f : Frame) (b b' : Bus) : Prop where
  waits : ∃ e ∈ b'.waiting, e.frame = f
  stands : ∀ e ∈ b.waiting, kindCode e.frame ≠ kindCode f → e ∈ b'.waiting
  others : ∀ n, n ≠ kindCode f → kindWaits n b' = kindWaits n b
  occupied : occupied b' = occupied b + if kindWaits (kindCode f) b = true then 0 else 1

theorem accept_of_waiting {f : Frame} {b : Bus} (hf : replaceable f = true) (h : kindWaits (kindCode f) b = true)
    (id : Nat) : ∃ b', accept id f b = some b' ∧ Entered f b b' := by
  have hsame := sameWaiting_of_replaceable hf
  have hany : b.waiting.any (sameWaiting f) = true := by rw [funext hsame]; exact h
  refine ⟨_, if_pos hany, ?_, fun e he hk => ?_, fun n hn => ?_, ?_⟩
  · obtain ⟨e, he, hk⟩ := kindWaits_iff.1 h
    exact ⟨_, List.mem_map_of_mem he, by rw [hsame, if_pos (decide_eq_true hk)]⟩
  · exact List.mem_map.2 ⟨e, he, by rw [hsame, if_neg (by simpa using hk)]⟩
  · rw [kindWaits, kindWaits, List.any_map]
    refine List.any_congr rfl fun e => ?_
    simp only [Function.comp_apply, hsame, decide_eq_true_eq]
    split
    · next hk => simp [hk, hn.symm]
    · rfl
  · rw [if_pos h]
    simp [Machine.occupied]

theorem accept_of_room {f : Frame} {b : Bus} (hf : replaceable f = true) (h : kindWaits (kindCode f) b = false)
    (hroom : occupied b < 8) (id : Nat) : ∃ b', accept id f b = some b' ∧ Entered f b b' := by
  have hany : b.waiting.any (sameWaiting f) = false := by rw [funext (sameWaiting_of_replaceable hf)]; exact h
  refine ⟨_, (if_neg (by rw [hany]; decide)).trans (if_pos hroom), ?_, fun e he _ => ?_, fun n hn => ?_, ?_⟩
  · exact ⟨_, (mem_insertEntry _ _ _).2 (.inl rfl), rfl⟩
  · exact (mem_insertEntry _ _ _).2 (.inr he)
  · rw [Bool.eq_iff_iff, kindWaits_iff, kindWaits_iff]
    simp only [mem_insertEntry, exists_eq_or_imp, hn.symm, false_or]
  · rw [h]
    simp only [Machine.occupied, insertEntry_length, Bool.false_eq_true, if_false]
    omega

theorem accept_of_full {f : Frame} {b : Bus} (hf : replaceable f = true) (h : kindWaits (kindCode f) b = false)
    (hfull : ¬ occupied b < 8) (id : Nat) : accept id f b = none := by
  have hany : b.waiting.any (sameWaiting f) = false := by rw [funext (sameWaiting_of_replaceable hf)]; exact h
  exact (if_neg (by rw [hany]; decide)).trans (if_neg hfull)

/-- An offer of a replaceable frame by a station that may send: it enters where one of its kind waits or an entry is free, and
is refused otherwise (R48, R49). -/
theorem offer_replaceable {f : Frame} {s : State} (hf : replaceable f = true) (hs : maySend s = true) :
    (kindWaits (kindCode f) s.bus = true ∨ occupied s.bus < 8) ∧ accepts f s = true ∧ Entered f s.bus (offer f s).bus ∨
      kindWaits (kindCode f) s.bus = false ∧ ¬ occupied s.bus < 8 ∧ accepts f s = false ∧ offer f s = s := by
  have hoffer : offer f s = s.setBus ((accept (ownId s) f s.bus).getD s.bus) := if_pos hs
  rw [hoffer, accepts, hs, Bool.true_and]
  cases hw : kindWaits (kindCode f) s.bus with
  | true =>
    obtain ⟨b, hb, he⟩ := accept_of_waiting hf hw (ownId s)
    rw [hb]
    exact .inl ⟨.inl rfl, rfl, he⟩
  | false =>
    by_cases hroom : occupied s.bus < 8
    · obtain ⟨b, hb, he⟩ := accept_of_room hf hw hroom (ownId s)
      rw [hb]
      exact .inl ⟨.inr hroom, rfl, he⟩
    · rw [accept_of_full hf hw hroom]
      exact .inr ⟨rfl, hroom, rfl, rfl⟩

/-! ## STOCK (R141, R142) -/

theorem showsStock_stockBody (s : State) : ShowsStock s (stockBody s) := by
  refine ⟨rfl, ?_, fun k => ?_, fun x hx => ?_⟩
  · exact List.pairwise_map.2 ((List.pairwise_lt_finRange 8).filter _)
  · refine ⟨fun hk => List.mem_map.2 ⟨k, List.mem_filter.2 ⟨List.mem_finRange k, decide_eq_true hk⟩, rfl⟩, fun h => ?_⟩
    obtain ⟨j, hj, he⟩ := List.mem_map.1 h
    have hjk : j = k := Fin.ext (congrArg StockEntry.channel he)
    exact hjk ▸ of_decide_eq_true (List.mem_filter.1 hj).2
  · obtain ⟨j, hj, he⟩ := List.mem_map.1 hx
    exact ⟨j, of_decide_eq_true (List.mem_filter.1 hj).2, he.symm⟩

theorem stockBody_congr {s t : State} (hp : t.profile = s.profile) (hs : t.stock = s.stock) :
    stockBody t = stockBody s := by
  rw [stockBody, stockBody, hp, hs]

theorem offerStock_of_silent {s : State} (h : maySend s = false ∨ hasStock s.profile = false) : offerStock s = s := by
  rw [offerStock]
  obtain h | h := h
  · rw [h, Bool.false_and]
    rfl
  · rw [h, Bool.and_false]
    rfl

theorem offerStock_of_sends {s : State} (h : maySend s = true) (hs : hasStock s.profile = true) : offerStock s =
    (offer (.stock (stockBody s)) s).setStock { s.stock with changed := !accepts (.stock (stockBody s)) s } := by
  rw [offerStock, h, hs]
  rfl

/-- A STOCK offered for the stock-changed flag: it enters and clears the flag, or nothing changes (R141). -/
theorem offerStock_of_changed {s : State} (h : maySend s = true) (hs : hasStock s.profile = true)
    (hc : s.stock.changed = true) :
    (kindWaits 9 s.bus = true ∨ occupied s.bus < 8) ∧ (offerStock s).stock = { s.stock with changed := false } ∧
        Entered (.stock (stockBody s)) s.bus (offerStock s).bus ∨
      ¬ (kindWaits 9 s.bus = true ∨ occupied s.bus < 8) ∧ (offerStock s).stock = s.stock ∧
        (offerStock s).bus = s.bus := by
  rw [offerStock_of_sends h hs]
  obtain ⟨hroom, haccept, hentered⟩ | ⟨hno, hfull, haccept, hoffer⟩ :=
    offer_replaceable (f := .stock (stockBody s)) rfl h
  · rw [haccept]
    exact .inl ⟨hroom, rfl, hentered⟩
  · rw [haccept, hoffer]
    refine .inr ⟨?_, ?_, rfl⟩
    · rintro (hw | hroom)
      · exact Bool.false_ne_true (hno.symm.trans hw)
      · exact hfull hroom
    · change ({ s.stock with changed := true } : Stock) = s.stock
      rw [← hc]

/-! ## The steps of the tick (R73) -/

theorem exec_announceTick {s : State} (h : awake s = true) (hd : s.share.tick.due = true) :
    exec .announceTick s = .next (announceTick s) := expiry_of_due h hd _

/-- The tick once the grant is delivered (R73, R78). -/
def tickGranted (s : State) : State := deliverGrant (formAsks s)

/-- The tick once the ANNOUNCE is offered (R80). -/
def tickAnnounced (s : State) : State := offerAnnounce (tickGranted s)

theorem announceTick_eq (s : State) :
    announceTick s = doWhen (tickAnnounced s).stock.changed offerStock (tickAnnounced s) := rfl

theorem formAsks_share (s : State) : (formAsks s).share = { s.share with
    asks := reduceAsks s.profile.feeder.ceiling (rawAsks (computeWants s))
    ceilingCut := asksSum (rawAsks (computeWants s)) -
      asksSum (reduceAsks s.profile.feeder.ceiling (rawAsks (computeWants s)))
    drawing := drawingOf s.scan
    tick := { s.share.tick with phase := 0, due := false } } := rfl

theorem tickGranted_frame (s : State) : SameExcept [.heat, .share, .port] s (tickGranted s) :=
  (deliverGrant_frame _).step ((formAsks_frame s).mono (by decide)) (by decide)

theorem tickGranted_share (s : State) : (tickGranted s).share = { (formAsks s).share with
    grant := (formGrant (formAsks s)).1, shares := (formGrant (formAsks s)).2.1,
    limit := (formGrant (formAsks s)).2.2 } := deliverGrant_share _

theorem announceTick_offers (s : State) : SameExcept [.bus, .share, .stock] (tickGranted s) (announceTick s) := by
  rw [announceTick_eq]
  exact ((offerAnnounce_frame _).mono (by decide)).trans
    (doWhen_frame _ _ ((offerStock_frame _).mono (by decide)))

theorem announceTick_share (s : State) : (announceTick s).share = { (tickGranted s).share with
    nextSequence := if maySend s = true then (s.share.nextSequence + 1) % 256 else s.share.nextSequence } := by
  have hlast : (announceTick s).share = (tickAnnounced s).share :=
    (doWhen_frame _ _ (offerStock_frame (tickAnnounced s))).share (by decide)
  have hsends : maySend (tickGranted s) = maySend s := by
    rw [maySend, (tickGranted_frame s).life (by decide)]
    rfl
  have hnext : (tickGranted s).share.nextSequence = s.share.nextSequence := by rw [tickGranted_share, formAsks_share]
  rw [hlast, tickAnnounced, offerAnnounce, hsends, ← hnext]
  cases maySend s with
  | true | false => rfl

/-- The grant of the tick is that of the state it leaves. -/
theorem formGrant_announceTick (s : State) : formGrant (announceTick s) = formGrant (formAsks s) := by
  have hoffers := announceTick_offers s
  have hgranted := deliverGrant_frame (formAsks s)
  have hshare : (announceTick s).share.asks = (formAsks s).share.asks ∧
      (announceTick s).share.drawing = (formAsks s).share.drawing := by
    rw [announceTick_share, tickGranted_share]
    exact ⟨rfl, rfl⟩
  exact formGrant_congr
    (congrArg Life.station ((hoffers.life (by decide)).trans (hgranted.life (by decide))))
    ((hoffers.profile (by decide)).trans (hgranted.profile (by decide))) hshare.1 hshare.2
    ((hoffers.peers (by decide)).trans (hgranted.peers (by decide)))

/-- The grant is delivered over the channels with their class and want of this tick. -/
theorem announceTick_delivers (s : State) :
    (announceTick s).heat = (takeGrant (formGrant (formAsks s)).1 (computeWants s)).heat ∧
      (announceTick s).port = (takeGrant (formGrant (formAsks s)).1 (computeWants s)).port := by
  have hoffers := announceTick_offers s
  refine ⟨(hoffers.heat (by decide)).trans ?_, (hoffers.port (by decide)).trans ?_⟩
  · exact takeGrant_heat_congr rfl rfl
  · exact takeGrant_port_congr rfl rfl rfl rfl

/-! ## The frames of the tick (R80, R141) -/

theorem tickAnnounced_of_silent {s : State} (h : maySend s = false) : tickAnnounced s = tickGranted s := by
  have hsends : maySend (tickGranted s) = false := by
    rw [maySend, (tickGranted_frame s).life (by decide)]
    exact h
  rw [tickAnnounced, offerAnnounce, hsends]
  rfl

/-- The body of the tick's ANNOUNCE (R80). -/
theorem announceBody_tickGranted (s : State) : announceBody (tickGranted s) =
    ⟨s.life.joinNumber, s.share.nextSequence, (announceTick s).share.asks, (announceTick s).share.drawing, false⟩ := by
  rw [announceBody, announceTick_share, (tickGranted_frame s).life (by decide)]
  rw [tickGranted_share, formAsks_share]

/-- The ANNOUNCE of the tick enters where one waits or an entry is free, and is refused otherwise. -/
theorem tickAnnounced_bus {s : State} (h : maySend s = true) :
    (kindWaits 1 s.bus = true ∨ occupied s.bus < 8) ∧
        Entered (.announce (announceBody (tickGranted s))) s.bus (tickAnnounced s).bus ∨
      kindWaits 1 s.bus = false ∧ ¬ occupied s.bus < 8 ∧ (tickAnnounced s).bus = s.bus := by
  have hframe := tickGranted_frame s
  have hbus : (tickGranted s).bus = s.bus := hframe.bus (by decide)
  have hsends : maySend (tickGranted s) = true := by
    rw [maySend, hframe.life (by decide)]
    exact h
  have hoffered : (tickAnnounced s).bus = (offer (.announce (announceBody (tickGranted s))) (tickGranted s)).bus := by
    rw [tickAnnounced, offerAnnounce, hsends]
    rfl
  rw [hoffered, ← hbus]
  obtain ⟨hroom, -, hentered⟩ | ⟨hno, hfull, -, hoffer⟩ :=
    offer_replaceable (f := .announce (announceBody (tickGranted s))) rfl hsends
  · exact .inl ⟨hroom, hentered⟩
  · rw [hoffer]
    exact .inr ⟨hno, hfull, rfl⟩

/-- The room that a STOCK finds behind the ANNOUNCE. -/
theorem tickAnnounced_room {s : State} (h : maySend s = true) :
    (kindWaits 9 (tickAnnounced s).bus = true ∨ occupied (tickAnnounced s).bus < 8) ↔
      (kindWaits 9 s.bus = true ∨ occupied s.bus < 7 ∨ (kindWaits 1 s.bus = true ∧ occupied s.bus < 8)) := by
  obtain ⟨hroom, hentered⟩ | ⟨hno, hfull, hbus⟩ := tickAnnounced_bus h
  · have hocc : occupied (tickAnnounced s).bus = occupied s.bus + if kindWaits 1 s.bus = true then 0 else 1 :=
      hentered.occupied
    rw [hentered.others 9 (show 9 ≠ 1 by decide), hocc]
    refine or_congr_right ?_
    cases kindWaits 1 s.bus with
    | true =>
      simp only [if_true, true_and]
      omega
    | false =>
      simp only [Bool.false_eq_true, if_false, false_and, or_false]
      omega
  · rw [hbus, hno]
    refine or_congr_right ?_
    simp only [Bool.false_eq_true, false_and, or_false]
    omega

theorem tickAnnounced_frame (s : State) : SameExcept [.heat, .bus, .share, .port] s (tickAnnounced s) :=
  (offerAnnounce_frame _).step ((tickGranted_frame s).mono (by decide)) (by decide)

/-- What the tick does to stock and queue behind the ANNOUNCE. -/
theorem announceTick_stock {s : State} (h : maySend s = true) (hs : hasStock s.profile = true)
    (hc : s.stock.changed = true) :
    (kindWaits 9 (tickAnnounced s).bus = true ∨ occupied (tickAnnounced s).bus < 8) ∧
        (announceTick s).stock = { s.stock with changed := false } ∧
        Entered (.stock (stockBody s)) (tickAnnounced s).bus (announceTick s).bus ∨
      ¬ (kindWaits 9 (tickAnnounced s).bus = true ∨ occupied (tickAnnounced s).bus < 8) ∧
        (announceTick s).stock = s.stock ∧ (announceTick s).bus = (tickAnnounced s).bus := by
  have hframe := tickAnnounced_frame s
  have hstock : (tickAnnounced s).stock = s.stock := hframe.stock (by decide)
  have hprofile : (tickAnnounced s).profile = s.profile := hframe.profile (by decide)
  have hsends : maySend (tickAnnounced s) = true := by
    rw [maySend, hframe.life (by decide)]
    exact h
  have hlast := offerStock_of_changed hsends (hprofile ▸ hs) (hstock ▸ hc)
  rw [stockBody_congr hprofile hstock] at hlast
  rw [announceTick_eq, hstock, hc, doWhen_true]
  rw [hstock] at hlast
  exact hlast

/-- Without a STOCK to offer the tick ends with the ANNOUNCE. -/
theorem announceTick_without_stock {s : State}
    (h : maySend s = false ∨ s.stock.changed = false ∨ hasStock s.profile = false) :
    announceTick s = tickAnnounced s := by
  have hframe := tickAnnounced_frame s
  rw [announceTick_eq]
  have hskip (hq : maySend s = false ∨ hasStock s.profile = false) :
      doWhen (tickAnnounced s).stock.changed offerStock (tickAnnounced s) = tickAnnounced s := by
    rw [doWhen, offerStock_of_silent, ite_self]
    rw [maySend, hframe.life (by decide), hframe.profile (by decide)]
    exact hq
  obtain h | h | h := h
  · exact hskip (.inl h)
  · rw [hframe.stock (by decide), h, doWhen_false]
  · exact hskip (.inr h)

/-- The ANNOUNCE still waits when the tick is over. -/
theorem announceTick_announce {s : State} (h : maySend s = true)
    (hroom : kindWaits 1 s.bus = true ∨ occupied s.bus < 8) :
    ∃ e ∈ (announceTick s).bus.waiting, e.frame = .announce (announceBody (tickGranted s)) := by
  obtain ⟨-, hentered⟩ | ⟨hno, hfull, -⟩ := tickAnnounced_bus h
  · obtain ⟨e, he, hf⟩ := hentered.waits
    by_cases hq : s.stock.changed = true ∧ hasStock s.profile = true
    · obtain ⟨-, -, hlast⟩ | ⟨-, -, hlast⟩ := announceTick_stock h hq.2 hq.1
      · exact ⟨e, hlast.stands e he (by rw [hf]; exact (show 1 ≠ 9 by decide)), hf⟩
      · exact ⟨e, hlast ▸ he, hf⟩
    · rw [not_and_or, Bool.not_eq_true, Bool.not_eq_true] at hq
      rw [announceTick_without_stock (.inr hq)]
      exact ⟨e, he, hf⟩
  · rw [hno] at hroom
    exact absurd hroom (not_or.2 ⟨Bool.false_ne_true, hfull⟩)

/-- Settles O14: asks, grant and frames of the tick, each from the step that makes it. -/
theorem announceTickFormsAsksAndOffers : Obligations.AnnounceTickFormsAsksAndOffers := by
  unfold Obligations.AnnounceTickFormsAsksAndOffers
  intro s ha hd
  have hshare := announceTick_share s
  rw [tickGranted_share, formAsks_share] at hshare
  obtain ⟨hheat, hport⟩ := announceTick_delivers s
  have hgrant : (announceTick s).share.grant = (formGrant (formAsks s)).1 := by rw [hshare]
  have hasks : (announceTick s).share.asks = reduceAsks s.profile.feeder.ceiling (rawAsks (computeWants s)) := by
    rw [hshare]
  obtain ⟨hsum, hle3, hle2, hle1, hle0, hcut1, hcut2, hcut3⟩ :=
    reduceAsks_spec s.profile.feeder.ceiling (rawAsks (computeWants s))
  refine ⟨announceTick s, exec_announceTick ha hd, rawAsks (computeWants s), fun n hn => ?_, ?_⟩
  · rw [askOf_rawAsks _ hn, rawAsk_eq]
    simp only [computeWants_channel]
    rfl
  rw [hasks, formGrant_announceTick, hgrant, hheat, hport]
  refine ⟨hsum, hle3, hle2, hle1, hle0, hcut1, hcut2, hcut3, by rw [hshare], by rw [hshare], by rw [hshare], ?_, rfl,
    ⟨(computeWants s).heat.channels, computeWants_channel s, rfl, rfl⟩, fun k => ?_, fun room hroom => ⟨?_, ?_⟩,
    fun hs => ⟨?_, ?_⟩, fun hs => ⟨?_, ?_⟩, announceTick_frame s⟩
  · exact (takeGrant_reports _ _).1
  · obtain ⟨hclass, hwant⟩ := takeGrant_class (formGrant (formAsks s)).1 (computeWants s) k
    rw [hclass, hwant, computeWants_channel]
    exact ⟨rfl, rfl⟩
  · intro hs hc hst hr
    obtain ⟨-, hstock, hentered⟩ | ⟨hno, -, -⟩ := announceTick_stock hs hst hc
    · obtain ⟨e, he, hf⟩ := hentered.waits
      exact ⟨hstock, e, he, stockBody s, hf, showsStock_stockBody s⟩
    · exact absurd ((tickAnnounced_room hs).2 (hroom.1 hr)) hno
  · intro hno
    by_cases hq : maySend s = false ∨ s.stock.changed = false ∨ hasStock s.profile = false
    · rw [announceTick_without_stock hq]
      exact (tickAnnounced_frame s).stock (by decide)
    · simp only [not_or, Bool.not_eq_false] at hq
      obtain ⟨hs, hc, hst⟩ := hq
      have hroom' : ¬ room := by simpa [hs, hc, hst] using hno
      obtain ⟨hr, -, -⟩ | ⟨-, hstock, -⟩ := announceTick_stock hs hst hc
      · exact absurd (hroom.2 ((tickAnnounced_room hs).1 hr)) hroom'
      · exact hstock
  · rw [hshare, if_pos hs]
  · intro hr
    have hbody := announceBody_tickGranted s
    rw [hasks] at hbody
    rw [← hbody]
    exact announceTick_announce hs hr
  · rw [hshare, if_neg (by rw [hs]; decide)]
  · rw [announceTick_without_stock (.inl hs), tickAnnounced_of_silent hs]
    exact (tickGranted_frame s).bus (by decide)

end Sys2Proof.Machine
end

section
/-! An ANNOUNCE at the peer table (R55 to R59, R62, R66). -/

namespace Sys2Proof.Machine

/-! ## The peer table (R55) -/

theorem findPeer_id {id : Nat} {s : State} {p : Peer} (h : findPeer id s = some p) : p.id = id := by
  simpa [findPeer] using List.find?_some h

theorem findPeer_updatePeer {f : Peer → Peer} (hf : ∀ p, (f p).id = p.id) (id j : Nat) (s : State) :
    findPeer j (updatePeer id f s) = if j = id then (findPeer id s).map f else findPeer j s := by
  have hpred : (fun p : Peer => decide (p.id = j)) ∘ (fun p => if p.id = id then f p else p) =
      fun p => decide (p.id = j) := by
    funext p
    simp only [Function.comp_apply]
    split <;> simp [hf]
  change (s.peers.map _).find? _ = _
  rw [List.find?_map, hpred]
  change (findPeer j s).map _ = _
  split
  · next hj =>
    subst hj
    cases hp : findPeer j s with
    | none => rfl
    | some p => simp [findPeer_id hp]
  · next hj =>
    cases hp : findPeer j s with
    | none => rfl
    | some p => simp [findPeer_id hp, hj]

theorem findPeer_dropPeer (id j : Nat) (s : State) :
    findPeer j (dropPeer id s) = if j = id then none else findPeer j s := by
  change (s.peers.filter _).find? _ = _
  rw [List.find?_filter]
  split
  · next hj =>
    refine List.find?_eq_none.2 fun p _ => ?_
    simp [hj]
  · next hj =>
    refine congrArg (fun q => s.peers.find? q) (funext fun p => ?_)
    by_cases hp : p.id = j <;> simp [hp, hj]

theorem mem_insertPeer (q p : Peer) (ps : List Peer) : q ∈ insertPeer p ps ↔ q = p ∨ q ∈ ps := by
  induction ps with
  | nil => simp [insertPeer]
  | cons x xs ih =>
    unfold insertPeer
    split
    · simp
    · simp only [List.mem_cons, ih]
      tauto

theorem find?_insertPeer_other {p : Peer} {j : Nat} (h : j ≠ p.id) (ps : List Peer) :
    (insertPeer p ps).find? (fun q => decide (q.id = j)) = ps.find? (fun q => decide (q.id = j)) := by
  have hp : decide (p.id = j) = false := decide_eq_false h.symm
  induction ps with
  | nil => simp [insertPeer, hp]
  | cons x xs ih =>
    unfold insertPeer
    split
    · simp [hp]
    · rw [List.find?_cons, List.find?_cons, ih]

theorem find?_insertPeer_same {p : Peer} {ps : List Peer} (h : ps.find? (fun q => decide (q.id = p.id)) = none) :
    (insertPeer p ps).find? (fun q => decide (q.id = p.id)) = some p := by
  induction ps with
  | nil => simp [insertPeer]
  | cons x xs ih =>
    unfold insertPeer
    split
    · simp
    · rw [List.find?_cons] at h ⊢
      split at h
      · cases h
      · exact ih h

theorem risingPeers_insertPeer {p : Peer} {ps : List Peer} (h : risingPeers ps)
    (hp : ps.find? (fun q => decide (q.id = p.id)) = none) : risingPeers (insertPeer p ps) := by
  have hne : ∀ q ∈ ps, q.id ≠ p.id := by simpa using hp
  clear hp
  induction ps with
  | nil => simp [insertPeer, risingPeers]
  | cons x xs ih =>
    obtain ⟨hx, hxs⟩ := List.pairwise_cons.1 h
    unfold insertPeer
    split
    · next hlt =>
      refine List.pairwise_cons.2 ⟨fun q hq => ?_, h⟩
      obtain rfl | hq := List.mem_cons.1 hq
      · exact hlt
      · exact hlt.trans (hx q hq)
    · next hle =>
      have hxp := hne x List.mem_cons_self
      refine List.pairwise_cons.2 ⟨fun q hq => ?_, ih hxs fun q hq => hne q (List.mem_cons_of_mem _ hq)⟩
      obtain rfl | hq := (mem_insertPeer q p xs).1 hq
      · omega
      · exact hx q hq

theorem risingPeers_updatePeer {f : Peer → Peer} (hf : ∀ p, (f p).id = p.id) (id : Nat) {s : State}
    (h : risingPeers s.peers) : risingPeers (updatePeer id f s).peers := by
  have hid : ∀ p : Peer, (if p.id = id then f p else p).id = p.id := fun p => by
    split
    · exact hf p
    · rfl
  refine List.pairwise_map.2 (h.imp fun {a b} hab => ?_)
  rw [hid, hid]
  exact hab

theorem risingPeers_dropPeer (id : Nat) {s : State} (h : risingPeers s.peers) : risingPeers (dropPeer id s).peers :=
  h.filter _

theorem findPeer_congr {s t : State} (h : t.peers = s.peers) (id : Nat) : findPeer id t = findPeer id s := by
  rw [findPeer, findPeer, h]

/-! ## The gone notice (R62) -/

theorem goneNotice_holds (id : Nat) (s : State) :
    (goneNotice id s).stock.holds = s.stock.holds.filter (fun h => decide (h.asker ≠ id)) := rfl

theorem goneNotice_waves (id : Nat) (s : State) : (goneNotice id s).waves = s.waves.map (loseSources id) := rfl

/-! ## The ANNOUNCE by what the table holds (R56 to R59) -/

theorem announceAtTable_of_leaving {b : AnnounceBody} (h : b.leaving = true) (sender : Nat) (s : State) :
    announceAtTable sender b s = peerLeaves sender s := if_pos h

theorem announceAtTable_of_staying {b : AnnounceBody} (h : b.leaving = false) (sender : Nat) (s : State) :
    announceAtTable sender b s = match findPeer sender s with
      | none => s.setPeers (insertPeer (newPeer sender b) s.peers)
      | some p => if restarted b p then restartPeer b p s else updatePeer sender (updated b) s :=
  if_neg (h ▸ Bool.false_ne_true)

theorem announceAtTable_new {b : AnnounceBody} {sender : Nat} {s : State} (h : b.leaving = false)
    (hp : findPeer sender s = none) :
    announceAtTable sender b s = s.setPeers (insertPeer (newPeer sender b) s.peers) := by
  rw [announceAtTable_of_staying h, hp]

theorem announceAtTable_update {b : AnnounceBody} {sender : Nat} {s : State} {p : Peer} (h : b.leaving = false)
    (hp : findPeer sender s = some p) (hr : restarted b p = false) :
    announceAtTable sender b s = updatePeer sender (updated b) s := by
  simp [announceAtTable_of_staying h, hp, hr]

theorem announceAtTable_restart {b : AnnounceBody} {sender : Nat} {s : State} {p : Peer} (h : b.leaving = false)
    (hp : findPeer sender s = some p) (hr : restarted b p = true) :
    announceAtTable sender b s = pushReport (.peer sender p.epoch (restartCause b p))
      (goneNotice sender (updatePeer sender (fun q => newPeer q.id b) s)) := by
  simp [announceAtTable_of_staying h, hp, hr, restartPeer, findPeer_id hp]

theorem peerLeaves_of_known {id : Nat} {s : State} {p : Peer} (h : findPeer id s = some p) :
    peerLeaves id s = pushReport (.peer id p.epoch (.left p.sequence)) (goneNotice id (dropPeer id s)) := by
  rw [peerLeaves, h]

theorem peerLeaves_of_unknown {id : Nat} {s : State} (h : findPeer id s = none) : peerLeaves id s = goneNotice id s := by
  rw [peerLeaves, h]

theorem pushReport_peers (b : ReportBody) (s : State) : (pushReport b s).peers = s.peers :=
  (pushReport_frame b s).peers (by decide)

/-- A leaving ANNOUNCE leaves no entry, the holds of the others and the sources elsewhere (R59, R62). -/
theorem peerLeaves_spec (id : Nat) (s : State) : findPeer id (peerLeaves id s) = none ∧
    (∀ j, j ≠ id → findPeer j (peerLeaves id s) = findPeer j s) ∧
    (risingPeers s.peers → risingPeers (peerLeaves id s).peers) ∧
    (peerLeaves id s).stock.holds = s.stock.holds.filter (fun h => decide (h.asker ≠ id)) ∧
    (peerLeaves id s).waves = s.waves.map (loseSources id) := by
  cases hp : findPeer id s with
  | none =>
    rw [peerLeaves_of_unknown hp]
    exact ⟨hp, fun _ _ => rfl, fun h => h, rfl, rfl⟩
  | some p =>
    have hframe := pushReport_frame (.peer id p.epoch (.left p.sequence)) (goneNotice id (dropPeer id s))
    have hpeers := hframe.peers (by decide)
    have hfind (j : Nat) := findPeer_dropPeer id j s
    rw [peerLeaves_of_known hp, hframe.stock (by decide), hframe.waves (by decide), hpeers]
    refine ⟨?_, fun j hj => ?_, risingPeers_dropPeer id, rfl, rfl⟩
    · exact ((findPeer_congr hpeers id).trans (hfind id)).trans (if_pos rfl)
    · exact ((findPeer_congr hpeers j).trans (hfind j)).trans (if_neg hj)

/-- The other entries stand and the table keeps its order, whatever the ANNOUNCE does (R55). -/
theorem announceAtTable_others (sender : Nat) (b : AnnounceBody) (s : State) :
    (∀ j, j ≠ sender → findPeer j (announceAtTable sender b s) = findPeer j s) ∧
      (risingPeers s.peers → risingPeers (announceAtTable sender b s).peers) := by
  cases hl : b.leaving with
  | true =>
    obtain ⟨-, hothers, hrising, -, -⟩ := peerLeaves_spec sender s
    rw [announceAtTable_of_leaving hl]
    exact ⟨hothers, hrising⟩
  | false =>
    cases hp : findPeer sender s with
    | none =>
      rw [announceAtTable_new hl hp]
      exact ⟨fun j hj => find?_insertPeer_other hj _, fun h => risingPeers_insertPeer h hp⟩
    | some p =>
      cases hr : restarted b p with
      | true =>
        have hid : ∀ q : Peer, (newPeer q.id b).id = q.id := fun _ => rfl
        have hpeers := pushReport_peers (.peer sender p.epoch (restartCause b p))
          (goneNotice sender (updatePeer sender (fun q => newPeer q.id b) s))
        rw [announceAtTable_restart hl hp hr, hpeers]
        refine ⟨fun j hj => ?_, risingPeers_updatePeer hid sender⟩
        exact ((findPeer_congr hpeers j).trans (findPeer_updatePeer hid sender j s)).trans (if_neg hj)
      | false =>
        have hid : ∀ q : Peer, (updated b q).id = q.id := fun _ => rfl
        rw [announceAtTable_update hl hp hr]
        exact ⟨fun j hj => (findPeer_updatePeer hid sender j s).trans (if_neg hj), risingPeers_updatePeer hid sender⟩

theorem restarted_iff (b : AnnounceBody) (p : Peer) : restarted b p = true ↔ b.epoch ≠ p.epoch ∨
    (b.sequence + 256 - p.sequence % 256) % 256 = 0 ∨ 16 < (b.sequence + 256 - p.sequence % 256) % 256 := by
  rw [restarted, sequenceRuns, forwardDistance]
  generalize (b.sequence + 256 - p.sequence % 256) % 256 = d
  simp only [Config.maxDistance, Bool.or_eq_true, Bool.not_eq_true', Bool.and_eq_false_iff, decide_eq_true_eq,
    decide_eq_false_iff_not]
  omega

/-! ## The frame received and the grant after it (R43, R50, R78) -/

/-- A delivered grant is that of the state it stands in. -/
theorem formGrant_deliverGrant (s : State) : formGrant (deliverGrant s) = formGrant s := by
  have hframe := deliverGrant_frame s
  have hshare := deliverGrant_share s
  exact formGrant_congr (congrArg Life.station (hframe.life (by decide))) (hframe.profile (by decide))
    (by rw [hshare]) (by rw [hshare]) (hframe.peers (by decide))

theorem exec_announce {sender : Nat} {b : AnnounceBody} {s : State} (h : awake s = true) (hj : joined s = true)
    (hlow : 1 ≤ sender) (hhigh : sender ≤ 30) (hown : sender ≠ s.profile.stationId) : exec (.announce sender b) s =
      .next (deliverGrant (announceAtTable sender b (s.setBus { s.bus with ackSlot := true }))) := by
  have hbad : badSender sender = false := by
    simp only [badSender, Bool.or_eq_false_iff, decide_eq_false_iff_not]
    omega
  refine (event_of_awake h _).trans ?_
  have hown' : sender ≠ ownId s := hown
  rw [receive, if_neg (by rw [hj]; decide), hbad, if_neg (by decide), if_neg hown']
  rfl

/-- Settles O17: the table's change by what it holds, and the delivery behind it. -/
theorem announceCreatesUpdatesRestartsOrRemovesTheEntry :
    Obligations.AnnounceCreatesUpdatesRestartsOrRemovesTheEntry := by
  unfold Obligations.AnnounceCreatesUpdatesRestartsOrRemovesTheEntry
  intro sender b s ha hj hlow hhigh hown
  have hslot : SameExcept [.bus] s (s.setBus { s.bus with ackSlot := true }) := State.setBus_frame _ _
  refine ⟨_, exec_announce ha hj hlow hhigh hown, ?_⟩
  generalize hr : s.setBus { s.bus with ackSlot := true } = r at hslot
  have htable := announceAtTable_frame sender b r
  have hdeliver := deliverGrant_frame (announceAtTable sender b r)
  obtain ⟨hothers, hrising⟩ := announceAtTable_others sender b r
  obtain ⟨hgrant, hreports⟩ := deliverGrant_reports (announceAtTable sender b r)
  have hform := formGrant_deliverGrant (announceAtTable sender b r)
  have hpeers : (deliverGrant (announceAtTable sender b r)).peers = (announceAtTable sender b r).peers :=
    hdeliver.peers (by decide)
  have hstock : (deliverGrant (announceAtTable sender b r)).stock = (announceAtTable sender b r).stock :=
    hdeliver.stock (by decide)
  have hwaves : (deliverGrant (announceAtTable sender b r)).waves = (announceAtTable sender b r).waves :=
    hdeliver.waves (by decide)
  have hfind := findPeer_congr hpeers
  have hold : ∀ id, findPeer id r = findPeer id s := findPeer_congr (hslot.peers (by decide))
  have hport : r.port = s.port := hslot.port (by decide)
  have hlife : r.life = s.life := hslot.life (by decide)
  have hheat : (announceAtTable sender b r).heat = s.heat := (htable.heat (by decide)).trans (hslot.heat (by decide))
  have hlife' : (announceAtTable sender b r).life = s.life := (htable.life (by decide)).trans hlife
  have hkept (hp : (announceAtTable sender b r).port = s.port) :
      ReportsThenCut s s (deliverGrant (announceAtTable sender b r)) := hreports.congr hheat hp.symm hlife'.symm
  have hreported {x : ReportBody} (hp : (announceAtTable sender b r).port = (pushReport x s).port) :
      ReportsThenCut s (pushReport x s) (deliverGrant (announceAtTable sender b r)) :=
    hreports.congr hheat hp.symm (((pushReport_frame x s).life (by decide)).trans hlife'.symm)
  have hframe : SameExcept [.heat, .bus, .peers, .share, .stock, .waves, .port] s
      (deliverGrant (announceAtTable sender b r)) :=
    hdeliver.step (htable.step (hslot.mono (by decide)) (by decide)) (by decide)
  have hbus : (deliverGrant (announceAtTable sender b r)).bus = { s.bus with ackSlot := true } :=
    (hdeliver.bus (by decide)).trans ((htable.bus (by decide)).trans (by rw [← hr]; rfl))
  have hleave (hl : b.leaving = true) := announceAtTable_of_leaving hl sender r
  rw [hform, hpeers, hstock, hwaves]
  simp only [hfind]
  refine ⟨hframe, hbus, hgrant, by rw [deliverGrant_share], fun id hid => (hothers id hid).trans (hold id),
    fun h => hrising (by rw [hslot.peers (by decide)]; exact h), fun hl hp => ?_, fun p hl hp he h1 h16 => ?_,
    fun p hl hp hne => ?_, fun hl hp => hkept ?_, fun p hl hp => hreported ?_, fun hl => ?_⟩
  · have hnew := announceAtTable_new hl ((hold sender).trans hp)
    refine ⟨?_, ?_, ?_, hkept ?_⟩ <;> rw [hnew]
    · exact find?_insertPeer_same (p := newPeer sender b) ((hold sender).trans hp)
    · exact hslot.stock (by decide)
    · exact hslot.waves (by decide)
    · exact hport
  · have hr' : restarted b p = false := Bool.eq_false_iff.2 fun h => by
      have := (restarted_iff b p).1 h
      omega
    have hupdate := announceAtTable_update hl ((hold sender).trans hp) hr'
    refine ⟨?_, ?_, ?_, hkept ?_⟩ <;> rw [hupdate]
    · rw [findPeer_updatePeer (f := updated b) (fun _ => rfl), if_pos rfl, hold, hp]
      rfl
    · exact hslot.stock (by decide)
    · exact hslot.waves (by decide)
    · exact hport
  · have hrestart := announceAtTable_restart hl ((hold sender).trans hp) ((restarted_iff b p).2 hne)
    have hpush := pushReport_frame (.peer sender p.epoch (restartCause b p))
      (goneNotice sender (updatePeer sender (fun q => newPeer q.id b) r))
    refine ⟨?_, ?_, ?_, hreported ?_⟩ <;> rw [hrestart]
    · rw [findPeer_congr (hpush.peers (by decide))]
      change findPeer sender (updatePeer sender (fun q => newPeer q.id b) r) = _
      rw [findPeer_updatePeer (f := fun q => newPeer q.id b) (fun _ => rfl), if_pos rfl, hold, hp]
      exact congrArg (fun id => some (newPeer id b)) (findPeer_id hp)
    · rw [hpush.stock (by decide), goneNotice_holds]
      exact congrArg (List.filter _) (congrArg Stock.holds (hslot.stock (by decide)))
    · rw [hpush.waves (by decide), goneNotice_waves]
      exact congrArg (List.map _) (hslot.waves (by decide))
    · exact pushReport_port _ hport hlife
  · rw [hleave hl, peerLeaves_of_unknown ((hold sender).trans hp)]
    exact hport
  · rw [hleave hl, peerLeaves_of_known ((hold sender).trans hp)]
    exact pushReport_port _ hport hlife
  · obtain ⟨hgone, -, -, hholds, hlost⟩ := peerLeaves_spec sender r
    rw [hleave hl, hholds, hlost, hslot.stock (by decide), hslot.waves (by decide)]
    exact ⟨hgone, rfl, rfl⟩

end Sys2Proof.Machine
end

section
/-! The waves at a clock second and at WAVE-FIRE (R147 to R149, R153, R154, R158). -/

namespace Sys2Proof.Machine

/-! ## A step at one wave -/

/-- From `s` to `t` the wave table keeps its numbers and every wave but `n`, and wave `n` changes as `R` says. -/
structure WaveTurned (n : Nat) (R : Wave → Wave → Prop) (s t : State) : Prop where
  numbers : t.waves.map (fun w => w.number) = s.waves.map (fun w => w.number)
  others : ∀ m, m ≠ n → findWave m t = findWave m s
  turned : ∀ w, findWave n s = some w → ∃ w', findWave n t = some w' ∧ R w w'

theorem findWave_congr {s t : State} (h : t.waves = s.waves) (n : Nat) : findWave n t = findWave n s := by
  rw [findWave, findWave, h]

theorem WaveTurned.of_waves {n : Nat} {R : Wave → Wave → Prop} {s t : State} (h : t.waves = s.waves)
    (hr : ∀ w, findWave n s = some w → R w w) : WaveTurned n R s t where
  numbers := by rw [h]
  others m _ := findWave_congr h m
  turned w hw := ⟨w, (findWave_congr h n).trans hw, hr w hw⟩

theorem updateWave_numbers {f : Wave → Wave} (hf : ∀ w, (f w).number = w.number) (n : Nat) (s : State) :
    (updateWave n f s).waves.map (fun w => w.number) = s.waves.map (fun w => w.number) := by
  change (s.waves.map _).map _ = _
  rw [List.map_map]
  refine List.map_congr_left fun w _ => ?_
  simp only [Function.comp_apply]
  split
  · exact hf w
  · rfl

theorem WaveTurned.update {n : Nat} {R : Wave → Wave → Prop} {f : Wave → Wave} {s t : State}
    (h : t.waves = (updateWave n f s).waves) (hf : ∀ w, (f w).number = w.number)
    (hr : ∀ w, findWave n s = some w → R w (f w)) : WaveTurned n R s t where
  numbers := by rw [h, updateWave_numbers hf]
  others m hm := by
    rw [findWave_congr h, findWave_updateWave _ _ _ hf]
    simp [hm]
  turned w hw := ⟨f w, (findWave_congr h n).trans (findWave_changed hw hf), hr w hw⟩

theorem WaveTurned.trans {n : Nat} {R Q T : Wave → Wave → Prop} {s t u : State} (h : WaveTurned n R s t)
    (g : WaveTurned n Q t u) (hT : ∀ a b c, R a b → Q b c → T a c) : WaveTurned n T s u where
  numbers := g.numbers.trans h.numbers
  others m hm := (g.others m hm).trans (h.others m hm)
  turned w hw := by
    obtain ⟨w', hw', hr⟩ := h.turned w hw
    obtain ⟨w'', hw'', hq⟩ := g.turned w' hw'
    exact ⟨w'', hw'', hT _ _ _ hr hq⟩

theorem WaveTurned.mono {n : Nat} {R T : Wave → Wave → Prop} {s t : State} (h : WaveTurned n R s t)
    (hT : ∀ a b, R a b → T a b) : WaveTurned n T s t where
  numbers := h.numbers
  others := h.others
  turned w hw := by
    obtain ⟨w', hw', hr⟩ := h.turned w hw
    exact ⟨w', hw', hT _ _ hr⟩

/-- An operation that leaves the wave table alone, behind a step at one wave. -/
theorem WaveTurned.then {n : Nat} {R : Wave → Wave → Prop} {bs : List Block} {s t u : State} (h : WaveTurned n R s t)
    (g : SameExcept bs t u) (hb : Block.waves ∉ bs) : WaveTurned n R s u :=
  h.trans (.of_waves (R := Eq) (g.waves hb) fun _ _ => rfl) fun _ _ _ hr he => he ▸ hr

/-- An operation that leaves the wave table alone, ahead of a step at one wave. -/
theorem WaveTurned.after {n : Nat} {R : Wave → Wave → Prop} {bs : List Block} {s t u : State} (h : WaveTurned n R t u)
    (g : SameExcept bs s t) (hb : Block.waves ∉ bs) : WaveTurned n R s u :=
  (WaveTurned.of_waves (R := Eq) (g.waves hb) fun _ _ => rfl).trans h fun _ _ _ he hr => he ▸ hr

theorem onWave_of_some {n : Nat} {s : State} {w : Wave} (h : findWave n s = some w) (f : Wave → State → State) :
    onWave n f s = f w s := by
  rw [onWave, h]

theorem onWave_of_none {n : Nat} {s : State} (h : findWave n s = none) (f : Wave → State → State) :
    onWave n f s = s := by
  rw [onWave, h]

/-- An effect on the wave that is found. -/
theorem WaveTurned.onWave {n : Nat} {R : Wave → Wave → Prop} {f : Wave → State → State} {s : State}
    (h : ∀ w, findWave n s = some w → WaveTurned n R s (f w s)) : WaveTurned n R s (onWave n f s) := by
  cases hw : findWave n s with
  | none =>
    rw [onWave_of_none hw]
    exact .of_waves rfl fun w h => absurd (hw.symm.trans h) nofun
  | some w =>
    rw [onWave_of_some hw]
    exact h w hw

/-! ## Ask checks (R154) -/

/-- Only the sources of a wave have changed. -/
def SourcesMoved (w w' : Wave) : Prop := ∃ a b, w' = { w with src1 := a, src2 := b }

theorem SourcesMoved.refl (w : Wave) : SourcesMoved w w := ⟨w.src1, w.src2, rfl⟩

theorem SourcesMoved.trans {u v w : Wave} (h : SourcesMoved u v) (g : SourcesMoved v w) : SourcesMoved u w := by
  obtain ⟨a, b, rfl⟩ := h
  obtain ⟨c, d, rfl⟩ := g
  exact ⟨c, d, rfl⟩

theorem changeSource_moved (second : Bool) (f : Source → Source) (w : Wave) : SourcesMoved w (changeSource second f w) := by
  cases second
  · exact ⟨f w.src1, w.src2, rfl⟩
  · exact ⟨w.src1, w.src2.map f, rfl⟩

theorem askHold_wave (asker : Nat) (b : HoldAskBody) (s : State) : (askHold asker b s).2.wave = b.wave := by
  have hrenew (h : Hold) : (renewHold h asker b s).2.wave = b.wave := by
    rw [renewHold]
    split <;> rfl
  have hcreate (k : Chan) : (createHold k asker b s).2.wave = b.wave := by
    rw [createHold]
    split <;> rfl
  rw [askHold]
  split
  · rfl
  · simp only
    split
    · rfl
    · split
      · exact hrenew _
      · split
        · rfl
        · exact hcreate _

theorem takeAnswer_turned (sender : Nat) (b : HoldAnswerBody) (s : State) :
    WaveTurned b.wave SourcesMoved s (takeAnswer sender b s) := by
  unfold takeAnswer
  split
  · next w i he =>
    obtain ⟨v, hv, hi⟩ := Option.bind_eq_some_iff.1 he
    obtain ⟨j, -, hp⟩ := Option.map_eq_some_iff.1 hi
    obtain ⟨rfl, rfl⟩ := Prod.mk.inj hp
    rw [findWave_number hv]
    exact (WaveTurned.update rfl (changeSource_number _ _) fun w _ => changeSource_moved _ _ w).then
      (doWhen_frame _ _ (pushReport_frame _ _)) (by decide)
  · exact .of_waves ((doWhen_frame _ _ (sendFree_frame _ _ _ _ _)).waves (by decide)) fun w _ => .refl w

theorem sendAsk_turned (second : Bool) (w : Wave) (r : Source) (need : Nat) (s : State) :
    WaveTurned w.number SourcesMoved s (sendAsk second w r need s) := by
  unfold sendAsk
  simp only
  split
  · have hwave : (askHold (ownId s) (askBody w r need s) s).2.wave = w.number := askHold_wave _ _ _
    have hanswer := takeAnswer_turned (ownId s) (askHold (ownId s) (askBody w r need s) s).2
      (askHold (ownId s) (askBody w r need s) s).1
    rw [hwave] at hanswer
    exact hanswer.after (askHold_frame _ _ _) (by decide)
  · split
    · exact (WaveTurned.update rfl (changeSource_number _ _) fun w _ => changeSource_moved _ _ w).after
        (offer_frame _ s) (by decide)
    · exact .of_waves rfl fun w _ => .refl w

theorem checkSource_turned (second : Bool) (w : Wave) (s : State) :
    WaveTurned w.number SourcesMoved s (checkSource second w s) := by
  unfold checkSource
  split
  · exact .of_waves rfl fun w _ => .refl w
  · simp only
    split
    · exact sendAsk_turned _ _ _ _ _
    · split
      · unfold doWhen
        split
        · exact (WaveTurned.update rfl (changeSource_number _ _) fun w _ => changeSource_moved _ _ w).after
            (sendFree_frame _ _ _ _ s) (by decide)
        · exact .of_waves rfl fun w _ => .refl w
      · exact .of_waves rfl fun w _ => .refl w

theorem askSources_turned (n : Nat) (s : State) : WaveTurned n SourcesMoved s (askSources n s) := by
  have hcheck (second : Bool) (u : State) : WaveTurned n SourcesMoved u (onWave n (checkSource second) u) :=
    .onWave fun w hw => findWave_number hw ▸ checkSource_turned second w u
  exact (hcheck false s).trans (hcheck true _) fun _ _ _ h g => h.trans g

/-! ## Shortage checks (R158) -/

/-- The wave after a shortage check. -/
def shortageChecked (w : Wave) : Wave := { w with shortage := true, short := !covered w }

theorem ShortageBegun.waves {w : Wave} {s t : State} (h : ShortageBegun w s t) : t.waves = (updateWave w.number
    (fun x => { x with shortage := true, short := decide (0 < w.covers - coverSum w) }) s).waves := by
  obtain ⟨shortfall, u, hs, hu, hcovered, hshort⟩ := h
  rw [← coverSum_eq] at hs
  rw [← hs, ← hu]
  obtain hz | hpos := Nat.eq_zero_or_pos shortfall
  · have hcancel : (cancelCall .platesShort w.number (cancelCall .platesFetch w.number u)).waves = u.waves :=
      ((cancelCall_frame _ _ _).trans (cancelCall_frame _ _ _)).waves (by decide)
    rw [hcovered hz _ rfl, ← hcancel]
    split
    · exact (pushReport_frame _ _).waves (by decide)
    · rfl
  · obtain ⟨own, other, -, -, ht⟩ := hshort hpos
    have hcalls : (raiseCall own w.number (cancelCall other w.number u)).waves = u.waves :=
      ((raiseCall_frame _ _ _).waves (by decide)).trans ((cancelCall_frame _ _ _).waves (by decide))
    rw [ht _ rfl, ← hcalls]
    split
    · rfl
    · exact (pushReport_frame _ _).waves (by decide)

theorem shortageCheck_turned (n : Nat) (s : State) {w : Wave} (hw : findWave n s = some w) :
    WaveTurned n (fun w w' => w' = shortageChecked w) s (shortageCheck n s) := by
  have hwaves := (shortageCheck_begun hw).waves
  rw [findWave_number hw] at hwaves
  refine .update hwaves (fun _ => rfl) fun v hv => ?_
  obtain rfl := Option.some.inj (hw.symm.trans hv)
  have hshort : decide (0 < w.covers - coverSum w) = !covered w := by
    rw [covered, ← decide_not]
    exact decide_eq_decide.2 (by omega)
  rw [hshort]
  rfl

/-- The first shortage check of a wave, at the pass instant less 600 s. -/
def firstChecked (reachedAt : Nat → Bool) (w : Wave) : Wave :=
  if asking w.state && !w.shortage && reachedAt ((w.pass + 85800) % 86400) then shortageChecked w else w

/-- `reachedAt` is the test of *reached* in `s`. -/
def TellsTime (reachedAt : Nat → Bool) (s : State) : Prop :=
  ∀ x, reachedAt x = decide ((s.life.clock + 86400 - x % 86400) % 86400 < 43200)

theorem TellsTime.congr {reachedAt : Nat → Bool} {s t : State} (h : TellsTime reachedAt s) (hl : t.life = s.life) :
    TellsTime reachedAt t := by
  rw [TellsTime, hl]
  exact h

theorem TellsTime.reached {reachedAt : Nat → Bool} {s : State} (h : TellsTime reachedAt s) (x : Nat) :
    reached s.life.clock x = reachedAt x := (h x).symm

theorem TellsTime.shortageTime {reachedAt : Nat → Bool} {s : State} (h : TellsTime reachedAt s) (w : Wave) :
    shortageTime w s = reachedAt ((w.pass + 85800) % 86400) := by
  have hless : clockLess w.pass 600 = (w.pass + 85800) % 86400 := by
    rw [clockLess, Config.day]
    omega
  rw [Machine.shortageTime, hless, h.reached]

theorem firstShortage_event {reachedAt : Nat → Bool} {n : Nat} {s : State} (ht : TellsTime reachedAt s) {w : Wave}
    (hw : findWave n s = some w) : WaveEvent n
      (fun x => asking x.state && !x.shortage && reachedAt ((x.pass + 85800) % 86400)) ShortageBegun s
      (firstShortage n s) := by
  refine ⟨w, hw, ?_⟩
  rw [firstShortage, onWave_of_some hw, ht.shortageTime, doWhen]
  split
  · exact shortageCheck_begun hw
  · rfl

/-- The check of a wave whose state makes shortage checks. -/
theorem firstShortage_event_of_asking {reachedAt : Nat → Bool} {n : Nat} {s : State} (ht : TellsTime reachedAt s)
    {w : Wave} (hw : findWave n s = some w) (ha : asking w.state = true) : WaveEvent n
      (fun x => !x.shortage && reachedAt ((x.pass + 85800) % 86400)) ShortageBegun s (firstShortage n s) := by
  obtain ⟨x, hx, hevent⟩ := firstShortage_event ht hw
  obtain rfl := Option.some.inj (hw.symm.trans hx)
  simp only [ha, Bool.true_and] at hevent
  exact ⟨w, hw, hevent⟩

theorem firstShortage_turned {reachedAt : Nat → Bool} {s : State} (ht : TellsTime reachedAt s) (n : Nat) :
    WaveTurned n (fun w w' => w' = firstChecked reachedAt w) s (firstShortage n s) := by
  refine .onWave fun w hw => ?_
  rw [ht.shortageTime, doWhen]
  split
  · next hc =>
    have hcheck := shortageCheck_turned n s hw
    refine ⟨hcheck.numbers, hcheck.others, fun v hv => ?_⟩
    obtain rfl := Option.some.inj (hw.symm.trans hv)
    obtain ⟨w', hw', he⟩ := hcheck.turned w hw
    exact ⟨w', hw', he.trans (if_pos hc).symm⟩
  · next hc =>
    refine .of_waves rfl fun v hv => ?_
    obtain rfl := Option.some.inj (hw.symm.trans hv)
    exact (if_neg hc).symm

/-! ## The target write (R19, R21, R147) -/

/-- A wave writes its target into an oven that is not TRIPPED, and reports the refusal of one that is. -/
theorem writeOvenTarget_write (w : Wave) (s : State) : TargetWrite w w.state s (writeOvenTarget w s) := by
  refine ⟨fun ht => ?_, fun ht => ?_⟩
  · rw [writeOvenTarget, writeTarget, if_pos ht]
    rfl
  · have hwrite : writeOvenTarget w s = updateChannel w.oven (takeTarget (topTarget s.profile w.oven)
        (reading s w.oven) (clampNat 0 (topTarget s.profile w.oven) w.target) 0) s := by
      rw [writeOvenTarget, writeTarget, ht]
      rfl
    refine ⟨_, _, _, rfl, rfl, hwrite, ?_⟩
    cases hc : s.heat.channels[w.oven].state <;> simp only [takeTarget, hc]
    · rfl
    · rfl
    · rfl
    · rw [← hc]

/-! ## PREHEAT, FIRE-DUE and LATE (R147, R148, R153) -/

/-- The wave as it enters PREHEAT, before its ask check. -/
def preheating (w : Wave) : Wave := { w with state := .preheat, check := some 5000 }

/-- The entry to PREHEAT as far as its ask check. -/
def preheatAsked (n : Nat) (s : State) : State :=
  askSources n (onWave n writeOvenTarget (updateWave n preheating s))

/-- The entry to PREHEAT as far as its report. -/
def preheatReported (n : Nat) (s : State) : State :=
  onWave n (fun w => pushReport (waveReport w (some .planned) (some .preheat) .preheat)) (preheatAsked n s)

theorem enterPreheat_eq (n : Nat) (s : State) : enterPreheat n s = firstShortage n (preheatReported n s) := rfl

theorem preheatAsked_turned (n : Nat) (s : State) :
    WaveTurned n (fun w w' => SourcesMoved (preheating w) w') s (preheatAsked n s) := by
  have hstate : WaveTurned n (fun w w' => w' = preheating w) s (updateWave n preheating s) :=
    .update rfl (fun _ => rfl) fun _ _ => rfl
  have hwrite : SameExcept [.heat, .port] (updateWave n preheating s)
      (onWave n writeOvenTarget (updateWave n preheating s)) :=
    onWave_step (.refl _ _) fun w => writeOvenTarget_frame w _
  exact (hstate.then hwrite (by decide)).trans (askSources_turned n _) fun _ _ _ he hm => he ▸ hm

theorem reportOn_frame (n : Nat) (b : Wave → ReportBody) (s : State) :
    SameExcept [.port] s (onWave n (fun w => pushReport (b w)) s) :=
  onWave_step (.refl _ _) fun w => pushReport_frame (b w) s

theorem preheatReported_frame (n : Nat) (s : State) :
    SameExcept [.heat, .bus, .stock, .waves, .port] s (preheatReported n s) :=
  (reportOn_frame _ _ _).step ((askSources_frame _ _).step (onWave_step ((updateWave_frame _ _ s).mono (by decide))
    fun w => (writeOvenTarget_frame w _).mono (by decide)) (by decide)) (by decide)

theorem preheatReported_turned (n : Nat) (s : State) :
    WaveTurned n (fun w w' => SourcesMoved (preheating w) w') s (preheatReported n s) :=
  (preheatAsked_turned n s).then (reportOn_frame _ _ _) (by decide)

/-- Everything the entry to PREHEAT can do. -/
theorem enterPreheat_entered {reachedAt : Nat → Bool} {n : Nat} {s : State} {w : Wave} (ht : TellsTime reachedAt s)
    (hw : findWave n s = some w) : PreheatEntered reachedAt w s (enterPreheat n s) := by
  obtain rfl := findWave_number hw
  have hfound : findWave w.number (updateWave w.number preheating s) = some (preheating w) :=
    findWave_changed hw fun _ => rfl
  obtain ⟨v, hv, src1, src2, hmoved⟩ := (preheatAsked_turned w.number s).turned w hw
  have hreport : preheatReported w.number s =
      pushReport (.wave w.number (some .planned) (some .preheat) w.late w.short .preheat) (preheatAsked w.number s) := by
    rw [preheatReported, onWave_of_some hv, hmoved]
    rfl
  obtain ⟨v', hv', src1', src2', hmoved'⟩ := (preheatReported_turned w.number s).turned w hw
  refine ⟨updateWave w.number preheating s, writeOvenTarget (preheating w) (updateWave w.number preheating s),
    preheatReported w.number s, rfl, writeOvenTarget_write (preheating w) _, ?_,
    firstShortage_event_of_asking (ht.congr ((preheatReported_frame w.number s).life (by decide))) hv' ?_⟩
  · rw [hreport, preheatAsked, onWave_of_some hfound]
  · rw [hmoved']
    rfl

/-- The wave after its entry to PREHEAT. -/
def Preheated (reachedAt : Nat → Bool) (w w' : Wave) : Prop :=
  ∃ v, SourcesMoved (preheating w) v ∧ w' = firstChecked reachedAt v

theorem enterPreheat_turned {reachedAt : Nat → Bool} {s : State} (ht : TellsTime reachedAt s) (n : Nat) :
    WaveTurned n (Preheated reachedAt) s (enterPreheat n s) := by
  rw [enterPreheat_eq]
  exact (preheatReported_turned n s).trans
    (firstShortage_turned (ht.congr ((preheatReported_frame n s).life (by decide))) n) fun _ v _ hm he => ⟨v, hm, he⟩

theorem FireDueEntered.turned {n : Nat} {s t : State} {w : Wave} (hw : findWave n s = some w) (h : FireDueEntered w s t) :
    WaveTurned n (fun w w' => w' = { w with state := .fireDue }) s t := by
  have hwaves : t.waves = (updateWave n (fun x => { x with state := .fireDue }) s).waves := by
    rw [h, (pushReport_frame _ _).waves (by decide), (raiseCall_frame _ _ _).waves (by decide), findWave_number hw]
  exact .update hwaves (fun _ => rfl) fun _ _ => rfl

theorem MadeLate.turned {n : Nat} {s t : State} {w : Wave} (hw : findWave n s = some w) (h : MadeLate w s t) :
    WaveTurned n (fun w w' => w' = { w with late := true }) s t := by
  have hwaves : t.waves = (updateWave n (fun x => { x with late := true }) s).waves := by
    rw [h, (pushReport_frame _ _).waves (by decide), (raiseCall_frame _ _ _).waves (by decide), findWave_number hw]
  exact .update hwaves (fun _ => rfl) fun _ _ => rfl

/-! ## The four steps of a wave at a clock second -/

/-- The event of a wave, and the wave after it. -/
theorem onWave_event {n : Nat} {due : Wave → Bool} {happens : Wave → State → State → Prop} {R : Wave → Wave → Prop}
    {f : State → State} {s : State} {w : Wave} (hw : findWave n s = some w)
    (hf : due w = true → happens w s (f s) ∧ WaveTurned n R s (f s)) :
    WaveEvent n due happens s (onWave n (fun x => doWhen (due x) f) s) ∧
      WaveTurned n (fun x x' => if due x then R x x' else x' = x) s (onWave n (fun x => doWhen (due x) f) s) := by
  rw [onWave_of_some hw, doWhen]
  cases hd : due w with
  | true =>
    obtain ⟨hhappens, hturned⟩ := hf hd
    rw [if_pos rfl]
    refine ⟨⟨w, hw, by rw [hd]; exact hhappens⟩, hturned.numbers, hturned.others, fun v hv => ?_⟩
    obtain rfl := Option.some.inj (hw.symm.trans hv)
    obtain ⟨w', hw', hr⟩ := hturned.turned w hw
    exact ⟨w', hw', by rw [hd]; exact hr⟩
  | false =>
    rw [if_neg Bool.false_ne_true]
    refine ⟨⟨w, hw, by rw [hd]; rfl⟩, .of_waves rfl fun v hv => ?_⟩
    obtain rfl := Option.some.inj (hw.symm.trans hv)
    rw [hd]
    rfl

/-- The PREHEAT step is due. -/
def preheatDue (reachedAt : Nat → Bool) (lead : Nat) (w : Wave) : Bool :=
  decide (w.state = .planned) && reachedAt ((w.fire + 86400 - lead % 86400) % 86400)

theorem preheatStep_event {reachedAt : Nat → Bool} {n : Nat} {s : State} {w : Wave} (ht : TellsTime reachedAt s)
    (hw : findWave n s = some w) :
    WaveEvent n (preheatDue reachedAt s.profile.preheatLead) (PreheatEntered reachedAt) s (preheatStep n s) ∧
      WaveTurned n (fun x x' => if preheatDue reachedAt s.profile.preheatLead x then Preheated reachedAt x x' else x' = x)
        s (preheatStep n s) := by
  have hstep : preheatStep n s =
      onWave n (fun x => doWhen (preheatDue reachedAt s.profile.preheatLead x) (enterPreheat n)) s := by
    simp only [preheatStep, preheatTime, ht.reached, clockLess, Config.day, preheatDue]
  rw [hstep]
  exact onWave_event hw fun _ => ⟨enterPreheat_entered ht hw, enterPreheat_turned ht n⟩

/-- The FIRE-DUE step is due. -/
def fireDue (reachedAt : Nat → Bool) (w : Wave) : Bool := decide (w.state = .preheat) && reachedAt w.fire

theorem fireDueStep_event {reachedAt : Nat → Bool} {n : Nat} {s : State} {w : Wave} (ht : TellsTime reachedAt s)
    (hw : findWave n s = some w) :
    WaveEvent n (fireDue reachedAt) FireDueEntered s (fireDueStep n s) ∧
      WaveTurned n (fun x x' => if fireDue reachedAt x then x' = { x with state := .fireDue } else x' = x)
        s (fireDueStep n s) := by
  have hstep : fireDueStep n s = onWave n (fun x => doWhen (fireDue reachedAt x) (enterFireDue n)) s := by
    simp only [fireDueStep, ht.reached, fireDue]
  rw [hstep]
  exact onWave_event hw fun _ => ⟨enterFireDue_entered hw, (enterFireDue_entered hw).turned hw⟩

/-- The LATE step is due. -/
def lateDue (reachedAt : Nat → Bool) (w : Wave) : Bool :=
  decide (w.state ≠ .plating) && !w.late && reachedAt w.pass

theorem lateStep_event {reachedAt : Nat → Bool} {n : Nat} {s : State} {w : Wave} (ht : TellsTime reachedAt s)
    (hw : findWave n s = some w) :
    WaveEvent n (lateDue reachedAt) MadeLate s (lateStep n s) ∧
      WaveTurned n (fun x x' => if lateDue reachedAt x then x' = { x with late := true } else x' = x)
        s (lateStep n s) := by
  have hstep : lateStep n s = onWave n (fun x => doWhen (lateDue reachedAt x) (makeLate n)) s := by
    simp only [lateStep, ht.reached, lateDue]
  rw [hstep]
  exact onWave_event hw fun _ => ⟨makeLate_late hw, (makeLate_late hw).turned hw⟩

/-- The wave `w'` that a clock second leaves of `w`, step by step. -/
def Judged (reachedAt : Nat → Bool) (lead : Nat) (w w' : Wave) : Prop :=
  ∃ a b c : Wave, (if preheatDue reachedAt lead w then Preheated reachedAt w a else a = w) ∧
    (if fireDue reachedAt a then b = { a with state := .fireDue } else b = a) ∧
    (if lateDue reachedAt b then c = { b with late := true } else c = b) ∧ w' = firstChecked reachedAt c

theorem WaveTurned.isSome {n m : Nat} {R : Wave → Wave → Prop} {s t : State} (h : WaveTurned n R s t)
    (hm : (findWave m s).isSome) : (findWave m t).isSome := by
  by_cases hn : m = n
  · obtain ⟨w, hw⟩ := Option.isSome_iff_exists.1 hm
    obtain ⟨w', hw', -⟩ := h.turned w (hn ▸ hw)
    rw [hn, hw']
    rfl
  · rw [h.others m hn]
    exact hm

theorem onWave_doWhen_frame {bs : List Block} {n : Nat} {f : State → State} {due : Wave → Bool} {s : State}
    (h : SameExcept bs s (f s)) : SameExcept bs s (onWave n (fun w => doWhen (due w) f) s) :=
  onWave_step (.refl _ _) fun _ => doWhen_frame _ _ h

theorem judgeWave_judged {reachedAt : Nat → Bool} {n : Nat} {s : State} {w : Wave} (ht : TellsTime reachedAt s)
    (hw : findWave n s = some w) : WaveJudged reachedAt n s (judgeWave n s) ∧
      WaveTurned n (Judged reachedAt s.profile.preheatLead) s (judgeWave n s) := by
  rw [judgeWave_eq]
  have hlife₁ : (preheatStep n s).life = s.life := (onWave_doWhen_frame (enterPreheat_frame n s)).life (by decide)
  obtain ⟨he₁, hstep₁⟩ := preheatStep_event ht hw
  obtain ⟨w₁, hw₁, -⟩ := hstep₁.turned w hw
  generalize preheatStep n s = s₁ at hlife₁ he₁ hstep₁ hw₁ ⊢
  have ht₁ := ht.congr hlife₁
  have hlife₂ : (fireDueStep n s₁).life = s₁.life := (onWave_doWhen_frame (enterFireDue_frame n s₁)).life (by decide)
  obtain ⟨he₂, hstep₂⟩ := fireDueStep_event ht₁ hw₁
  obtain ⟨w₂, hw₂, -⟩ := hstep₂.turned w₁ hw₁
  generalize fireDueStep n s₁ = s₂ at hlife₂ he₂ hstep₂ hw₂ ⊢
  have ht₂ := ht₁.congr hlife₂
  have hlife₃ : (lateStep n s₂).life = s₂.life := (onWave_doWhen_frame (makeLate_frame n s₂)).life (by decide)
  obtain ⟨he₃, hstep₃⟩ := lateStep_event ht₂ hw₂
  obtain ⟨w₃, hw₃, -⟩ := hstep₃.turned w₂ hw₂
  generalize lateStep n s₂ = s₃ at hlife₃ he₃ hstep₃ hw₃ ⊢
  have ht₃ := ht₂.congr hlife₃
  refine ⟨⟨s₁, s₂, s₃, he₁, he₂, he₃, firstShortage_event ht₃ hw₃⟩, ?_⟩
  refine ((hstep₁.trans hstep₂ (T := fun x z => ∃ a, (if preheatDue reachedAt s.profile.preheatLead x then
    Preheated reachedAt x a else a = x) ∧ (if fireDue reachedAt a then z = { a with state := .fireDue } else z = a))
    fun _ a _ h g => ⟨a, h, g⟩).trans (hstep₃.trans (firstShortage_turned ht₃ n) (T := fun x z => ∃ c,
    (if lateDue reachedAt x then c = { x with late := true } else c = x) ∧ z = firstChecked reachedAt c)
    fun _ c _ h g => ⟨c, h, g⟩)) ?_
  rintro x b z ⟨a, ha, hb⟩ ⟨c, hc, hz⟩
  exact ⟨a, b, c, ha, hb, hc, hz⟩

/-! ## The waves one after the other -/

theorem judgeWaves_judged {reachedAt : Nat → Bool} {ns : List Nat} (hns : ns.Nodup) {s : State}
    (ht : TellsTime reachedAt s) (hfound : ∀ n ∈ ns, (findWave n s).isSome) :
    WavesJudged reachedAt ns s (ns.foldl (fun s n => judgeWave n s) s) ∧
      (ns.foldl (fun s n => judgeWave n s) s).waves.map (fun w => w.number) = s.waves.map (fun w => w.number) ∧
      (∀ m, m ∉ ns → findWave m (ns.foldl (fun s n => judgeWave n s) s) = findWave m s) ∧
      ∀ m ∈ ns, ∀ w, findWave m s = some w → ∃ w', findWave m (ns.foldl (fun s n => judgeWave n s) s) = some w' ∧
        Judged reachedAt s.profile.preheatLead w w' := by
  induction ns generalizing s with
  | nil => exact ⟨rfl, rfl, fun _ _ => rfl, nofun⟩
  | cons n ns ih =>
    obtain ⟨hn, hns⟩ := List.nodup_cons.1 hns
    obtain ⟨w, hw⟩ := Option.isSome_iff_exists.1 (hfound n List.mem_cons_self)
    obtain ⟨hjudged, hturned⟩ := judgeWave_judged ht hw
    have hframe := judgeWave_frame n s
    obtain ⟨hrest, hnumbers, hothers, hwaves⟩ := ih hns (s := judgeWave n s) (ht.congr (hframe.life (by decide)))
      fun m hm => hturned.isSome (hfound m (List.mem_cons_of_mem _ hm))
    rw [hframe.profile (by decide)] at hwaves
    rw [List.foldl_cons]
    refine ⟨⟨_, hjudged, hrest⟩, hnumbers.trans hturned.numbers, fun m hm => ?_, fun m hm v hv => ?_⟩
    · obtain ⟨hmn, hms⟩ := not_or.1 (mt List.mem_cons.2 hm)
      rw [hothers m hms, hturned.others m hmn]
    · obtain rfl | hm := List.mem_cons.1 hm
      · rw [hothers m hn]
        exact hturned.turned v hv
      · refine hwaves m hm v ?_
        rw [hturned.others m (fun e => hn (e ▸ hm))]
        exact hv

/-! ## The record of a judged wave -/

theorem firstChecked_eq (reachedAt : Nat → Bool) (w : Wave) : firstChecked reachedAt w = { w with
    shortage := w.shortage || (asking w.state && reachedAt ((w.pass + 85800) % 86400))
    short := if asking w.state && !w.shortage && reachedAt ((w.pass + 85800) % 86400) then !covered w else w.short } := by
  rw [firstChecked]
  split
  · next h =>
    simp only [Bool.and_eq_true, Bool.not_eq_true'] at h
    obtain ⟨⟨ha, hs⟩, hr⟩ := h
    rw [ha, hs, hr]
    rfl
  · next h =>
    have hs : (w.shortage || (asking w.state && reachedAt ((w.pass + 85800) % 86400))) = w.shortage := by
      revert h
      cases w.shortage <;> simp
    rw [hs]

/-- The wave behind FIRE-DUE and LATE. -/
def advanced (reachedAt : Nat → Bool) (w : Wave) : Wave := { w with
  state := if fireDue reachedAt w then .fireDue else w.state
  late := w.late || (decide (w.state ≠ .plating) && reachedAt w.pass) }

theorem Judged.steps {reachedAt : Nat → Bool} {lead : Nat} {w w' : Wave} (h : Judged reachedAt lead w w') :
    ∃ a, (if preheatDue reachedAt lead w then Preheated reachedAt w a else a = w) ∧
      w' = firstChecked reachedAt (advanced reachedAt a) := by
  obtain ⟨a, b, c, ha, hb, hc, rfl⟩ := h
  refine ⟨a, ha, congrArg (firstChecked reachedAt) ?_⟩
  have hfire : b = { a with state := if fireDue reachedAt a then .fireDue else a.state } := by
    split at hb
    · next hf => rw [hb, if_pos hf]
    · next hf => rw [hb, if_neg hf]
  have hplating : decide (b.state ≠ .plating) = decide (a.state ≠ .plating) := by
    rw [hfire]
    cases hs : a.state <;> simp [fireDue, hs]
    split <;> simp
  have hlate : c = { b with late := b.late || (decide (b.state ≠ .plating) && reachedAt b.pass) } := by
    split at hc
    · next hl =>
      simp only [lateDue, Bool.and_eq_true, Bool.not_eq_true'] at hl
      obtain ⟨⟨hs, -⟩, hr⟩ := hl
      rw [hc, hs, hr, Bool.and_true, Bool.or_true]
    · next hl =>
      have hk : (b.late || (decide (b.state ≠ .plating) && reachedAt b.pass)) = b.late := by
        revert hl
        rw [lateDue]
        cases b.late <;> simp
      rw [hc, hk]
  rw [hlate, hplating, hfire]
  rfl

/-- What a clock second leaves of the wave `w` (R147, R148, R153, R158). -/
structure JudgedAs (reachedAt : Nat → Bool) (lead : Nat) (w w' : Wave) : Prop where
  kept : w'.number = w.number ∧ w'.oven = w.oven ∧ w'.fire = w.fire ∧ w'.pass = w.pass ∧ w'.cook = w.cook ∧
    w'.target = w.target ∧ w'.covers = w.covers ∧ w'.cookLeft = w.cookLeft
  state : w'.state = if w.state = .planned ∧ reachedAt ((w.fire + 86400 - lead % 86400) % 86400) = true then
      (if reachedAt w.fire = true then .fireDue else .preheat)
    else if w.state = .preheat ∧ reachedAt w.fire = true then .fireDue else w.state
  late : w'.late = (w.late || (decide (w.state ≠ .plating) && reachedAt w.pass))
  check : w.state = .planned → w'.state ≠ .planned → w'.check = some 5000
  shortage : w'.shortage = (w.shortage || (asking w'.state && reachedAt ((w.pass + 85800) % 86400)))
  short : w.shortage = false → w'.shortage = true → w'.short = !covered w'
  shortKept : w.shortage = true ∨ w'.shortage = false → w'.short = w.short

theorem Judged.of_preheat {reachedAt : Nat → Bool} {lead : Nat} {w w' : Wave} (h : Judged reachedAt lead w w')
    (hp : preheatDue reachedAt lead w = true) : JudgedAs reachedAt lead w w' := by
  obtain ⟨a, ha, he⟩ := h.steps
  rw [if_pos hp] at ha
  obtain ⟨v, ⟨src1, src2, hv⟩, hav⟩ := ha
  simp only [preheatDue, Bool.and_eq_true, decide_eq_true_eq] at hp
  obtain ⟨hplanned, hreached⟩ := hp
  have ha : a = { preheating w with
      src1 := src1
      src2 := src2
      shortage := w.shortage || reachedAt ((w.pass + 85800) % 86400)
      short := if !w.shortage && reachedAt ((w.pass + 85800) % 86400) then !covered v else w.short } := by
    rw [hav, firstChecked_eq, hv]
    rfl
  have hdone : w' = advanced reachedAt a := by
    refine he.trans (if_neg ?_)
    have hshortage : (advanced reachedAt a).shortage = (w.shortage || reachedAt ((w.pass + 85800) % 86400)) :=
      by rw [ha]; rfl
    have hpass : (advanced reachedAt a).pass = w.pass := by rw [ha]; rfl
    rw [hshortage, hpass]
    cases w.shortage <;> simp
  have hstate : w'.state = if reachedAt w.fire = true then .fireDue else .preheat := by
    rw [hdone, ha]
    rfl
  have hasking : asking w'.state = true := by
    rw [hstate]
    split <;> rfl
  have hshort : w'.short =
      if !w.shortage && reachedAt ((w.pass + 85800) % 86400) then !covered v else w.short := by
    rw [hdone, ha]
    rfl
  have hshortage : w'.shortage = (w.shortage || reachedAt ((w.pass + 85800) % 86400)) := by
    rw [hdone, ha]
    rfl
  have hcovered : covered w' = covered v := by
    rw [hdone, ha, hv]
    rfl
  refine ⟨?_, ?_, ?_, fun _ _ => ?_, ?_, fun h0 h1 => ?_, fun hk => ?_⟩
  · rw [hdone, ha]
    exact ⟨rfl, rfl, rfl, rfl, rfl, rfl, rfl, rfl⟩
  · exact hstate.trans (if_pos ⟨hplanned, hreached⟩).symm
  · rw [hdone, ha, hplanned]
    rfl
  · rw [hdone, ha]
    rfl
  · rw [hshortage, hasking, Bool.true_and]
  · rw [hshortage, h0, Bool.false_or] at h1
    rw [hshort, h0, h1, hcovered]
    rfl
  · rw [hshort]
    obtain hk | hk := hk
    · rw [hk]
      rfl
    · rw [hshortage, Bool.or_eq_false_iff] at hk
      rw [hk.2, Bool.and_false]
      rfl

theorem Judged.of_not_preheat {reachedAt : Nat → Bool} {lead : Nat} {w w' : Wave} (h : Judged reachedAt lead w w')
    (hp : preheatDue reachedAt lead w = false) : JudgedAs reachedAt lead w w' := by
  obtain ⟨a, ha, he⟩ := h.steps
  rw [hp] at ha
  obtain rfl : a = w := ha
  rw [firstChecked_eq] at he
  have hstate : w'.state = if fireDue reachedAt a then .fireDue else a.state := by
    rw [he]
    rfl
  have hshortage : w'.shortage = (a.shortage || (asking w'.state && reachedAt ((a.pass + 85800) % 86400))) := by
    rw [he]
    rfl
  have hshort : w'.short = if asking w'.state && !a.shortage && reachedAt ((a.pass + 85800) % 86400)
      then !covered w' else a.short := by
    rw [he]
    rfl
  refine ⟨?_, ?_, ?_, fun h0 h1 => ?_, hshortage, fun h0 h1 => ?_, fun hk => ?_⟩
  · rw [he]
    exact ⟨rfl, rfl, rfl, rfl, rfl, rfl, rfl, rfl⟩
  · have hno : ¬ (a.state = .planned ∧ reachedAt ((a.fire + 86400 - lead % 86400) % 86400) = true) := by
      simpa [preheatDue] using hp
    rw [hstate, if_neg hno]
    simp only [fireDue, Bool.and_eq_true, decide_eq_true_eq]
  · rw [he]
    rfl
  · rw [hstate, fireDue, h0] at h1
    exact absurd rfl h1
  · rw [hshortage, h0, Bool.false_or] at h1
    rw [Bool.and_eq_true] at h1
    rw [hshort, h0, h1.1, h1.2]
    rfl
  · rw [hshort]
    obtain hk | hk := hk
    · rw [hk, Bool.not_true, Bool.and_false]
      rfl
    · rw [hshortage, Bool.or_eq_false_iff] at hk
      rw [Bool.and_right_comm, hk.2]
      rfl

theorem Judged.judgedAs {reachedAt : Nat → Bool} {lead : Nat} {w w' : Wave} (h : Judged reachedAt lead w w') :
    JudgedAs reachedAt lead w w' := by
  cases hp : preheatDue reachedAt lead w with
  | true => exact h.of_preheat hp
  | false => exact h.of_not_preheat hp

/-! ## The clock second -/

theorem exec_clockSecond {s : State} (h : awake s = true) (hd : s.life.second.due = true) :
    exec .clockSecond s = .next (clockSecond s) := expiry_of_due h hd _

/-- In a table in rising order every wave is found under its number. -/
theorem findWave_of_mem {s : State} (hr : risingWaves s.waves) {w : Wave} (hw : w ∈ s.waves) :
    findWave w.number s = some w := by
  have hnodup : (s.waves.map (fun x => x.number)).Nodup :=
    List.pairwise_map.2 (hr.imp fun hlt => Nat.ne_of_lt hlt)
  cases hf : findWave w.number s with
  | none => exact absurd (List.find?_eq_none.1 hf w hw) (by simp)
  | some x =>
    have hx : x ∈ s.waves := List.mem_of_find?_eq_some hf
    exact congrArg some (List.inj_on_of_nodup_map hnodup hx hw (findWave_number hf))

theorem short_iff_of_not_covered {w : Wave} (h : w.short = !covered w) : w.short = true ↔
    heldFigure w.src1.hold + ((w.src2.map (fun r => heldFigure r.hold)).getD 0) + w.src1.taken +
      ((w.src2.map (fun r => r.taken)).getD 0) < w.covers := by
  rw [h, covered, coverSum_eq]
  simp

/-- Settles O30: the walk over the numbers, and each wave by its own steps. -/
theorem clockSecondMovesWavesAlongTheirTimeline : Obligations.ClockSecondMovesWavesAlongTheirTimeline := by
  unfold Obligations.ClockSecondMovesWavesAlongTheirTimeline
  intro s reachedAt ha hd hrising hreached
  have ht : TellsTime reachedAt (s.setLife { s.life with
    clock := (s.life.clock + 1) % 86400, second := { s.life.second with phase := 0, due := false } }) := hreached
  have hnodup : (s.waves.map (fun w => w.number)).Nodup :=
    List.pairwise_map.2 (hrising.imp fun hlt => Nat.ne_of_lt hlt)
  obtain ⟨hjudged, hnumbers, -, hwaves⟩ := judgeWaves_judged hnodup ht fun n hn => by
    obtain ⟨w, hw, rfl⟩ := List.mem_map.1 hn
    exact Option.isSome_iff_exists.2 ⟨w, findWave_of_mem hrising hw⟩
  refine ⟨clockSecond s, exec_clockSecond ha hd, hjudged, hnumbers, fun w hw => ?_⟩
  obtain ⟨w', hw', hj⟩ := hwaves w.number (List.mem_map_of_mem hw) w (findWave_of_mem hrising hw)
  obtain ⟨⟨hnumber, hoven, hfire, hpass, hcook, htarget, hcovers, hleft⟩, hstate, hlate, hcheck, hshortage, hshort,
    hkept⟩ := hj.judgedAs
  exact ⟨w', List.mem_of_find?_eq_some hw', hnumber, hoven, hfire, hpass, hcook, htarget, hcovers, hleft, hstate, hlate,
    hcheck, hshortage, fun h0 h1 => short_iff_of_not_covered (hshort h0 h1), hkept⟩

end Sys2Proof.Machine
end

section
/-! What the blocks do to the panel port: they queue reports, and the transaction and the reply stand (R184, R190). -/

namespace Sys2Proof.Machine

/-- From `s` to `t` the transaction and the reply of the panel port stand. -/
def PortStands (s t : State) : Prop :=
  t.port.transaction = s.port.transaction ∧ t.port.reply = s.port.reply

namespace PortStands

theorem refl (s : State) : PortStands s s := ⟨rfl, rfl⟩

theorem trans {s t u : State} (h : PortStands s t) (g : PortStands t u) : PortStands s u :=
  ⟨g.1.trans h.1, g.2.trans h.2⟩

theorem of_port {s t : State} (h : t.port = s.port) : PortStands s t := ⟨by rw [h], by rw [h]⟩

theorem of_frame {bs : List Block} {s t : State} (h : SameExcept bs s t) (hb : Block.port ∉ bs) : PortStands s t :=
  of_port (h .port hb)

theorem doWhen {c : Bool} {f : State → State} {s : State} (h : PortStands s (f s)) :
    PortStands s (Machine.doWhen c f s) := by
  cases c
  · exact refl s
  · exact h

theorem pushReport (b : ReportBody) (s : State) : PortStands s (pushReport b s) := by
  unfold Machine.pushReport
  dsimp only
  split <;> exact ⟨rfl, rfl⟩

theorem offer (f : Frame) (s : State) : PortStands s (offer f s) := of_frame (offer_frame f s) (by decide)

theorem sendCancel (n : Nat) (s : State) : PortStands s (sendCancel n s) := of_frame (sendCancel_frame n s) (by decide)

theorem updateCall (n : Nat) (f : Call → Call) (s : State) : PortStands s (updateCall n f s) := of_port rfl

theorem dropCall (n : Nat) (s : State) : PortStands s (dropCall n s) := of_port rfl

theorem endCall (c : Call) (cause : CallCause) (s : State) : PortStands s (endCall c cause s) :=
  ((dropCall c.number s).trans (pushReport _ _)).trans (sendCancel _ _)

theorem withdrawCall (c : Call) (s : State) : PortStands s (withdrawCall c s) :=
  (dropCall c.number s).trans (doWhen (sendCancel c.number _))

theorem pageStateAtOrigin (b : PageStateBody) (s : State) : PortStands s (pageStateAtOrigin b s) := by
  unfold Machine.pageStateAtOrigin
  split
  · exact refl s
  · split
    · exact updateCall _ _ _
    · exact updateCall _ _ _
    · exact endCall _ _ _
    · exact endCall _ _ _
    · exact endCall _ _ _
    · exact refl s

theorem tellOrigin (c : Paged) (outcome detail : Nat) (s : State) : PortStands s (tellOrigin c outcome detail s) := by
  unfold Machine.tellOrigin
  dsimp only
  split
  · exact pageStateAtOrigin _ _
  · exact offer _ _

theorem finishPaged (c : Paged) (outcome detail : Nat) (s : State) : PortStands s (finishPaged c outcome detail s) :=
  tellOrigin c outcome detail (s.setPaging _)

theorem grantCalls (fuel : Nat) (s : State) : PortStands s (grantCalls fuel s) := by
  induction fuel generalizing s with
  | zero => exact refl s
  | succ fuel ih =>
    unfold Machine.grantCalls
    split
    · exact refl s
    · split
      · exact of_port rfl
      · exact (finishPaged _ _ _ _).trans (ih _)

theorem arbitrate (s : State) : PortStands s (arbitrate s) := by
  unfold Machine.arbitrate
  split
  · split
    · exact doWhen (of_port rfl)
    · exact grantCalls _ _
  · exact refl s

theorem takePaged (origin : Nat) (b : PageCallBody) (s : State) : PortStands s (takePaged origin b s) :=
  tellOrigin _ 1 0 (s.setPaging _)

theorem dropPaged (origin : Nat) (b : PageCallBody) (s : State) : PortStands s (dropPaged origin b s) := by
  unfold Machine.dropPaged
  dsimp only
  split
  · exact pageStateAtOrigin _ _
  · exact offer _ _

theorem serveCall (origin : Nat) (b : PageCallBody) (s : State) : PortStands s (serveCall origin b s) := by
  have htaken (u : State) : PortStands u (Machine.arbitrate (Machine.takePaged origin b u)) :=
    (takePaged _ _ _).trans (arbitrate _)
  unfold Machine.serveCall
  split
  · split
    · split
      · exact tellOrigin _ _ _ _
      · exact tellOrigin _ _ _ _
    · split
      · exact refl s
      · split
        · exact htaken s
        · split
          · split
            · exact (finishPaged _ _ _ _).trans (htaken _)
            · exact dropPaged _ _ _
          · exact dropPaged _ _ _
  · exact refl s

theorem broadcast (c : Call) (s : State) : PortStands s (broadcast c s) :=
  ((updateCall c.number _ s).trans (offer _ _)).trans (serveCall _ _ _)

theorem enterCall (r : CallReason) (subject : Nat) (group : Option Nat) (urgency : Nat) (s : State) :
    PortStands s (enterCall r subject group urgency s) := by
  unfold Machine.enterCall
  dsimp only
  split
  · exact pushReport _ (s.setPaging _)
  · exact broadcast _ (s.setPaging _)

theorem makeRoom {urgency : Nat} {s t : State} (h : makeRoom urgency s = some t) : PortStands s t := by
  unfold Machine.makeRoom at h
  split at h
  · cases h
    exact refl s
  · split at h
    · split at h
      · cases h
        exact (withdrawCall _ _).trans (pushReport _ _)
      · cases h
    · cases h

theorem raiseCall (r : CallReason) (subject : Nat) (s : State) : PortStands s (raiseCall r subject s) := by
  unfold Machine.raiseCall
  split
  · exact refl s
  · split
    · next t ht => exact (makeRoom ht).trans (enterCall _ _ _ _ _)
    · exact pushReport _ _

theorem onWave {n : Nat} {f : Wave → State → State} {s : State} (h : ∀ w, PortStands s (f w s)) :
    PortStands s (onWave n f s) := by
  unfold Machine.onWave
  split
  · exact h _
  · exact refl s

theorem takeAnswer (sender : Nat) (b : HoldAnswerBody) (s : State) : PortStands s (takeAnswer sender b s) := by
  unfold Machine.takeAnswer
  split
  · exact doWhen (s := updateWave _ _ s) (pushReport _ _)
  · exact doWhen (of_frame (sendFree_frame _ _ _ _ s) (by decide))

theorem checkSource (second : Bool) (w : Wave) (s : State) : PortStands s (checkSource second w s) := by
  unfold Machine.checkSource
  split
  · exact refl s
  · dsimp only
    split
    · unfold Machine.sendAsk
      dsimp only
      split
      · exact (of_frame (askHold_frame _ _ s) (by decide)).trans (takeAnswer _ _ _)
      · split
        · exact (offer _ s).trans (of_port rfl)
        · exact refl s
    · split
      · exact doWhen (of_frame (giveUp_frame _ _ _ s) (by decide))
      · exact refl s

theorem askSources (n : Nat) (s : State) : PortStands s (askSources n s) :=
  (onWave (n := n) fun w => checkSource false w s).trans (onWave fun w => checkSource true w _)

theorem updateWave (n : Nat) (f : Wave → Wave) (s : State) : PortStands s (updateWave n f s) := of_port rfl

theorem cancelShortage (n : Nat) (s : State) : PortStands s (cancelShortage n s) :=
  of_frame (cancelShortage_frame n s) (by decide)

theorem cancelCall (r : CallReason) (subject : Nat) (s : State) : PortStands s (cancelCall r subject s) :=
  of_frame (cancelCall_frame r subject s) (by decide)

theorem shortageCheck (n : Nat) (s : State) : PortStands s (shortageCheck n s) := by
  refine (updateWave n _ s).trans (onWave fun w => ?_)
  split
  · exact ((updateWave _ _ _).trans (cancelShortage _ _)).trans (doWhen (pushReport _ _))
  · exact (((updateWave _ _ _).trans (cancelCall _ _ _)).trans (raiseCall _ _ _)).trans (doWhen (pushReport _ _))

theorem firstShortage (n : Nat) (s : State) : PortStands s (firstShortage n s) :=
  onWave fun _ => doWhen (shortageCheck n s)

theorem writeOvenTarget (w : Wave) (s : State) : PortStands s (writeOvenTarget w s) := by
  have hwrite : PortStands s (writeTarget w.oven w.target s).1 := of_frame (writeTarget_frame _ _ s) (by decide)
  unfold Machine.writeOvenTarget
  dsimp only
  split
  · exact hwrite
  · exact hwrite.trans (pushReport _ _)

end PortStands

end Sys2Proof.Machine
end

section
/-! WAVE-FIRE (R149). -/

namespace Sys2Proof.Machine

/-- A word that spells a number below the tokens is that number (R186). -/
theorem narrow_of_lt {c : Word} (h : c.toNat < 65533) : narrow c = .value c.toNat := by
  have h1 : c.toNat ≠ 65533 := by omega
  have h2 : c.toNat ≠ 65534 := by omega
  have h3 : c.toNat ≠ 65535 := by omega
  simp [narrow, tokenOf, h1, h2, h3]

/-- A command with an identifier in its range reaches its owner (R185). -/
theorem oneId_of_within {lo hi : Nat} {c : Word} {s : State} (hj : joined s = true) (hlo : lo ≤ c.toNat)
    (hhi : c.toNat ≤ hi) (hlt : c.toNat < 65533) (owner : Nat → Except Reason Done) :
    oneId lo hi [c] s owner = owner c.toNat := by
  simp [oneId, narrow_of_lt hlt, stageOk_joinedOnly hj, hasValue, idWithin, idValue, hlo, hhi]

theorem waveCommand_of_found {n : Word} {w : Wave} {s : State} (hj : joined s = true) (hlo : 1 ≤ n.toNat)
    (hhi : n.toNat ≤ 255) (hw : findWave n.toNat s = some w) (owner : Wave → Except Reason Done) :
    waveCommand [n] s owner = owner w := by
  rw [waveCommand, oneId_of_within hj hlo hhi (by omega), hw]

theorem ovenBusy_iff (w : Wave) (s : State) : ovenBusy w s = true ↔
    ∃ x ∈ s.waves, x.number ≠ w.number ∧ x.oven = w.oven ∧ x.state = .cooking := by
  simp [ovenBusy, and_assoc]

theorem fireWave_of_free {w : Wave} {s : State} (h : ovenBusy w s = false) (fired : State) :
    fireWave w s fired = accepted fired false := if_neg (h ▸ Bool.false_ne_true)

theorem fireWave_of_busy {w : Wave} {s : State} (h : ovenBusy w s = true) (fired : State) :
    fireWave w s fired = .error .busy := if_pos h

/-- The wave that begins to cook. -/
def cooking (w : Wave) : Wave := { w with state := .cooking, cookLeft := some w.cook, cookMs := 1000 }

theorem startCooking_eq (n : Nat) (s : State) : startCooking n s = updateWave n cooking s := rfl

/-- A station that has started the cook and, from FIRE-DUE, cancelled its call. -/
structure CookStarted (w : Wave) (s u : State) : Prop where
  frame : SameExcept [.bus, .waves, .paging] s u
  waves : u.waves = (updateWave w.number cooking s).waves

theorem cookStarted_startCooking (w : Wave) (s : State) : CookStarted w s (startCooking w.number s) :=
  ⟨(startCooking_frame _ _).mono (by decide), rfl⟩

theorem cookStarted_cancel (w : Wave) (s : State) :
    CookStarted w s (cancelCall .fireDue w.number (startCooking w.number s)) :=
  ⟨(cancelCall_frame _ _ _).step ((startCooking_frame _ _).mono (by decide)) (by decide),
    (cancelCall_frame _ _ _).waves (by decide)⟩

theorem reportFired_of_found {n : Nat} {v : Wave} {u : State} (h : findWave n u = some v) (before : WaveState) :
    reportFired n before u = pushReport (.wave v.number (some before) (some .cooking) v.late v.short .fired) u :=
  onWave_of_some h _

/-- A WAVE-FIRE that has only to start the cook and to report it. -/
theorem fired_spec {w : Wave} {s u : State} {before : WaveState} (hw : findWave w.number s = some w)
    (h : CookStarted w (endTransaction s) u) : ∃ t, t = setReply (.done 65 false .none) (reportFired w.number before u) ∧
      SameExcept [.bus, .waves, .paging, .port] s t ∧
      t.waves = s.waves.map (fun x => if x.number = w.number
        then { x with state := .cooking, cookLeft := some x.cook, cookMs := 1000 } else x) ∧
      t.port.reply = .done 65 false .none ∧ t.port.transaction = .none ∧
      t.port.reports.getLast? = some ⟨s.life.clock, .wave w.number (some before) (some .cooking) w.late w.short .fired⟩ := by
  have hfound : findWave w.number u = some (cooking w) :=
    (findWave_congr h.waves _).trans (findWave_changed (s := endTransaction s) hw fun _ => rfl)
  have hreport := reportFired_of_found hfound before
  have hframe := reportFired_frame w.number before u
  have hport : PortStands (endTransaction s) (reportFired w.number before u) := by
    rw [hreport]
    exact (PortStands.of_frame h.frame (by decide)).trans (.pushReport _ _)
  refine ⟨_, rfl, (setReply_frame _ _).step (hframe.step (h.frame.step ((endTransaction_frame s).mono (by decide))
    (by decide)) (by decide)) (by decide), (hframe.waves (by decide)).trans h.waves, rfl, hport.1, ?_⟩
  change (reportFired w.number before u).port.reports.getLast? = _
  rw [hreport, pushReport_getLast, h.frame.life (by decide)]
  rfl

/-! ## WAVE-FIRE from PLANNED -/

/-- The wave that begins to cook without a PREHEAT: its ask checks begin too. -/
def cookingChecked (w : Wave) : Wave := { cooking w with check := some 5000 }

/-- WAVE-FIRE from PLANNED as far as its ask check. -/
def firedAsked (w : Wave) (s : State) : State :=
  askSources w.number (updateWave w.number cookingChecked (writeOvenTarget w s))

/-- WAVE-FIRE from PLANNED as far as its report. -/
def firedReported (w : Wave) (s : State) : State := reportFired w.number .planned (firedAsked w s)

theorem fireFromPlanned_eq (w : Wave) (s : State) :
    fireFromPlanned w s = firstShortage w.number (firedReported w s) := by
  rw [fireFromPlanned, firedReported, firedAsked]
  simp only [startCooking_eq]
  rw [updateWave_updateWave w.number cooking (fun x => { x with check := some Config.askMs }) (fun _ => rfl)]
  rfl

theorem firedAsked_turned (w : Wave) (s : State) : WaveTurned w.number
    (fun x x' => SourcesMoved (cookingChecked x) x') s (firedAsked w s) := by
  have hstart : WaveTurned w.number (fun x x' => x' = cookingChecked x) (writeOvenTarget w s)
      (updateWave w.number cookingChecked (writeOvenTarget w s)) := .update rfl (fun _ => rfl) fun _ _ => rfl
  exact (hstart.after (writeOvenTarget_frame w s) (by decide)).trans (askSources_turned _ _) fun _ _ _ he hm => he ▸ hm

theorem firedReported_turned (w : Wave) (s : State) : WaveTurned w.number
    (fun x x' => SourcesMoved (cookingChecked x) x') s (firedReported w s) :=
  (firedAsked_turned w s).then (reportFired_frame w.number .planned _) (by decide)

theorem firedReported_frame (w : Wave) (s : State) :
    SameExcept [.bus, .stock, .waves, .port] (writeOvenTarget w s) (firedReported w s) :=
  (reportFired_frame _ _ _).step ((askSources_frame _ _).step ((updateWave_frame _ _ _).mono (by decide)) (by decide))
    (by decide)

theorem fireFromPlanned_heat (w : Wave) (s : State) : (fireFromPlanned w s).heat = (writeOvenTarget w s).heat := by
  rw [fireFromPlanned_eq]
  exact ((firstShortage_frame _ _).heat (by decide)).trans ((firedReported_frame w s).heat (by decide))

theorem fireFromPlanned_port (w : Wave) (s : State) : PortStands s (fireFromPlanned w s) := by
  rw [fireFromPlanned_eq, firedReported, firedAsked, reportFired]
  exact ((((PortStands.writeOvenTarget w s).trans (.updateWave _ _ _)).trans (.askSources _ _)).trans
    (.onWave fun _ => .pushReport _ _)).trans (.firstShortage _ _)

/-- What WAVE-FIRE from PLANNED leaves of its wave. -/
structure CooksFrom (w w' : Wave) : Prop where
  state : w'.state = .cooking
  cookLeft : w'.cookLeft = some w.cook
  cookMs : w'.cookMs = 1000
  check : w'.check = some 5000

/-- Everything WAVE-FIRE from PLANNED does, and the wave it leaves. -/
theorem fireFromPlanned_fired {reachedAt : Nat → Bool} {w : Wave} {s : State} (ht : TellsTime reachedAt s)
    (hp : w.state = .planned) (hw : findWave w.number s = some w) :
    FiredFromPlanned reachedAt w s (fireFromPlanned w s) ∧
      WaveTurned w.number CooksFrom s (fireFromPlanned w s) := by
  obtain ⟨v, hv, src1, src2, hmoved⟩ := (firedAsked_turned w s).turned w hw
  obtain ⟨v', hv', src1', src2', hmoved'⟩ := (firedReported_turned w s).turned w hw
  have hreport : firedReported w s =
      pushReport (.wave w.number (some .planned) (some .cooking) w.late w.short .fired) (firedAsked w s) := by
    rw [firedReported, reportFired_of_found hv, hmoved]
    rfl
  have htold : TellsTime reachedAt (firedReported w s) := ht.congr
    (((firedReported_frame w s).life (by decide)).trans ((writeOvenTarget_frame w s).life (by decide)))
  rw [fireFromPlanned_eq]
  refine ⟨⟨writeOvenTarget w s, firedReported w s, hp ▸ writeOvenTarget_write w s, hreport,
    firstShortage_event_of_asking htold hv' (by rw [hmoved']; rfl)⟩, ?_⟩
  refine (firedReported_turned w s).trans (firstShortage_turned htold w.number) fun x y z hxy hz => ?_
  obtain ⟨a, b, rfl⟩ := hxy
  rw [hz, firstChecked_eq]
  exact ⟨rfl, rfl, rfl, rfl⟩

theorem fireFromPlanned_step (w : Wave) (s : State) :
    SameExcept [.heat, .bus, .stock, .waves, .paging, .port] s (setReply (.done 65 false .none)
      (fireFromPlanned w (endTransaction s))) :=
  (setReply_frame _ _).step ((fireFromPlanned_frame w _).step ((endTransaction_frame s).mono (by decide)) (by decide))
    (by decide)

/-- The oven of a wave takes its clamped target, with the working setpoint at the reading from IDLE (R19, R21). -/
theorem writeOvenTarget_heat {w : Wave} {s : State} (h : isTripped s.heat.channels[w.oven].state = false) :
    (writeOvenTarget w s).heat = { s.heat with channels := s.heat.channels.set w.oven { s.heat.channels[w.oven] with
        state := (writeOvenTarget w s).heat.channels[w.oven].state } } ∧
      ∃ p, setpointOf (writeOvenTarget w s).heat.channels[w.oven].state = some p ∧
        p.target = (min (topTarget s.profile w.oven) w.target : Nat) ∧ p.ramp = 0 ∧
        (s.heat.channels[w.oven].state = .idle →
          p.w = max 0 (min (topTarget s.profile w.oven : Int) (reading s w.oven))) := by
  obtain ⟨top, target, c, rfl, rfl, hwritten, hc⟩ := (writeOvenTarget_write w s).2 h
  have hclamp : max 0 (min (topTarget s.profile w.oven) w.target) = min (topTarget s.profile w.oven) w.target :=
    Nat.zero_max _
  have hheat : (writeOvenTarget w s).heat = { s.heat with channels := s.heat.channels.set w.oven c } := by
    rw [hwritten]
    rfl
  have hchannel : (writeOvenTarget w s).heat.channels[w.oven] = c := by rw [hheat, channel_set_same]
  rw [hclamp] at hc
  rw [hchannel]
  refine ⟨?_, ?_⟩
  · rw [hheat, hc]
  · cases hs : s.heat.channels[w.oven].state with
    | tripped x => rw [hs] at h; cases h
    | idle =>
      rw [hs] at hc
      rw [hc]
      exact ⟨_, rfl, rfl, rfl, fun _ => rfl⟩
    | ramp p | regulate p =>
      rw [hs] at hc
      rw [hc]
      exact ⟨_, rfl, rfl, rfl, nofun⟩

/-! ## The command -/

section

variable {n : Word} {w : Wave} {s : State} (hj : joined s = true) (hlo : 1 ≤ n.toNat) (hhi : n.toNat ≤ 255)
  (hw : findWave n.toNat s = some w)

include hj hlo hhi hw

theorem waveFireCommand_of_planned (h : w.state = .planned) :
    waveFireCommand [n] s = fireWave w s (fireFromPlanned w s) := by
  rw [waveFireCommand, waveCommand_of_found hj hlo hhi hw, h]

theorem waveFireCommand_of_preheat (h : w.state = .preheat) :
    waveFireCommand [n] s = fireWave w s (reportFired w.number .preheat (startCooking w.number s)) := by
  rw [waveFireCommand, waveCommand_of_found hj hlo hhi hw, h]

theorem waveFireCommand_of_fireDue (h : w.state = .fireDue) : waveFireCommand [n] s =
    fireWave w s (reportFired w.number .fireDue (cancelCall .fireDue w.number (startCooking w.number s))) := by
  rw [waveFireCommand, waveCommand_of_found hj hlo hhi hw, h]

end

/-- Settles O31: the refusal is the busy oven, and a wave that may be fired is fired by the state it is in. -/
theorem waveFireStartsTheCook : Obligations.WaveFireStartsTheCook := by
  unfold Obligations.WaveFireStartsTheCook
  intro n w s hd hj hlo hhi hw
  have hnumber : w.number = n.toNat := findWave_number hw
  have hplanned := waveFireCommand_of_planned (s := endTransaction s) hj hlo hhi hw
  have hpreheat := waveFireCommand_of_preheat (s := endTransaction s) hj hlo hhi hw
  have hfireDue := waveFireCommand_of_fireDue (s := endTransaction s) hj hlo hhi hw
  have hrefuse : ovenBusy w (endTransaction s) = true → w.state = .planned ∨ w.state = .preheat ∨ w.state = .fireDue →
      exec (.waveFire [n]) s = .next (refusedWith 65 .busy s) := fun hbusy hs => by
    have hfire := fireWave_of_busy hbusy
    obtain hs | hs | hs := hs
    · exact panel_of_refused hd ((hplanned hs).trans (hfire _))
    · exact panel_of_refused hd ((hpreheat hs).trans (hfire _))
    · exact panel_of_refused hd ((hfireDue hs).trans (hfire _))
  intro hfree
  have hfire : ∀ fired, fireWave w (endTransaction s) fired = accepted fired false := fun fired =>
    fireWave_of_free (s := endTransaction s) (Bool.eq_false_iff.2 fun hb => by
      obtain ⟨x, hx, hne, hoven, hcook⟩ := (ovenBusy_iff w s).1 hb
      exact hfree x hx hne hoven hcook) fired
  refine ⟨fun hs => ?_, fun reachedAt hs hreached => ?_, fun hbusy hs => hrefuse ((ovenBusy_iff w s).2 hbusy) hs⟩
  · obtain hs | hs := hs
    · obtain ⟨t, rfl, ht⟩ := fired_spec (before := .preheat) (hnumber ▸ hw) (cookStarted_startCooking w _)
      refine ⟨_, panel_of_accepted hd ((hpreheat hs).trans (hfire _)), ?_⟩
      rw [hs]
      exact ht
    · obtain ⟨t, rfl, ht⟩ := fired_spec (before := .fireDue) (hnumber ▸ hw) (cookStarted_cancel w _)
      refine ⟨_, panel_of_accepted hd ((hfireDue hs).trans (hfire _)), ?_⟩
      rw [hs]
      exact ht
  · have ht : TellsTime reachedAt (endTransaction s) := hreached
    obtain ⟨hfired, hturned⟩ := fireFromPlanned_fired (s := endTransaction s) ht hs (hnumber ▸ hw)
    obtain ⟨w', hw', hcooks⟩ := hturned.turned w (hnumber ▸ hw)
    have hport := fireFromPlanned_port w (endTransaction s)
    have hheat := fireFromPlanned_heat w (endTransaction s)
    have hothers := hturned.others
    have hframe := fireFromPlanned_step w s
    rw [hnumber] at hw' hothers
    have hexec : exec (.waveFire [n]) s =
        .next (setReply (.done 65 false .none) (fireFromPlanned w (endTransaction s))) :=
      panel_of_accepted hd ((hplanned hs).trans (hfire _))
    generalize fireFromPlanned w (endTransaction s) = d at *
    refine ⟨_, w', d, hexec, hw', hcooks.state, hcooks.cookLeft, hcooks.cookMs, hcooks.check, hfired, rfl, hothers,
      hframe, rfl, hport.1, fun htripped => ?_, fun hcold top htop => ?_⟩
    · refine hheat.trans ?_
      rw [(writeOvenTarget_write w (endTransaction s)).1 htripped]
      exact (pushReport_frame _ _).heat (by decide)
    · have hwritten := writeOvenTarget_heat (w := w) (s := endTransaction s) hcold
      rw [← hheat] at hwritten
      rw [htop]
      exact hwritten

end Sys2Proof.Machine
end

section
/-! The end of LISTENING (R91) and a duplicate identity (R52, R53, R93, R157). -/

namespace Sys2Proof.Machine

/-! ## Reports and grants across a change of station state -/

/-- A report carries the service clock and nothing else of the state. -/
theorem pushReport_port_of_clock (b : ReportBody) {s t : State} (hp : t.port = s.port)
    (hc : t.life.clock = s.life.clock) : (pushReport b t).port = (pushReport b s).port := by
  have hlife : (pushReport b (s.setLife t.life)).port = (pushReport b s).port := by
    unfold pushReport
    simp only [State.setLife_life, hc, State.setLife_port]
    split <;> rfl
  exact (pushReport_port b (s := s.setLife t.life) hp rfl).trans hlife

/-- The port behind a change of station state is that of its report. -/
theorem changeStation_port (dest : Station) (cause : StationCause) (s : State) : (changeStation dest cause s).port =
    (pushReport (.station s.life.station dest s.life.joinNumber cause) s).port :=
  pushReport_port_of_clock _ rfl rfl

/-- A delivery over the same charges, behind the same reports at the same second. -/
theorem ReportsThenCut.of_clock {s s' u u' t : State} (h : ReportsThenCut s' u' t)
    (hc : s'.heat.channels = s.heat.channels) (ho : s'.heat.overdrawn = s.heat.overdrawn) (hp : u.port = u'.port)
    (hl : u.life.clock = u'.life.clock) : ReportsThenCut s u t := by
  obtain ⟨hkept, hreport⟩ := h
  rw [hc] at hkept
  rw [ho] at hreport
  rw [ReportsThenCut, hp, pushReport_port_of_clock _ hp hl]
  exact ⟨hkept, hreport⟩

theorem takeGrant_window (g : Nat) (s : State) : (takeGrant g s).heat.window = s.heat.window := by
  by_cases h : CutsTo g s
  · rw [takeGrant_heat_of_cut h]
    split <;> rfl
  · rw [CutsTo, not_and_or, not_and_or, Bool.not_eq_true, Bool.not_eq_false, not_lt] at h
    rw [takeGrant_of_no_cut h]
    rfl

/-! ## The end of LISTENING (R91) -/

/-- The station ACTIVE with its clocks running, before the grant. -/
def listened (s : State) : State := startClocks (changeStation .active .listened s)

theorem exec_listeningTimerExpiry {s : State} (h : awake s = true) (hl : s.life.station = .listening)
    (hz : s.share.listen = some 0) : exec .listeningTimerExpiry s = .next (deliverGrant (listened s)) :=
  expiry_of_due h (by rw [listenOver, decide_eq_true hl, decide_eq_true hz]; rfl) _

theorem listened_heat (s : State) : (listened s).heat =
    { s.heat with window := { running := true, phase := 0, due := true } } := by
  rw [listened, startClocks_heat, (changeStation_frame _ _ _).heat (by decide)]

theorem listened_share (s : State) : (listened s).share =
    { s.share with tick := { running := true, phase := 0, due := false }, listen := none } := by
  rw [← (changeStation_frame .active .listened s).share (by decide)]
  rfl

theorem listened_stock (s : State) : (listened s).stock =
    { s.stock with tick := { running := true, phase := 0, due := false } } := by
  rw [← (changeStation_frame .active .listened s).stock (by decide)]
  rfl

theorem listened_life (s : State) : (listened s).life = { s.life with station := .active } := changeStation_life _ _ _

theorem listened_port (s : State) : (listened s).port =
    (pushReport (.station s.life.station .active s.life.joinNumber .listened) s).port := changeStation_port _ _ _

theorem deliverGrant_of_no_charge {s : State} (h : chargesSum s.heat.channels = 0) :
    (deliverGrant s).heat.channels = s.heat.channels := by
  rw [deliverGrant_heat, takeGrant_of_no_cut (.inr (.inr (h ▸ Nat.zero_le _)))]
  rfl

theorem listening_spec {s : State} (hl : s.life.station = .listening) :
    (deliverGrant (listened s)).life = { s.life with station := .active } ∧
      (deliverGrant (listened s)).share.listen = none ∧
      (deliverGrant (listened s)).share.asks = s.share.asks ∧
      (deliverGrant (listened s)).share.nextSequence = s.share.nextSequence ∧
      (deliverGrant (listened s)).heat.window = { running := true, phase := 0, due := true } ∧
      (deliverGrant (listened s)).share.tick = { running := true, phase := 0, due := false } ∧
      (deliverGrant (listened s)).stock = { s.stock with tick := { running := true, phase := 0, due := false } } ∧
      (deliverGrant (listened s)).heat.grant = (formGrant (deliverGrant (listened s))).1 ∧
      (deliverGrant (listened s)).share.grant = (formGrant (deliverGrant (listened s))).1 ∧
      SameExcept [.life, .heat, .share, .stock, .port] s (deliverGrant (listened s)) ∧
      ReportsThenCut s (pushReport (.station .listening .active s.life.joinNumber .listened) s)
        (deliverGrant (listened s)) ∧
      (chargesSum s.heat.channels = 0 → (deliverGrant (listened s)).port.reports.getLast? = some ⟨s.life.clock,
        .station .listening .active s.life.joinNumber .listened⟩ ∧
        (deliverGrant (listened s)).heat.channels = s.heat.channels) := by
  have hframe := deliverGrant_frame (listened s)
  obtain ⟨hgrant, hreports⟩ := deliverGrant_reports (listened s)
  have hheat := listened_heat s
  have hport := listened_port s
  rw [hl] at hport
  have hshare := deliverGrant_share (listened s)
  rw [listened_share] at hshare
  have hcut : ReportsThenCut s (pushReport (.station .listening .active s.life.joinNumber .listened) s)
      (deliverGrant (listened s)) := hreports.of_clock (by rw [hheat]) (by rw [hheat]) hport.symm (by
        rw [listened_life, (pushReport_frame _ s).life (by decide)])
  rw [formGrant_deliverGrant, deliverGrant_heat, takeGrant_window, hheat, hshare]
  refine ⟨(hframe.life (by decide)).trans (listened_life s), rfl, rfl, rfl, rfl, rfl,
    (hframe.stock (by decide)).trans (listened_stock s), ?_, rfl, endListening_frame s, hcut, fun hz => ⟨?_, ?_⟩⟩
  · rw [← deliverGrant_heat]
    exact hgrant
  · rw [hcut.1 (hz ▸ Nat.zero_le _), pushReport_getLast]
  · rw [← deliverGrant_heat, deliverGrant_of_no_charge (by rw [hheat]; exact hz), hheat]

/-! ## Frames that come back as not sent (R53, R157) -/

/-- The frame is a HOLD-ASK of wave `n` to this source. -/
def asksSource (n : Nat) (r : Source) (f : Frame) : Bool :=
  match f with
  | .holdAsk a => decide (a.target = r.station) && decide (a.wave = n) && decide (a.channel = r.channel)
  | _ => false

/-- A source after the return of these entries. -/
def takenBack (n : Nat) (es : List TxEntry) (r : Source) : Source :=
  if es.any (fun e => asksSource n r e.frame) then unask r else r

/-- A wave after the return of these entries. -/
def waveTakenBack (es : List TxEntry) (w : Wave) : Wave :=
  { w with src1 := takenBack w.number es w.src1, src2 := w.src2.map (takenBack w.number es) }

theorem unask_place (r : Source) : (unask r).station = r.station ∧ (unask r).channel = r.channel := by
  unfold unask
  split <;> exact ⟨rfl, rfl⟩

theorem unask_of_asked {r : Source} {n : Nat} {b : Standing} (h : r.hold = .asked n b) :
    unask r = { r with hold := b.copy } := by rw [unask, h]

theorem unask_unask (r : Source) : unask (unask r) = unask r := by
  cases h : r.hold with
  | asked n b =>
    rw [unask_of_asked h]
    cases b <;> rfl
  | none | held n g | lost =>
    have hkept : unask r = r := by rw [unask, h]
    rw [hkept, hkept]

theorem asksSource_unask (n : Nat) (r : Source) (f : Frame) : asksSource n (unask r) f = asksSource n r f := by
  obtain ⟨hs, hc⟩ := unask_place r
  unfold asksSource
  rw [hs, hc]

theorem takenBack_cons (n : Nat) (e : TxEntry) (es : List TxEntry) (r : Source) :
    takenBack n (e :: es) r = takenBack n es (if asksSource n r e.frame then unask r else r) := by
  cases h : asksSource n r e.frame with
  | true =>
    simp only [takenBack, List.any_cons, h, Bool.true_or, if_true, asksSource_unask, unask_unask, ite_self]
  | false => simp only [takenBack, List.any_cons, h, Bool.false_or, Bool.false_eq_true, if_false]

theorem asksSource_holdAsk (n : Nat) (r : Source) (b : HoldAskBody) : asksSource n r (.holdAsk b) = true ↔
    b.wave = n ∧ r.station = b.target ∧ r.channel = b.channel := by
  simp only [asksSource, Bool.and_eq_true, decide_eq_true_eq, eq_comm (a := b.target), eq_comm (a := b.channel)]
  tauto

theorem askReturned_other {n : Nat} {b : HoldAskBody} (h : b.wave ≠ n) (s : State) :
    findWave n (askReturned b s) = findWave n s := by
  unfold askReturned
  cases hv : findWave b.wave s with
  | none => rw [onWave_of_none hv]
  | some v =>
    rw [onWave_of_some hv]
    cases matchSource b.target b.channel v with
    | none => rfl
    | some i =>
      rw [findWave_number hv]
      refine (findWave_updateWave _ _ _ (changeSource_number i unask) s).trans ?_
      simp [h.symm]

theorem askReturned_of_match {s : State} {w : Wave} {b : HoldAskBody} (hw : findWave b.wave s = some w) {i : Bool}
    (hm : matchSource b.target b.channel w = some i) :
    findWave b.wave (askReturned b s) = some (changeSource i unask w) := by
  rw [askReturned, onWave_of_some hw, hm, findWave_number hw]
  exact findWave_changed hw (changeSource_number i unask)

theorem askReturned_of_no_match {s : State} {w : Wave} {b : HoldAskBody} (hw : findWave b.wave s = some w)
    (hm : matchSource b.target b.channel w = none) : askReturned b s = s := by
  rw [askReturned, onWave_of_some hw, hm]

/-- One returned HOLD-ASK at a wave with two places: the source it asked goes back, and the other stands. -/
theorem findWave_askReturned {n : Nat} {s : State} {w : Wave} (hw : findWave n s = some w) (hs : sameSources w = false)
    (b : HoldAskBody) : findWave n (askReturned b s) = some { w with
      src1 := if asksSource n w.src1 (.holdAsk b) then unask w.src1 else w.src1
      src2 := w.src2.map fun r => if asksSource n r (.holdAsk b) then unask r else r } := by
  by_cases hn : b.wave = n
  · subst hn
    simp only [asksSource_holdAsk, true_and]
    by_cases h1 : w.src1.station = b.target ∧ w.src1.channel = b.channel
    · have hm : matchSource b.target b.channel w = some false := if_pos h1
      have h2 : ∀ r, w.src2 = some r → ¬ (r.station = b.target ∧ r.channel = b.channel) := by
        intro r hr hc
        simp [sameSources, hr, hc, h1] at hs
      rw [askReturned_of_match hw hm, if_pos h1]
      cases hr : w.src2 with
      | none => simp [changeSource, hr]
      | some r => simp [changeSource, hr, h2 r hr]
    · rw [if_neg h1]
      cases hr : w.src2 with
      | none =>
        have hm : matchSource b.target b.channel w = none := by rw [matchSource, if_neg h1, hr]
        rw [askReturned_of_no_match hw hm, hw, Option.map_none, ← hr]
      | some r =>
        by_cases h2 : r.station = b.target ∧ r.channel = b.channel
        · have hm : matchSource b.target b.channel w = some true := by
            rw [matchSource, if_neg h1, hr]
            exact if_pos h2
          rw [askReturned_of_match hw hm]
          simp [changeSource, hr, h2]
        · have hm : matchSource b.target b.channel w = none := by
            rw [matchSource, if_neg h1, hr]
            exact if_neg h2
          rw [askReturned_of_no_match hw hm, hw, Option.map_some, if_neg h2, ← hr]
  · have hno (r : Source) : asksSource n r (.holdAsk b) = false :=
      Bool.eq_false_iff.2 fun h => hn ((asksSource_holdAsk n r b).1 h).1
    simp only [askReturned_other hn, hw, hno, Bool.false_eq_true, if_false, Option.map_id']

/-- The places of a wave's sources, by which HOLD-ASKs find them, stay when one is taken back. -/
theorem sameSources_takenBack (es : List TxEntry) (w : Wave) : sameSources (waveTakenBack es w) = sameSources w := by
  have hplace (r : Source) : (takenBack w.number es r).station = r.station ∧
      (takenBack w.number es r).channel = r.channel := by
    unfold takenBack
    split
    · exact unask_place r
    · exact ⟨rfl, rfl⟩
  unfold sameSources waveTakenBack
  cases hr : w.src2 with
  | none => rfl
  | some r => simp [hplace]

theorem waveTakenBack_cons (e : TxEntry) (es : List TxEntry) (w : Wave) :
    waveTakenBack es (waveTakenBack [e] w) = waveTakenBack (e :: es) w := by
  have hone (r : Source) : takenBack w.number es (takenBack w.number [e] r) = takenBack w.number (e :: es) r := by
    rw [takenBack_cons, takenBack_cons]
    rfl
  simp [waveTakenBack, hone, Function.comp_def]

theorem findWave_frameReturned {n : Nat} {s : State} {w : Wave} (hw : findWave n s = some w)
    (hs : sameSources w = false) (e : TxEntry) :
    findWave n (frameReturned e.frame s) = some (waveTakenBack [e] w) := by
  obtain rfl := findWave_number hw
  unfold waveTakenBack takenBack
  simp only [List.any_cons, List.any_nil, Bool.or_false]
  cases hf : e.frame with
  | holdAsk b => exact findWave_askReturned hw hs b
  | _ =>
    refine (findWave_congr (s := s) rfl _).trans ?_
    simpa [asksSource] using hw

/-- The waves once every waiting frame has come back. -/
theorem findWave_framesReturned (es : List TxEntry) {n : Nat} {s : State} {w : Wave} (hw : findWave n s = some w)
    (hs : sameSources w = false) :
    findWave n (es.foldl (fun s e => frameReturned e.frame s) s) = some (waveTakenBack es w) := by
  induction es generalizing s w with
  | nil =>
    have hkept : takenBack w.number [] = id := rfl
    simpa [waveTakenBack, hkept] using hw
  | cons e es ih =>
    rw [List.foldl_cons, ih (findWave_frameReturned hw hs e) ((sameSources_takenBack _ _).trans hs), waveTakenBack_cons]

/-- A STOCK among the frames that come back sets the stock-changed flag (R141). -/
theorem changed_framesReturned (es : List TxEntry) (s : State)
    (h : s.stock.changed = true ∨ es.any (fun e => decide (kindCode e.frame = 9)) = true) :
    (es.foldl (fun s e => frameReturned e.frame s) s).stock.changed = true := by
  induction es generalizing s with
  | nil => simpa using h
  | cons e es ih =>
    refine ih _ ?_
    rw [List.any_cons, Bool.or_eq_true] at h
    obtain h | h | h := h
    · left
      change (frameReturned e.frame s).stock.changed = true
      cases hf : e.frame with
      | holdAsk b => exact (congrArg Stock.changed ((askReturned_frame b s).stock (by decide))).trans h
      | stock b => rfl
      | _ => exact h
    · left
      change (frameReturned e.frame s).stock.changed = true
      cases hf : e.frame with
      | stock b => rfl
      | _ =>
        rw [hf] at h
        cases of_decide_eq_true h
    · exact .inr h

/-! ## The queue at the entry to DUPLICATE (R53) -/

theorem requeue_onLine (b : Bus) : (requeue b).onLine = none := by
  unfold requeue
  split
  · assumption
  · split
    · rfl
    · split <;> rfl

theorem requeue_ackSlot (b : Bus) : (requeue b).ackSlot = b.ackSlot := by
  unfold requeue
  split
  · rfl
  · split
    · rfl
    · split <;> rfl

theorem requeue_of_quiet {b : Bus} (h : b.onLine = none) : requeue b = b := by
  rw [requeue, h]

theorem returnFrames_eq (s : State) : returnFrames s = (requeue s.bus).waiting.foldl
    (fun s e => frameReturned e.frame s) (s.setBus { requeue s.bus with waiting := [] }) := rfl

theorem returnFrames_bus (s : State) : (returnFrames s).bus = { requeue s.bus with waiting := [] } := by
  rw [returnFrames_eq]
  exact (foldl_frame (f := fun s (e : TxEntry) => frameReturned e.frame s) (fun u e => frameReturned_frame e.frame u)
    _ _).bus (by decide)

/-- A station that may not send cancels its call without a frame (R52, R166). -/
theorem cancelCall_bus_of_silent {s : State} (h : maySend s = false) (r : CallReason) (subject : Nat) :
    (cancelCall r subject s).bus = s.bus := by
  have hcancel (n : Nat) : (sendCancel n (dropCall n s)).bus = s.bus := by
    rw [sendCancel_bus, offer_of_silent (s := dropCall n s) h]
    rfl
  rw [cancelCall]
  split
  · rw [withdrawCall, doWhen]
    split
    · exact hcancel _
    · rfl
  · rfl

/-! ## The station silenced (R93) -/

/-- The station in DUPLICATE with its frames returned. -/
def returned (kind : Nat) (s : State) : State := returnFrames (changeStation .duplicate (.duplicateId kind) s)

theorem returned_frame (kind : Nat) (s : State) :
    SameExcept [.life, .bus, .stock, .waves, .port] s (returned kind s) :=
  (returnFrames_frame _).step ((changeStation_frame _ _ s).mono (by decide)) (by decide)

theorem returned_life (kind : Nat) (s : State) : (returned kind s).life = { s.life with station := .duplicate } := by
  rw [returned, (returnFrames_frame _).life (by decide), changeStation_life]

theorem silenced_eq (kind : Nat) (s : State) : silenced kind s =
    (doWhen (decide (s.life.station = .isolated)) (cancelCall .isolated s.profile.stationId) (returned kind s)).setShare
      { s.share with unacked := 0 } := by
  have hframe := returned_frame kind s
  have hid : ownId (returned kind s) = s.profile.stationId := congrArg Profile.stationId (hframe.profile (by decide))
  have hshare (u : State) (hu : u = doWhen (decide (s.life.station = .isolated))
      (cancelCall .isolated s.profile.stationId) (returned kind s)) : u.share = s.share := by
    rw [hu, (doWhen_frame _ _ (cancelCall_frame _ _ _)).share (by decide), hframe.share (by decide)]
  rw [← hshare _ rfl, ← hid]
  rfl

theorem silenced_bus (kind : Nat) (s : State) : (silenced kind s).bus = { requeue s.bus with waiting := [] } := by
  have hsilent : maySend (returned kind s) = false := by
    rw [maySend, returned_life]
    rfl
  have hreturned : (returned kind s).bus = { requeue s.bus with waiting := [] } := by
    rw [returned, returnFrames_bus, (changeStation_frame _ _ s).bus (by decide)]
  rw [silenced_eq, State.setShare_bus, doWhen]
  split
  · rw [cancelCall_bus_of_silent hsilent, hreturned]
  · exact hreturned

theorem silenced_share (kind : Nat) (s : State) : (silenced kind s).share = { s.share with unacked := 0 } := by
  rw [silenced_eq]
  rfl

theorem silenced_port (kind : Nat) (s : State) : (silenced kind s).port =
    (pushReport (.station s.life.station .duplicate s.life.joinNumber (.duplicateId kind)) s).port := by
  rw [silenced_eq, State.setShare_port, (doWhen_frame _ _ (cancelCall_frame _ _ _)).port (by decide), returned,
    (returnFrames_frame _).port (by decide), changeStation_port]

theorem openCall_congr {s t : State} (h : t.paging = s.paging) (r : CallReason) (subject : Nat) :
    openCall r subject t = openCall r subject s := by
  rw [openCall, openCall, h]

theorem silenced_paging {kind : Nat} {s : State}
    (h : s.life.station ≠ .isolated ∨ openCall .isolated s.profile.stationId s = none) :
    (silenced kind s).paging = s.paging := by
  have hpaging : (returned kind s).paging = s.paging := (returned_frame kind s).paging (by decide)
  rw [silenced_eq, State.setShare_paging, ← hpaging]
  obtain h | h := h
  · rw [decide_eq_false h]
    rfl
  · rw [doWhen]
    split
    · exact ((cancelCall_cancelled _ _ _).1 ((openCall_congr hpaging _ _).trans h)).1
    · rfl

theorem silenced_calls {kind : Nat} {s : State} {c : Call} (h : s.life.station = .isolated)
    (hc : openCall .isolated s.profile.stationId s = some c) :
    (silenced kind s).paging.calls = s.paging.calls.filter (fun x => decide (x.number ≠ c.number)) := by
  have hpaging : (returned kind s).paging = s.paging := (returned_frame kind s).paging (by decide)
  obtain ⟨-, hcancelled⟩ := cancelCall_cancelled .isolated s.profile.stationId (returned kind s)
  rw [silenced_eq, State.setShare_paging, decide_eq_true h, doWhen_true, ← hpaging]
  exact (hcancelled c ((openCall_congr hpaging _ _).trans hc)).1

theorem silenced_tables (kind : Nat) (s : State) :
    (silenced kind s).stock = (returned kind s).stock ∧ (silenced kind s).waves = (returned kind s).waves := by
  have hcancel := doWhen_frame (decide (s.life.station = .isolated)) (returned kind s)
    (cancelCall_frame .isolated s.profile.stationId _)
  rw [silenced_eq]
  exact ⟨hcancel.stock (by decide), hcancel.waves (by decide)⟩

/-- With no frame on the line the waiting ones come back as they stand. -/
theorem returned_of_quiet {kind : Nat} {s : State} (h : s.bus.onLine = none) :
    returned kind s = s.bus.waiting.foldl (fun s e => frameReturned e.frame s)
      ((changeStation .duplicate (.duplicateId kind) s).setBus { s.bus with waiting := [] }) := by
  rw [returned, returnFrames_eq, (changeStation_frame _ _ s).bus (by decide), requeue_of_quiet h]

theorem silenced_changed {kind : Nat} {s : State} (h : s.bus.onLine = none)
    (hw : s.bus.waiting.any (fun e => decide (kindCode e.frame = 9)) = true) :
    (silenced kind s).stock.changed = true := by
  rw [(silenced_tables kind s).1, returned_of_quiet h]
  exact changed_framesReturned _ _ (.inr hw)

theorem silenced_wave {kind n : Nat} {s : State} {w : Wave} (h : s.bus.onLine = none) (hw : findWave n s = some w)
    (hs : sameSources w = false) : findWave n (silenced kind s) = some (waveTakenBack s.bus.waiting w) := by
  rw [findWave_congr (silenced_tables kind s).2, returned_of_quiet h]
  refine findWave_framesReturned _ ?_ hs
  exact (findWave_congr ((changeStation_frame _ _ s).waves (by decide)) n).trans hw

/-! ## DUPLICATE-ID (R52, R93) -/

/-- The acknowledge slot left recessive (R52). -/
def recessive (s : State) : State := s.setBus { s.bus with ackSlot := false }

theorem exec_duplicateId {s : State} (h : awake s = true) (kind : Nat) : exec (.duplicateId kind) s =
    .next (doWhen (joined s) (fun s => duplicateEvent kind (recessive s)) s) := event_of_awake h _

/-- The silenced station with the clocks that LISTENING had not started. -/
def duplicateClocks (kind : Nat) (s : State) : State :=
  doWhen (decide (s.life.station = .listening)) startClocks (silenced kind s)

theorem duplicateClocks_frame (kind : Nat) (s : State) :
    SameExcept [.heat, .share, .stock] (silenced kind s) (duplicateClocks kind s) :=
  doWhen_frame _ _ (startClocks_frame _)

theorem duplicateClocks_shares (kind : Nat) (s : State) :
    (duplicateClocks kind s).heat.channels = s.heat.channels ∧
      (duplicateClocks kind s).heat.overdrawn = s.heat.overdrawn ∧ (duplicateClocks kind s).share.unacked = 0 := by
  have hheat : (silenced kind s).heat = s.heat := (silenced_frame kind s).heat (by decide)
  have hshare : (silenced kind s).share.unacked = 0 := by rw [silenced_share]
  unfold duplicateClocks
  cases decide (s.life.station = .listening) with
  | true =>
    rw [doWhen_true, startClocks_heat, hheat]
    exact ⟨rfl, rfl, hshare⟩
  | false =>
    rw [doWhen_false, hheat]
    exact ⟨rfl, rfl, hshare⟩

theorem duplicateClocks_started {kind : Nat} {s : State} (h : s.life.station = .listening) :
    (duplicateClocks kind s).share.listen = none ∧
      (duplicateClocks kind s).heat.window = { running := true, phase := 0, due := true } ∧
      (duplicateClocks kind s).share.tick = { running := true, phase := 0, due := false } ∧
      (duplicateClocks kind s).stock.tick = { running := true, phase := 0, due := false } := by
  unfold duplicateClocks
  rw [decide_eq_true h]
  exact ⟨rfl, rfl, rfl, rfl⟩

theorem duplicateClocks_tables (kind : Nat) (s : State) :
    (duplicateClocks kind s).stock.changed = (silenced kind s).stock.changed ∧
      (duplicateClocks kind s).waves = (silenced kind s).waves := by
  unfold duplicateClocks
  cases decide (s.life.station = .listening) with
  | true => exact ⟨rfl, rfl⟩
  | false => exact ⟨rfl, rfl⟩

theorem enterDuplicate_deliver (kind : Nat) (s : State) :
    enterDuplicate kind s = deliverGrant (duplicateClocks kind s) := enterDuplicate_eq kind s

theorem duplicateClocks_life (kind : Nat) (s : State) :
    (duplicateClocks kind s).life = { s.life with station := .duplicate } :=
  ((duplicateClocks_frame kind s).life (by decide)).trans (silenced_life kind s)

/-- The grant that a duplicate identity leaves (R77, R93). -/
theorem enterDuplicate_grant (kind : Nat) (s : State) :
    (enterDuplicate kind s).heat.grant = min s.profile.feeder.ceiling s.profile.feeder.allowance ∧
      (enterDuplicate kind s).share = { (duplicateClocks kind s).share with
        grant := min s.profile.feeder.ceiling s.profile.feeder.allowance, shares := .zero, limit := .allowance } ∧
      ReportsThenCut s (pushReport (.station s.life.station .duplicate s.life.joinNumber (.duplicateId kind)) s)
        (enterDuplicate kind s) := by
  have hclocks := duplicateClocks_frame kind s
  have hlife := duplicateClocks_life kind s
  obtain ⟨hchannels, hover, -⟩ := duplicateClocks_shares kind s
  obtain ⟨hgrant, hreports⟩ := deliverGrant_reports (duplicateClocks kind s)
  have hprofile : (duplicateClocks kind s).profile = s.profile :=
    (hclocks.profile (by decide)).trans ((silenced_frame kind s).profile (by decide))
  have hport : (duplicateClocks kind s).port = (silenced kind s).port := hclocks.port (by decide)
  have hform := formGrant_alone (.inr (congrArg Life.station hlife))
  rw [hprofile] at hform
  rw [enterDuplicate_deliver, deliverGrant_share, hform]
  rw [hform] at hgrant
  refine ⟨hgrant, rfl, hreports.of_clock hchannels hover ?_ ?_⟩
  · rw [hport, silenced_port]
  · rw [hlife, (pushReport_frame _ s).life (by decide)]

/-- What a duplicate identity leaves of a wave's source (R53, R157). -/
theorem takenBack_eq (n : Nat) (es : List TxEntry) (r : Source) : takenBack n es r = { r with hold :=
    match r.hold with
    | .asked m b => if es.any (fun e => asksSource n r e.frame) = true then b.copy else .asked m b
    | h => h } := by
  unfold takenBack
  cases hr : r.hold with
  | asked m b =>
    simp only [unask_of_asked hr]
    split
    · rfl
    · rw [← hr]
  | none | held m g | lost =>
    have hkept : unask r = r := by rw [unask, hr]
    simp only [hkept, ite_self]
    rw [← hr]

/-- Settles O51: the clocks and the grant at the end of LISTENING, and the steps of the entry to DUPLICATE. -/
theorem stationStatesEndListeningAndOnADuplicate : Obligations.StationStatesEndListeningAndOnADuplicate := by
  unfold Obligations.StationStatesEndListeningAndOnADuplicate
  refine ⟨fun s ha hl hz => ⟨_, exec_listeningTimerExpiry ha hl hz, listening_spec hl⟩,
    fun kind s ha => ⟨fun hj hne => ?_, fun hd => ?_, fun hj => ?_⟩⟩
  · have hexec : exec (.duplicateId kind) s = .next (enterDuplicate kind (recessive s)) := by
      rw [exec_duplicateId ha, hj]
      exact congrArg Host.Outcome.next (congrArg (fun c => doWhen c (enterDuplicate kind) (recessive s))
        (decide_eq_true hne))
    obtain ⟨hgrant, hshare, hreports⟩ := enterDuplicate_grant kind (recessive s)
    obtain ⟨-, -, hunacked⟩ := duplicateClocks_shares kind (recessive s)
    obtain ⟨hchanged, hwaves⟩ := duplicateClocks_tables kind (recessive s)
    have hclocks := duplicateClocks_frame kind (recessive s)
    have hdeliver := deliverGrant_frame (duplicateClocks kind (recessive s))
    have hbus : (enterDuplicate kind (recessive s)).bus = { requeue (recessive s).bus with waiting := [] } := by
      rw [enterDuplicate_deliver, hdeliver.bus (by decide), hclocks.bus (by decide), silenced_bus]
    have hpaging : (enterDuplicate kind (recessive s)).paging = (silenced kind (recessive s)).paging := by
      rw [enterDuplicate_deliver, hdeliver.paging (by decide), hclocks.paging (by decide)]
    have hstock : (enterDuplicate kind (recessive s)).stock = (duplicateClocks kind (recessive s)).stock := by
      rw [enterDuplicate_deliver, hdeliver.stock (by decide)]
    have hwave : (enterDuplicate kind (recessive s)).waves = (silenced kind (recessive s)).waves := by
      rw [enterDuplicate_deliver, hdeliver.waves (by decide), hwaves]
    have hlife : (enterDuplicate kind (recessive s)).life = { s.life with station := .duplicate } := by
      rw [enterDuplicate_deliver, hdeliver.life (by decide), duplicateClocks_life]
      rfl
    have hwindow : (enterDuplicate kind (recessive s)).heat.window = (duplicateClocks kind (recessive s)).heat.window := by
      rw [enterDuplicate_deliver, deliverGrant_heat, takeGrant_window]
    have hcut := hreports.of_clock (s := s) (u := pushReport (.station s.life.station .duplicate s.life.joinNumber
      (.duplicateId kind)) s) rfl rfl (pushReport_port (t := s) _ rfl rfl)
      (by rw [(pushReport_frame _ s).life (by decide), (pushReport_frame _ _).life (by decide)]; rfl)
    have hslot : SameExcept [.bus] s (recessive s) := State.setBus_frame _ _
    have hframe := (enterDuplicate_frame kind (recessive s)).step (hslot.mono (by decide)) (fun _ => id)
    refine ⟨_, hexec, hlife, ?_, ?_, ?_, ?_, ?_, ?_, hgrant, ?_, fun hl => ?_, hcut, fun h => ?_, fun c h hc => ?_,
      fun hq => ⟨fun hw => ?_, fun w back hw hs hback => ?_⟩, hframe⟩
    · rw [hbus]
    · rw [hbus, requeue_onLine]
    · rw [hbus, requeue_ackSlot]
      rfl
    · rw [hshare, hunacked]
    · rw [hshare]
    · rw [hshare]
    · rw [hgrant, hshare]
    · obtain ⟨hlisten, hw, htick, hstick⟩ := duplicateClocks_started (kind := kind) (s := recessive s) hl
      rw [hshare, hwindow, hstock]
      exact ⟨hlisten, hw, htick, hstick⟩
    · exact hpaging.trans (silenced_paging (s := recessive s) h)
    · exact (congrArg Paging.calls hpaging).trans (silenced_calls (s := recessive s) h hc)
    · rw [hstock, hchanged]
      exact silenced_changed (s := recessive s) hq hw
    · have hback' : back = takenBack w.number s.bus.waiting := funext fun r => by
        rw [hback, takenBack_eq]
        rfl
      rw [findWave_congr hwave, hback']
      exact silenced_wave (s := recessive s) hq hw hs
  · have hj : joined s = true := by simp [joined, hd]
    rw [exec_duplicateId ha, hj]
    exact congrArg Host.Outcome.next (congrArg (fun c => doWhen c (enterDuplicate kind) (recessive s))
      (decide_eq_false (not_not.2 hd)))
  · rw [exec_duplicateId ha, hj, doWhen_false]

end Sys2Proof.Machine
end

section
/-! Open calls at their origin: PAGE, CALL-END and the calls of the blocks (R161 to R166). -/

namespace Sys2Proof.Machine

/-! ## Call numbers (R161) -/

theorem freeNumber_within {used : List Nat} {n : Nat} (h : 1 ≤ n ∧ n ≤ 255) (fuel : Nat) :
    1 ≤ freeNumber used fuel n ∧ freeNumber used fuel n ≤ 255 := by
  induction fuel generalizing n with
  | zero => exact h
  | succ fuel ih =>
    rw [freeNumber]
    split
    · exact ih (by omega)
    · exact h

theorem freeNumber_of_free {used : List Nat} {n : Nat} (h : n ∉ used) (fuel : Nat) : freeNumber used fuel n = n := by
  cases fuel with
  | zero => rfl
  | succ fuel => exact if_neg (mt List.contains_iff_mem.1 h)

/-- A new call number is in range, free, and the next one where that is free. -/
theorem newNumber_spec {s : State} (hroom : s.paging.calls.length < 255) (hlow : 1 ≤ s.paging.nextNumber)
    (hhigh : s.paging.nextNumber ≤ 255) : 1 ≤ newNumber s ∧ newNumber s ≤ 255 ∧
      (∀ c ∈ s.paging.calls, c.number ≠ newNumber s) ∧
      ((∀ c ∈ s.paging.calls, c.number ≠ s.paging.nextNumber) → newNumber s = s.paging.nextNumber) := by
  obtain ⟨h1, h2⟩ := freeNumber_within (used := s.paging.calls.map (fun c => c.number)) ⟨hlow, hhigh⟩ 255
  refine ⟨h1, h2, fun c hc he => newNumber_free hroom (List.mem_map.2 ⟨c, hc, he⟩), fun hfree => ?_⟩
  refine freeNumber_of_free (fun hm => ?_) 255
  obtain ⟨c, hc, he⟩ := List.mem_map.1 hm
  exact hfree c hc he

/-! ## A call that enters (R162, R164) -/

/-- The state in which a new call has gone out to the peers for the first time. -/
def calledOut (r : CallReason) (subject g urgency : Nat) (s : State) : State :=
  offer (.pageCall ⟨newNumber s, reasonCode r, subject, g, urgency⟩)
    (updateCall (newNumber s) broadcastNow (withNewCall r subject (some g) urgency .calling s))

/-- A call with a group enters and goes out, and the own serving side takes it. -/
theorem enterCall_group (r : CallReason) (subject g urgency : Nat) (s : State) : enterCall r subject (some g) urgency s =
    serveCall s.profile.stationId ⟨newNumber s, reasonCode r, subject, g, urgency⟩ (calledOut r subject g urgency s) := rfl

/-- A new call with its first broadcast made. -/
theorem calledOut_paging {s : State} (hroom : s.paging.calls.length < 255) (r : CallReason) (subject g urgency : Nat) :
    (calledOut r subject g urgency s).paging = { s.paging with
      calls := s.paging.calls ++ [⟨newNumber s, r, subject, some g, urgency, .calling, 1, some 10000, none⟩]
      nextNumber := newNumber s % 255 + 1 } := by
  have hfree : ∀ c ∈ s.paging.calls, c.number ≠ newNumber s := fun c hc he =>
    newNumber_free hroom (List.mem_map.2 ⟨c, hc, he⟩)
  have hcalls : (s.paging.calls ++ [(⟨newNumber s, r, subject, some g, urgency, .calling, 0, none, none⟩ : Call)]).map
      (fun c => if c.number = newNumber s then broadcastNow c else c) =
      s.paging.calls ++ [⟨newNumber s, r, subject, some g, urgency, .calling, 1, some 10000, none⟩] := by
    rw [List.map_append]
    congr 1
    · exact (List.map_congr_left fun c hc => if_neg (hfree c hc)).trans (List.map_id _)
    · simp [broadcastNow, Config.callingMs]
  rw [calledOut, (offer_frame _ _).paging (by decide), ← hcalls]
  rfl

theorem calledOut_frame (r : CallReason) (subject g urgency : Nat) (s : State) :
    SameExcept [.bus, .paging] s (calledOut r subject g urgency s) :=
  (offer_frame _ _).step ((updateCall_frame _ _ _).step ((State.setPaging_frame _ _).mono (by decide)) (by decide))
    (by decide)

theorem calledOut_bus (r : CallReason) (subject g urgency : Nat) (s : State) : (calledOut r subject g urgency s).bus =
    (offer (.pageCall ⟨newNumber s, reasonCode r, subject, g, urgency⟩) s).bus := offer_bus_congr _ rfl rfl rfl

theorem calledOut_waits (r : CallReason) (subject g urgency : Nat) (s : State) :
    FrameWaits (.pageCall ⟨newNumber s, reasonCode r, subject, g, urgency⟩) s (calledOut r subject g urgency s) := by
  rw [FrameWaits, calledOut_bus]
  exact offer_waits _ s

/-- Without a group a call enters LOCAL, with its report. -/
theorem enterCall_local (r : CallReason) (subject urgency : Nat) (s : State) :
    (enterCall r subject none urgency s).paging = { s.paging with
      calls := s.paging.calls ++ [⟨newNumber s, r, subject, none, urgency, .local, 0, none, none⟩]
      nextNumber := newNumber s % 255 + 1 } ∧
    (enterCall r subject none urgency s).bus = s.bus ∧
    (enterCall r subject none urgency s).port.reports.getLast? =
      some ⟨s.life.clock, .call (some (newNumber s)) r subject none urgency .local⟩ := by
  have hframe := pushReport_frame (callReport ⟨newNumber s, r, subject, none, urgency, .local, 0, none, none⟩ .local)
    (withNewCall r subject none urgency .local s)
  rw [enterCall_none, hframe.paging (by decide), hframe.bus (by decide), pushReport_getLast]
  exact ⟨rfl, rfl, rfl⟩

/-- The state a new call leaves before the own serving side takes it. -/
def callIn (r : CallReason) (subject : Nat) (group : Option Nat) (urgency : Nat) (s : State) : State :=
  match group with
  | none => enterCall r subject none urgency s
  | some g => calledOut r subject g urgency s

theorem callIn_frame (r : CallReason) (subject : Nat) (group : Option Nat) (urgency : Nat) (s : State) :
    SameExcept [.bus, .paging, .port] s (callIn r subject group urgency s) := by
  cases group with
  | none => exact enterCall_frame _ _ _ _ _
  | some g => exact (calledOut_frame _ _ _ _ _).mono (by decide)

/-- A new call stands behind the others as R162 and R164 say. -/
theorem callIn_entered {s : State} (hroom : s.paging.calls.length < 255) (hlow : 1 ≤ s.paging.nextNumber)
    (hhigh : s.paging.nextNumber ≤ 255) (r : CallReason) (subject : Nat) (group : Option Nat) (urgency : Nat) :
    CallEntered (newNumber s) r subject group urgency s.paging.calls s (callIn r subject group urgency s) := by
  obtain ⟨h1, h2, hfree, hnext⟩ := newNumber_spec hroom hlow hhigh
  cases group with
  | none =>
    obtain ⟨hpaging, -, hreport⟩ := enterCall_local r subject urgency s
    refine ⟨⟨h1, h2, hfree, hnext, ?_⟩, fun _ => ⟨?_, hreport⟩, nofun⟩
    · exact congrArg Paging.nextNumber hpaging
    · exact congrArg Paging.calls hpaging
  | some g =>
    have hpaging := calledOut_paging hroom r subject g urgency
    refine ⟨⟨h1, h2, hfree, hnext, ?_⟩, nofun, ?_⟩
    · exact congrArg Paging.nextNumber hpaging
    · rintro _ ⟨⟩
      exact ⟨congrArg Paging.calls hpaging, calledOut_waits r subject g urgency s⟩

theorem callIn_queue {s : State} (hroom : s.paging.calls.length < 255) (r : CallReason) (subject : Nat)
    (group : Option Nat) (urgency : Nat) : (callIn r subject group urgency s).paging.queue = s.paging.queue := by
  cases group with
  | none =>
    change (enterCall r subject none urgency s).paging.queue = _
    rw [(enterCall_local r subject urgency s).1]
  | some g =>
    change (calledOut r subject g urgency s).paging.queue = _
    rw [calledOut_paging hroom]

/-! ## Room in the list (R162, cases 3 and 4) -/

theorem makeRoom_of_room {s : State} (h : s.paging.calls.length < 16) (urgency : Nat) : makeRoom urgency s = some s :=
  if_pos h

theorem foldl_min_le (us : List Nat) (a : Nat) : us.foldl min a ≤ a ∧ ∀ u ∈ us, us.foldl min a ≤ u := by
  induction us generalizing a with
  | nil => exact ⟨Nat.le_refl a, nofun⟩
  | cons x xs ih =>
    obtain ⟨hle, hall⟩ := ih (min a x)
    rw [List.foldl_cons]
    refine ⟨hle.trans (Nat.min_le_left a x), fun u hu => ?_⟩
    obtain rfl | hu := List.mem_cons.1 hu
    · exact hle.trans (Nat.min_le_right a u)
    · exact hall u hu

theorem le_foldl_min {us : List Nat} {a b : Nat} (ha : b ≤ a) (h : ∀ u ∈ us, b ≤ u) : b ≤ us.foldl min a := by
  induction us generalizing a with
  | nil => exact ha
  | cons x xs ih =>
    exact ih (Nat.le_min.2 ⟨ha, h x List.mem_cons_self⟩) fun u hu => h u (List.mem_cons_of_mem _ hu)

/-- A full list whose calls are all as urgent refuses the new one. -/
theorem makeRoom_of_full {s : State} {urgency : Nat} (h : 16 ≤ s.paging.calls.length)
    (hu : ∀ c ∈ s.paging.calls, urgency ≤ c.urgency) : makeRoom urgency s = none := by
  rw [makeRoom, if_neg (Nat.not_lt.2 h)]
  split
  · next v hv => exact if_neg (Nat.not_lt.2 (hu v (List.mem_of_find?_eq_some hv)))
  · rfl

/-- The oldest call of the lowest urgency is the weakest. -/
theorem weakestCall_eq {before after : List Call} {v : Call} (hbyte : v.urgency ≤ 255)
    (hbefore : ∀ c ∈ before, v.urgency < c.urgency) (hafter : ∀ c ∈ after, v.urgency ≤ c.urgency) :
    weakestCall (before ++ v :: after) = some v := by
  have hlowest : lowestUrgency ((before ++ v :: after).map (fun c => c.urgency)) = v.urgency := by
    refine Nat.le_antisymm ((foldl_min_le _ _).2 _ (List.mem_map.2 ⟨v, by simp, rfl⟩)) (le_foldl_min hbyte ?_)
    intro u hu
    obtain ⟨c, hc, rfl⟩ := List.mem_map.1 hu
    obtain hc | hc := List.mem_append.1 hc
    · exact (hbefore c hc).le
    · obtain rfl | hc := List.mem_cons.1 hc
      · exact Nat.le_refl _
      · exact hafter c hc
  have hnone : before.find? (fun c => decide (c.urgency = v.urgency)) = none := by
    refine List.find?_eq_none.2 fun c hc => ?_
    have := hbefore c hc
    simp only [decide_eq_true_eq]
    omega
  rw [weakestCall, hlowest, List.find?_append, hnone]
  simp

/-- The state in which the call `v` has made room. -/
def replaced (v : Call) (s : State) : State := pushReport (callReport v .replaced) (withdrawCall v s)

theorem makeRoom_of_weaker {s : State} {before after : List Call} {v : Call} {urgency : Nat}
    (hfull : s.paging.calls.length = 16) (hcalls : s.paging.calls = before ++ v :: after) (hv : v.urgency < urgency)
    (hbyte : urgency ≤ 255) (hbefore : ∀ c ∈ before, v.urgency < c.urgency)
    (hafter : ∀ c ∈ after, v.urgency ≤ c.urgency) : makeRoom urgency s = some (replaced v s) := by
  rw [makeRoom, if_neg (by rw [hfull]; decide), hcalls, weakestCall_eq (by omega) hbefore hafter]
  exact if_pos hv

theorem replaced_frame (v : Call) (s : State) : SameExcept [.bus, .paging, .port] s (replaced v s) :=
  (pushReport_frame _ _).step ((withdrawCall_frame v s).mono (by decide)) (by decide)

theorem sendCancel_nextNumber (n : Nat) (s : State) :
    (sendCancel n s).paging.nextNumber = s.paging.nextNumber := by
  have hoffer : (offer (.pageCancel n) s).paging = s.paging := (offer_frame _ s).paging (by decide)
  unfold sendCancel serveCancel doWhen
  split <;> simp [hoffer]

theorem withdrawCall_nextNumber (v : Call) (s : State) :
    (withdrawCall v s).paging.nextNumber = s.paging.nextNumber := by
  unfold withdrawCall doWhen
  split
  · exact sendCancel_nextNumber _ _
  · rfl

/-- What the replaced call leaves: its place is gone, the numbers go on, and its report is the newest. -/
theorem replaced_spec {s : State} {before after : List Call} {v : Call} (hcalls : s.paging.calls = before ++ v :: after)
    (hnames : s.paging.calls.Pairwise (fun a b => a.number ≠ b.number)) :
    (replaced v s).paging.calls = before ++ after ∧ (replaced v s).paging.nextNumber = s.paging.nextNumber ∧
      (replaced v s).bus = (withdrawCall v s).bus ∧ (replaced v s).port.reports.getLast? =
        some ⟨s.life.clock, .call (some v.number) v.reason v.subject v.group v.urgency .replaced⟩ := by
  have hpush := pushReport_frame (callReport v .replaced) (withdrawCall v s)
  have hothers : ∀ c ∈ before ++ after, c.number ≠ v.number := by
    rw [hcalls, List.pairwise_append, List.pairwise_cons] at hnames
    obtain ⟨-, ⟨hv, -⟩, hcross⟩ := hnames
    intro c hc
    obtain hc | hc := List.mem_append.1 hc
    · exact hcross c hc v List.mem_cons_self
    · exact (hv c hc).symm
  have hfilter : (before ++ v :: after).filter (fun x => decide (x.number ≠ v.number)) = before ++ after := by
    rw [List.filter_append, List.filter_cons_of_neg (by simp), ← List.filter_append]
    exact List.filter_eq_self.2 fun c hc => decide_eq_true (hothers c hc)
  have hlife : (withdrawCall v s).life = s.life := (withdrawCall_frame v s).life (by decide)
  refine ⟨?_, ?_, hpush.bus (by decide), ?_⟩
  · rw [replaced, hpush.paging (by decide), (withdrawCall_spec v s).1, hcalls, hfilter]
  · rw [replaced, hpush.paging (by decide), withdrawCall_nextNumber]
  · rw [replaced, pushReport_getLast, hlife]
    rfl

/-! ## The waiting PAGE-CANCEL and PAGE-CALL of a replacement -/

theorem accept_of_full_queue {f : Frame} {b : Bus} (hf : replaceable f = false) (h : ¬ occupied b < 8) (id : Nat) :
    accept id f b = none := by
  have hany : b.waiting.any (sameWaiting f) = false := by simp [sameWaiting, hf]
  exact (if_neg (by rw [hany]; decide)).trans (if_neg h)

/-- A frame that replaces none leaves every waiting frame. -/
theorem offer_keeps_waiting {f : Frame} (hf : replaceable f = false) (s : State) :
    ∀ e ∈ s.bus.waiting, e ∈ (offer f s).bus.waiting := by
  intro e he
  cases hs : maySend s with
  | false => rwa [offer_of_silent hs]
  | true =>
    by_cases hroom : occupied s.bus < 8
    · exact (offer_enters hf hs hroom).2.2 e he
    · rw [offer, if_pos hs, accept_of_full_queue hf hroom]
      exact he

theorem callIn_keeps_waiting (r : CallReason) (subject : Nat) (group : Option Nat) (urgency : Nat) (s : State) :
    ∀ e ∈ s.bus.waiting, e ∈ (callIn r subject group urgency s).bus.waiting := by
  cases group with
  | none =>
    intro e he
    change e ∈ (enterCall r subject none urgency s).bus.waiting
    rwa [(enterCall_local r subject urgency s).2.1]
  | some g =>
    intro e he
    change e ∈ (calledOut r subject g urgency s).bus.waiting
    rw [calledOut_bus]
    exact offer_keeps_waiting rfl s e he

/-- A frame finds room behind the replacement where a call without a PAGE-CANCEL left or an entry was left over. -/
theorem FrameWaits.of_replaced {f : Frame} {v : Call} {s t : State} (h : FrameWaits f (replaced v s) t)
    (hroom : v.state = .local ∨ occupied s.bus ≠ 7) : FrameWaits f s t := by
  intro hsend hocc
  have hbus : (replaced v s).bus = (withdrawCall v s).bus := (pushReport_frame _ _).bus (by decide)
  have hsend' : maySend (replaced v s) = true := by
    rw [maySend, (replaced_frame v s).life (by decide)]
    exact hsend
  refine h hsend' ?_
  rw [hbus, withdrawCall, doWhen]
  split
  · next hv =>
    have hseven : occupied s.bus ≠ 7 := hroom.resolve_left (of_decide_eq_true hv)
    obtain ⟨hone, -, -⟩ := offer_enters (f := .pageCancel v.number) (s := dropCall v.number s) rfl hsend hocc
    rw [sendCancel_bus, hone]
    change occupied s.bus + 1 < 8
    omega
  · exact hocc

/-! ## The calls of the blocks (R162) -/

theorem raiseCall_of_open {r : CallReason} {subject : Nat} {s : State} {c : Call} (h : openCall r subject s = some c) :
    raiseCall r subject s = s := by
  rw [raiseCall, h]

theorem raiseCall_of_room {r : CallReason} {subject : Nat} {s t : State} (h : openCall r subject s = none)
    (ht : makeRoom (reasonUrgency r) s = some t) :
    raiseCall r subject s = enterCall r subject (mappedGroup s.profile r) (reasonUrgency r) t := by
  rw [raiseCall, h, ht]

theorem raiseCall_of_refused {r : CallReason} {subject : Nat} {s : State} (h : openCall r subject s = none)
    (ht : makeRoom (reasonUrgency r) s = none) : raiseCall r subject s =
      pushReport (.call none r subject (mappedGroup s.profile r) (reasonUrgency r) .refused) s := by
  rw [raiseCall, h, ht]

/-- Without a radio nothing follows the entry of a call. -/
theorem enterCall_eq_callIn {s : State} (h : s.profile.radio = false) (r : CallReason) (subject : Nat)
    (group : Option Nat) (urgency : Nat) : enterCall r subject group urgency s = callIn r subject group urgency s := by
  cases group with
  | none => rfl
  | some g =>
    rw [enterCall_group]
    exact serveCall_of_no_radio (radio_of_profile ((calledOut_frame _ _ _ _ _).profile (by decide)) h) _ _

/-- A call that replaces another, at a station without a radio. -/
theorem callIn_replaced {s : State} {before after : List Call} {v : Call} (hfull : s.paging.calls.length = 16)
    (hcalls : s.paging.calls = before ++ v :: after) (hnames : s.paging.calls.Pairwise (fun a b => a.number ≠ b.number))
    (hlow : 1 ≤ s.paging.nextNumber) (hhigh : s.paging.nextNumber ≤ 255) (hroom : v.state = .local ∨ occupied s.bus ≠ 7)
    (r : CallReason) (subject : Nat) (group : Option Nat) (urgency : Nat) :
    CallEntered (newNumber (replaced v s)) r subject group urgency (before ++ after) s
      (callIn r subject group urgency (replaced v s)) := by
  obtain ⟨hrest, hnext, -, -⟩ := replaced_spec hcalls hnames
  have hlen : (before ++ after).length < 255 := by
    rw [hcalls, List.length_append, List.length_cons] at hfull
    rw [List.length_append]
    omega
  obtain ⟨hnumber, hnone, hsome⟩ := callIn_entered (s := replaced v s) (by rw [hrest]; exact hlen) (by rw [hnext]; exact hlow)
    (by rw [hnext]; exact hhigh) r subject group urgency
  rw [hrest, hnext] at hnumber
  rw [hrest] at hnone hsome
  rw [(replaced_frame v s).life (by decide)] at hnone
  exact ⟨hnumber, hnone, fun g hg => ⟨(hsome g hg).1, (hsome g hg).2.of_replaced hroom⟩⟩

/-- The report of the replaced call is still there when the new one has entered. -/
theorem callIn_mem_reports {x : Report} {s : State} (hx : s.port.reports.getLast? = some x) (r : CallReason)
    (subject : Nat) (group : Option Nat) (urgency : Nat) : x ∈ (callIn r subject group urgency s).port.reports := by
  obtain ⟨front, hfront⟩ := List.getLast?_eq_some_iff.1 hx
  have hrecent : Recent 0 x s := ⟨front, [], hfront, Nat.le_refl 0⟩
  cases group with
  | none =>
    have hnew : Recent 0 x (withNewCall r subject none urgency .local s) := hrecent.congr rfl
    exact (hnew.push (by decide) _).mem
  | some g => exact (hrecent.congr ((calledOut_frame r subject g urgency s).port (by decide))).mem

/-! ## PAGE (R163) -/

section

variable {g u sh sl : Word} {s : State} {subject urgency : Nat} {c1 c2 : Bool} (hj : joined s = true) (hg : g.toNat ≤ 7)
  (hu : Takes 0 3 1 u urgency c1) (hsubject : TakesWide 0 65535 0 sh sl subject c2)

include hj hg hu hsubject

theorem pageCommand_of_open {c : Call} (h : openCall .panel subject s = some c) :
    pageCommand [g, u, sh, sl] s = .ok ⟨s, c1 || c2, .call c.number⟩ := by
  simp [pageCommand, stageOk_joinedOnly hj, narrow_of_lt (c := g) (by omega), hasValue, idWithin, hg,
    numeric_of_takes hu, numeric_of_takesWide hsubject, h, idValue]

theorem pageCommand_of_room {t : State} (h : openCall .panel subject s = none) (ht : makeRoom urgency s = some t) :
    pageCommand [g, u, sh, sl] s =
      .ok ⟨enterCall .panel subject (some g.toNat) urgency t, c1 || c2, .call (newNumber t)⟩ := by
  simp [pageCommand, stageOk_joinedOnly hj, narrow_of_lt (c := g) (by omega), hasValue, idWithin, hg,
    numeric_of_takes hu, numeric_of_takesWide hsubject, h, ht, idValue]

theorem pageCommand_of_full (h : openCall .panel subject s = none) (ht : makeRoom urgency s = none) :
    pageCommand [g, u, sh, sl] s = .error .full := by
  simp [pageCommand, stageOk_joinedOnly hj, narrow_of_lt (c := g) (by omega), hasValue, idWithin, hg,
    numeric_of_takes hu, numeric_of_takesWide hsubject, h, ht, idValue]

end

/-- The number of an entered call, told with its reply. -/
theorem answered_frame {u s : State} {r : Reply} (h : SameExcept [.bus, .paging, .port] (endTransaction s) u) :
    SameExcept [.bus, .paging, .port] s (setReply r u) :=
  (setReply_frame _ _).step (h.step ((endTransaction_frame s).mono (by decide)) fun _ => id) (by decide)

/-! ## CALL-END (R163, R166) -/

theorem exec_callEnd_of_unknown {g : Word} {s : State} (hd : portDeaf s = false) (hj : joined s = true)
    (hlow : 1 ≤ g.toNat) (hhigh : g.toNat ≤ 255) (h : ∀ c ∈ s.paging.calls, c.number ≠ g.toNat) :
    exec (.callEnd [g]) s = .next (refusedWith 81 .noSuch s) := by
  have hnone : (endTransaction s).paging.calls.find? (fun c => decide (c.number = g.toNat)) = none :=
    List.find?_eq_none.2 fun c hc => by simpa using h c hc
  refine panel_of_refused hd ?_
  rw [callEndCommand, oneId_of_within (s := endTransaction s) hj hlow hhigh (by omega), hnone]

theorem exec_callEnd_of_other {g : Word} {s : State} {c : Call} (hd : portDeaf s = false) (hj : joined s = true)
    (hlow : 1 ≤ g.toNat) (hhigh : g.toNat ≤ 255)
    (h : s.paging.calls.find? (fun c => decide (c.number = g.toNat)) = some c) (hr : c.reason ≠ .panel) :
    exec (.callEnd [g]) s = .next (refusedWith 81 .wrongKind s) := by
  have hsome : (endTransaction s).paging.calls.find? (fun c => decide (c.number = g.toNat)) = some c := h
  refine panel_of_refused hd ?_
  rw [callEndCommand, oneId_of_within (s := endTransaction s) hj hlow hhigh (by omega), hsome]
  exact if_neg hr

theorem exec_callEnd_of_panel {g : Word} {s : State} {c : Call} (hd : portDeaf s = false) (hj : joined s = true)
    (hlow : 1 ≤ g.toNat) (hhigh : g.toNat ≤ 255)
    (h : s.paging.calls.find? (fun c => decide (c.number = g.toNat)) = some c) (hr : c.reason = .panel) :
    exec (.callEnd [g]) s = .next (setReply (.done 81 false .none) (withdrawCall c (endTransaction s))) := by
  have hsome : (endTransaction s).paging.calls.find? (fun c => decide (c.number = g.toNat)) = some c := h
  refine panel_of_accepted hd ?_
  rw [callEndCommand, oneId_of_within (s := endTransaction s) hj hlow hhigh (by omega), hsome]
  exact if_pos hr

theorem withdrawCall_of_local {c : Call} (h : c.state = .local) (s : State) : withdrawCall c s = dropCall c.number s := by
  rw [withdrawCall, decide_eq_false (not_not.2 h), doWhen_false]

/-! ## The obligation -/

theorem callEnd_spec {g : Word} {s : State} (hd : portDeaf s = false) (hj : joined s = true) (hlow : 1 ≤ g.toNat)
    (hhigh : g.toNat ≤ 255) {c : Call} (h : s.paging.calls.find? (fun c => decide (c.number = g.toNat)) = some c)
    (hr : c.reason = .panel) : ∃ t, exec (.callEnd [g]) s = .next t ∧ SameExcept [.bus, .paging, .port] s t ∧
      Answered 81 false .none s t ∧ t.paging.calls = s.paging.calls.filter (fun c => decide (c.number ≠ g.toNat)) ∧
      (c.state = .local → t.paging = { s.paging with calls := t.paging.calls } ∧ t.bus = s.bus) ∧
      (c.state ≠ .local → FrameWaits (.pageCancel g.toNat) s t) := by
  have hnumber : c.number = g.toNat := by simpa using List.find?_some h
  obtain ⟨hcalls, hwaits⟩ := withdrawCall_spec c (endTransaction s)
  have hframe := withdrawCall_frame c (endTransaction s)
  rw [hnumber] at hcalls hwaits
  refine ⟨_, exec_callEnd_of_panel hd hj hlow hhigh h hr, answered_frame (hframe.mono (by decide)),
    answered_setReply _ _ _ (hframe.port (by decide)), hcalls, fun hl => ?_, hwaits⟩
  rw [withdrawCall_of_local hl]
  exact ⟨rfl, rfl⟩

/-- A PAGE that finds room. -/
theorem page_of_room {g u sh sl : Word} {s : State} {subject urgency : Nat} {c1 c2 : Bool} (hd : portDeaf s = false)
    (hj : joined s = true) (hg : g.toNat ≤ 7) (hu : Takes 0 3 1 u urgency c1)
    (hsubject : TakesWide 0 65535 0 sh sl subject c2) (hopen : openCall .panel subject s = none)
    (hroom : s.paging.calls.length < 16) (hlow : 1 ≤ s.paging.nextNumber) (hhigh : s.paging.nextNumber ≤ 255) :
    ∃ (t : State) (n : Nat), exec (.page [g, u, sh, sl]) s = .next t ∧ 1 ≤ n ∧ n ≤ 255 ∧
      (∀ c ∈ s.paging.calls, c.number ≠ n) ∧
      ((∀ c ∈ s.paging.calls, c.number ≠ s.paging.nextNumber) → n = s.paging.nextNumber) ∧
      SameExcept [.bus, .paging, .port] s t ∧ t.port.reply = .done 80 (c1 || c2) (.call n) ∧
      (s.profile.radio = false → Answered 80 (c1 || c2) (.call n) s t ∧
        t.paging = { s.paging with
          calls := s.paging.calls ++ [⟨n, .panel, subject, some g.toNat, urgency, .calling, 1, some 10000, none⟩]
          nextNumber := n % 255 + 1 } ∧
        FrameWaits (.pageCall ⟨n, 12, subject, g.toNat, urgency⟩) s t) := by
  have hcommand := pageCommand_of_room (s := endTransaction s) hj hg hu hsubject hopen
    (makeRoom_of_room (s := endTransaction s) hroom urgency)
  obtain ⟨h1, h2, hfree, hnext⟩ := newNumber_spec (s := s) (by omega) hlow hhigh
  have hnumber : newNumber (endTransaction s) = newNumber s := rfl
  rw [hnumber] at hcommand
  refine ⟨_, newNumber s, panel_of_accepted hd hcommand, h1, h2, hfree, hnext,
    answered_frame (enterCall_frame _ _ _ _ _), rfl, fun hradio => ?_⟩
  rw [enterCall_eq_callIn (s := endTransaction s) hradio]
  have hframe := calledOut_frame .panel subject g.toNat urgency (endTransaction s)
  have hpaging := calledOut_paging (s := endTransaction s) (by change s.paging.calls.length < 255; omega) .panel subject
    g.toNat urgency
  exact ⟨answered_setReply _ _ _ (hframe.port (by decide)), hpaging,
    calledOut_waits .panel subject g.toNat urgency (endTransaction s)⟩

theorem takes_le {lo hi d v : Nat} {w : Word} {clamped : Bool} (h : Takes lo hi d w v clamped) (hle : lo ≤ hi) :
    v ≤ hi := by
  obtain ⟨hvalue, hleast, hmost, hdefault⟩ := h
  have hw := w.isLt
  by_cases h1 : w.toNat < 65533
  · have := (hvalue h1).1
    omega
  · by_cases h2 : w.toNat = 65533
    · have := (hleast h2).1
      omega
    · by_cases h3 : w.toNat = 65534
      · have := (hmost h3).1
        omega
      · have := (hdefault (by omega)).1
        omega

/-- A PAGE that replaces the weakest call of a full list. -/
theorem page_of_weaker {g u sh sl : Word} {s : State} {subject urgency : Nat} {c1 c2 : Bool} (hd : portDeaf s = false)
    (hj : joined s = true) (hg : g.toNat ≤ 7) (hu : Takes 0 3 1 u urgency c1)
    (hsubject : TakesWide 0 65535 0 sh sl subject c2) (hopen : openCall .panel subject s = none)
    {before after : List Call} {v : Call} (hfull : s.paging.calls.length = 16)
    (hcalls : s.paging.calls = before ++ v :: after) (hv : v.urgency < urgency)
    (hbefore : ∀ c ∈ before, v.urgency < c.urgency) (hafter : ∀ c ∈ after, v.urgency ≤ c.urgency)
    (hnames : s.paging.calls.Pairwise (fun a b => a.number ≠ b.number)) (hradio : s.profile.radio = false) :
    ∃ (t : State) (n : Nat), exec (.page [g, u, sh, sl]) s = .next t ∧
      t.paging.calls = before ++ after ++
        [⟨n, .panel, subject, some g.toNat, urgency, .calling, 1, some 10000, none⟩] ∧
      t.port.reply = .done 80 (c1 || c2) (.call n) ∧ SameExcept [.bus, .paging, .port] s t ∧
      t.port.reports.getLast? =
        some ⟨s.life.clock, .call (some v.number) v.reason v.subject v.group v.urgency .replaced⟩ := by
  have hbyte : urgency ≤ 255 := (takes_le hu (by decide)).trans (by decide)
  have hcommand := pageCommand_of_room (s := endTransaction s) hj hg hu hsubject hopen
    (makeRoom_of_weaker (s := endTransaction s) hfull hcalls hv hbyte hbefore hafter)
  obtain ⟨hrest, -, -, hreport⟩ := replaced_spec (s := endTransaction s) hcalls hnames
  have hmade := replaced_frame v (endTransaction s)
  have hradio' : (replaced v (endTransaction s)).profile.radio = false :=
    radio_of_profile (hmade.profile (by decide)) hradio
  have hlen : (replaced v (endTransaction s)).paging.calls.length < 255 := by
    rw [hcalls, List.length_append, List.length_cons] at hfull
    rw [hrest, List.length_append]
    omega
  rw [enterCall_eq_callIn hradio'] at hcommand
  have hframe := calledOut_frame .panel subject g.toNat urgency (replaced v (endTransaction s))
  refine ⟨_, newNumber (replaced v (endTransaction s)), panel_of_accepted hd hcommand, ?_, rfl,
    answered_frame (hmade.trans (hframe.mono (by decide))), ?_⟩
  · have hpaging := calledOut_paging hlen .panel subject g.toNat urgency
    refine (congrArg Paging.calls hpaging).trans ?_
    rw [hrest]
  · exact (congrArg (fun p => p.reports.getLast?) (hframe.port (by decide))).trans hreport

/-- Settles O35: PAGE by what the list holds, CALL-END by the call it names, and a block's call likewise. -/
theorem pageEntersACallAndCallEndRemovesIt : Obligations.PageEntersACallAndCallEndRemovesIt := by
  unfold Obligations.PageEntersACallAndCallEndRemovesIt
  refine ⟨fun g u sh sl s subject urgency c1 c2 clamped hd hj => ⟨fun hg hu hsubject hclamped => ?_,
    fun hlow hhigh => ⟨fun h => exec_callEnd_of_unknown hd hj hlow hhigh h,
      fun c h => ⟨exec_callEnd_of_other hd hj hlow hhigh h, callEnd_spec hd hj hlow hhigh h⟩⟩⟩,
    fun r subject group urgency s hgroup hurgency => ⟨fun c h => raiseCall_of_open h, fun hopen => ⟨?_, ?_, ?_⟩⟩⟩
  · subst hclamped
    refine ⟨fun c h => ?_, fun h hroom hlow hhigh => page_of_room hd hj hg hu hsubject h hroom hlow hhigh,
      fun h hfull hall => ?_, fun before after v h hfull hcalls hv hbefore hafter hnames hradio =>
        page_of_weaker hd hj hg hu hsubject h hfull hcalls hv hbefore hafter hnames hradio⟩
    · exact panel_of_accepted hd (pageCommand_of_open (s := endTransaction s) hj hg hu hsubject h)
    · exact panel_of_refused hd (pageCommand_of_full (s := endTransaction s) hj hg hu hsubject h
        (makeRoom_of_full (s := endTransaction s) hfull hall))
  · intro hroom hlow hhigh
    have hraise := raiseCall_of_room hopen (makeRoom_of_room hroom _)
    rw [← hgroup, ← hurgency] at hraise
    refine ⟨callIn r subject group urgency s, newNumber s, callIn_entered (by omega) hlow hhigh r subject group urgency,
      callIn_frame r subject group urgency s, ?_, fun hg => ?_, fun g hg => ?_⟩
    · exact callIn_queue (by omega) r subject group urgency
    · subst hg
      exact ⟨hraise, (enterCall_local r subject urgency s).2.1⟩
    · subst hg
      exact ⟨(calledOut_frame r subject g urgency s).port (by decide), hraise, fun hradio =>
        hraise.trans (enterCall_eq_callIn hradio r subject (some g) urgency)⟩
  · intro hfull hall
    subst hgroup hurgency
    exact raiseCall_of_refused hopen (makeRoom_of_full hfull hall)
  · intro before after v hfull hcalls hv hbyte hbefore hafter hnames hradio hlow hhigh hroom
    have hraise := raiseCall_of_room hopen (by
      rw [← hurgency]
      exact makeRoom_of_weaker hfull hcalls hv hbyte hbefore hafter)
    have hmade := replaced_frame v s
    rw [← hgroup, ← hurgency, enterCall_eq_callIn (radio_of_profile (hmade.profile (by decide)) hradio)] at hraise
    obtain ⟨-, -, hbus, hreport⟩ := replaced_spec hcalls hnames
    refine ⟨_, newNumber (replaced v s), hraise, callIn_replaced hfull hcalls hnames hlow hhigh hroom r subject group
      urgency, hmade.trans (callIn_frame _ _ _ _ _), callIn_mem_reports hreport _ _ _ _, fun hl hsend hocc => ?_⟩
    obtain ⟨e, he, hf⟩ := (withdrawCall_spec v s).2 hl hsend hocc
    exact ⟨e, callIn_keeps_waiting _ _ _ _ _ e (hbus ▸ he), hf⟩

end Sys2Proof.Machine
end

section
/-! QUERY and its snapshots (R188, R189). -/

namespace Sys2Proof.Machine

/-! ## Identifiers and tokens (R185, R186) -/

/-- A word from 65,533 on is a token, and no identifier. -/
theorem hasValue_narrow_of_token {c : Word} (h : 65533 ≤ c.toNat) : hasValue (narrow c) = false := by
  have hw := c.isLt
  have hcases : c.toNat = 65533 ∨ c.toNat = 65534 ∨ c.toNat = 65535 := by omega
  obtain h | h | h := hcases <;> simp [narrow, tokenOf, h, hasValue]

theorem hasValue_narrow_of_lt {c : Word} (h : c.toNat < 65533) : hasValue (narrow c) = true := by
  rw [narrow_of_lt h]
  rfl

theorem idValue_narrow_of_lt {c : Word} (h : c.toNat < 65533) : idValue (narrow c) = c.toNat := by
  rw [narrow_of_lt h]
  rfl

theorem idWithin_narrow_of_lt {lo hi : Nat} {c : Word} (h : c.toNat < 65533) :
    idWithin lo hi (narrow c) = (decide (lo ≤ c.toNat) && decide (c.toNat ≤ hi)) := by
  rw [narrow_of_lt h]
  rfl

theorem idWithin_of_outside {lo hi : Nat} {c : Word} (h : c.toNat < 65533) (hout : c.toNat < lo ∨ hi < c.toNat) :
    idWithin lo hi (narrow c) = false := by
  rw [idWithin_narrow_of_lt h, Bool.and_eq_false_iff, decide_eq_false_iff_not, decide_eq_false_iff_not]
  omega

/-- A station-wide item does not examine its element. -/
theorem elementHasValue_narrow {n : Nat} {e : Word} (h : e.toNat < 65533) : elementHasValue n (narrow e) = true := by
  rw [elementHasValue, hasValue_narrow_of_lt h, ite_self]

theorem elementHasValue_of_ranged {n : Nat} {r : Nat × Nat} (h : elementRange n = some r) (e : Param) :
    elementHasValue n e = hasValue e := if_neg (by simp [h])

theorem elementWithin_of_ranged {n : Nat} {r : Nat × Nat} (h : elementRange n = some r) (e : Param) :
    elementWithin n e = idWithin r.1 r.2 e := by rw [elementWithin, h]

/-- An element below the tokens and in the range of its item, where it has one, passes test 5. -/
theorem elementWithin_of_within {n : Nat} {e : Word} (hlt : e.toNat < 65533)
    (h : ∀ lo hi, elementRange n = some (lo, hi) → lo ≤ e.toNat ∧ e.toNat ≤ hi) : elementWithin n (narrow e) = true := by
  cases hr : elementRange n with
  | none => rw [elementWithin, hr]
  | some r =>
    obtain ⟨hlo, hhi⟩ := h r.1 r.2 hr
    rw [elementWithin_of_ranged hr, idWithin_narrow_of_lt hlt]
    simp [hlo, hhi]

/-! ## The tests of a QUERY (R185, R188) -/

/-- A snapshot shows the state; that its transaction has ended shows nowhere. -/
theorem snapshotOf_endTransaction (k i e : Nat) (s : State) :
    snapshotOf k i e (endTransaction s) = snapshotOf k i e s := rfl

/-- The state after a QUERY that is taken. -/
def queried (shown : Snapshot) (s : State) : State :=
  s.setPort { s.port with reply := .done 6 false (.snapshot shown), transaction := .none }

section
variable {k i e : Word} {s : State}

theorem exec_query_of_kind_token (hd : portDeaf s = false) (hk : 65533 ≤ k.toNat) :
    exec (.query [k, i, e]) s = .next (refusedWith 6 .malformed s) := by
  refine panel_of_refused hd ?_
  simp [queryCommand, hasValue_narrow_of_token hk, checked, stageOk]

theorem exec_query_of_token (hd : portDeaf s = false) (hk : k.toNat < 65533)
    (ht : queryTokens k.toNat (narrow i) (narrow e) = false) :
    exec (.query [k, i, e]) s = .next (refusedWith 6 .malformed s) := by
  refine panel_of_refused hd ?_
  simp [queryCommand, idValue_narrow_of_lt hk, ht, checked, stageOk]

theorem exec_query_of_range (hd : portDeaf s = false) (hk : k.toNat < 65533)
    (ht : queryTokens k.toNat (narrow i) (narrow e) = true) (hr : queryRanges k.toNat (narrow i) (narrow e) = false) :
    exec (.query [k, i, e]) s = .next (refusedWith 6 .noSuch s) := by
  refine panel_of_refused hd ?_
  simp [queryCommand, hasValue_narrow_of_lt hk, idValue_narrow_of_lt hk, ht, hr, checked, stageOk]

theorem exec_query_of_taken (hd : portDeaf s = false) (hk : k.toNat < 65533)
    (ht : queryTokens k.toNat (narrow i) (narrow e) = true) (hr : queryRanges k.toNat (narrow i) (narrow e) = true) :
    exec (.query [k, i, e]) s =
      .next (queried (snapshotOf k.toNat (idValue (narrow i)) (idValue (narrow e)) s) s) := by
  refine panel_of_accepted (u := endTransaction s) (clamped := false) hd ?_
  simp [queryCommand, hasValue_narrow_of_lt hk, idValue_narrow_of_lt hk, ht, hr, checked, stageOk,
    snapshotOf_endTransaction]

end

/-! ## The kinds (R188) -/

/-- The kinds with an index and no element, with their index ranges. -/
def indexedKinds : List (Nat × Nat × Nat) :=
  [(1, 0, 7), (2, 1, 30), (3, 0, 11), (5, 0, 12), (6, 0, 7), (7, 0, 15), (8, 1, 255), (9, 0, 15), (10, 0, 23), (11, 0, 31)]

theorem indexRange_of_indexed : ∀ q ∈ indexedKinds, indexRange q.1 = some q.2 ∧ q.2.2 < 65533 ∧ q.1 < 12 ∧
    ¬ (q.1 = 0 ∨ q.1 = 4) := by decide

/-- Only a PROFILE snapshot reads the element. -/
theorem snapshotOf_element {k : Nat} (hk : k < 12) (i e e' : Nat) (s : State) :
    snapshotOf k i e s = snapshotOf k i e' s := by
  interval_cases k <;> rfl

/-- STATION and LAST-RACK read no index. -/
theorem snapshotOf_whole {k : Nat} (hk : k = 0 ∨ k = 4) (i i' e e' : Nat) (s : State) :
    snapshotOf k i e s = snapshotOf k i' e' s := by
  obtain rfl | rfl := hk <;> rfl

theorem queryTokens_whole {k : Nat} (hk : k = 0 ∨ k = 4) (i e : Param) : queryTokens k i e = true := if_pos hk

theorem queryTokens_profile (i e : Param) :
    queryTokens 12 i e = (hasValue i && elementHasValue (idValue i) e) := rfl

theorem queryTokens_index {k : Nat} (hk : ¬ (k = 0 ∨ k = 4)) (h12 : k ≠ 12) (i e : Param) :
    queryTokens k i e = hasValue i := (if_neg hk).trans (if_neg h12)

theorem queryRanges_whole {k : Nat} (hk : k = 0 ∨ k = 4) (i e : Param) : queryRanges k i e = true := by
  obtain rfl | rfl := hk <;> rfl

theorem queryRanges_indexed {k : Nat} {r : Nat × Nat} (hr : indexRange k = some r) (hk : k < 12) (i e : Param) :
    queryRanges k i e = idWithin r.1 r.2 i := by
  have h1 : k ≤ 12 := Nat.le_of_lt hk
  have h2 : k ≠ 12 := Nat.ne_of_lt hk
  simp [queryRanges, hr, h1, h2]

theorem queryRanges_profile (i e : Param) :
    queryRanges 12 i e = (idWithin 1 36 i && elementWithin (idValue i) e) := rfl

theorem queryRanges_of_unknown {k : Nat} (hk : 12 < k) (i e : Param) : queryRanges k i e = false := by
  simp [queryRanges, Nat.not_le.mpr hk]

/-! ## What a QUERY of each kind answers -/

section
variable {k i e : Word} {s : State}

theorem exec_query_indexed (hd : portDeaf s = false) {lo hi : Nat} (h : (k.toNat, lo, hi) ∈ indexedKinds) :
    (65533 ≤ i.toNat → exec (.query [k, i, e]) s = .next (refusedWith 6 .malformed s)) ∧
    (lo ≤ i.toNat → i.toNat ≤ hi →
      exec (.query [k, i, e]) s = .next (queried (snapshotOf k.toNat i.toNat e.toNat s) s)) ∧
    (i.toNat < 65533 → i.toNat < lo ∨ hi < i.toNat →
      exec (.query [k, i, e]) s = .next (refusedWith 6 .noSuch s)) := by
  obtain ⟨hrange, hhi, hk, hwhole⟩ := indexRange_of_indexed _ h
  have htokens : queryTokens k.toNat (narrow i) (narrow e) = hasValue (narrow i) :=
    queryTokens_index hwhole (Nat.ne_of_lt hk) _ _
  have hranges : queryRanges k.toNat (narrow i) (narrow e) = idWithin lo hi (narrow i) :=
    queryRanges_indexed hrange hk _ _
  have hlt : k.toNat < 65533 := Nat.lt_trans hk (by decide)
  refine ⟨fun hi => ?_, fun hlo hle => ?_, fun hi hout => ?_⟩
  · exact exec_query_of_token hd hlt (htokens.trans (hasValue_narrow_of_token hi))
  · have hi : i.toNat < 65533 := Nat.lt_of_le_of_lt hle hhi
    rw [exec_query_of_taken hd hlt (htokens.trans (hasValue_narrow_of_lt hi))
      (hranges.trans (by simp [idWithin_narrow_of_lt hi, hlo, hle])), idValue_narrow_of_lt hi,
      snapshotOf_element hk i.toNat _ e.toNat]
  · exact exec_query_of_range hd hlt (htokens.trans (hasValue_narrow_of_lt hi)) (hranges.trans (idWithin_of_outside hi hout))

theorem exec_query_whole (hd : portDeaf s = false) (h : k.toNat = 0 ∨ k.toNat = 4) :
    exec (.query [k, i, e]) s = .next (queried (snapshotOf k.toNat i.toNat e.toNat s) s) := by
  rw [exec_query_of_taken hd (by omega) (queryTokens_whole h _ _) (queryRanges_whole h _ _),
    snapshotOf_whole h _ i.toNat _ e.toNat]

theorem exec_query_unknown (hd : portDeaf s = false) (h : 12 < k.toNat) (hk : k.toNat < 65533) (hi : i.toNat < 65533) :
    exec (.query [k, i, e]) s = .next (refusedWith 6 .noSuch s) :=
  exec_query_of_range hd hk ((queryTokens_index (by omega) (by omega) _ _).trans (hasValue_narrow_of_lt hi))
    (queryRanges_of_unknown h _ _)

theorem exec_query_profile_malformed (hd : portDeaf s = false) (hk : k.toNat = 12)
    (h : (hasValue (narrow i) && elementHasValue (idValue (narrow i)) (narrow e)) = false) :
    exec (.query [k, i, e]) s = .next (refusedWith 6 .malformed s) := by
  refine exec_query_of_token hd (by omega) ?_
  rw [hk, queryTokens_profile, h]

theorem exec_query_profile_noSuch (hd : portDeaf s = false) (hk : k.toNat = 12) (hi : i.toNat < 65533)
    (he : e.toNat < 65533)
    (h : (idWithin 1 36 (narrow i) && elementWithin i.toNat (narrow e)) = false) :
    exec (.query [k, i, e]) s = .next (refusedWith 6 .noSuch s) := by
  refine exec_query_of_range hd (by omega) ?_ ?_
  · rw [hk, queryTokens_profile, hasValue_narrow_of_lt hi, elementHasValue_narrow he]
    rfl
  · rw [hk, queryRanges_profile, idValue_narrow_of_lt hi, h]

theorem exec_query_profile (hd : portDeaf s = false) (hk : k.toNat = 12) (hlo : 1 ≤ i.toNat) (hhi : i.toNat ≤ 36)
    (he : e.toNat < 65533) (h : ∀ lo hi, elementRange i.toNat = some (lo, hi) → lo ≤ e.toNat ∧ e.toNat ≤ hi) :
    exec (.query [k, i, e]) s =
      .next (queried (.profile i.toNat e.toNat (readItem s.profile i.toNat e.toNat)) s) := by
  have hi : i.toNat < 65533 := by omega
  rw [exec_query_of_taken hd (by omega)]
  · rw [hk, idValue_narrow_of_lt hi, idValue_narrow_of_lt he]
    rfl
  · rw [hk, queryTokens_profile, hasValue_narrow_of_lt hi, elementHasValue_narrow he]
    rfl
  · rw [hk, queryRanges_profile, idWithin_narrow_of_lt hi, idValue_narrow_of_lt hi, elementWithin_of_within he h]
    simp [hlo, hhi]

end

/-! ## What the snapshots show (R40, R67, R123, R144, R160, R180) -/

theorem countPeers_stale (ps : List Peer) : countPeers true ps = (ps.filter (fun p => p.stale)).length := by
  simp [countPeers]

theorem countPeers_live (ps : List Peer) : countPeers false ps = (ps.filter (fun p => !p.stale)).length := by
  simp [countPeers]

/-- The STOCK snapshot of a channel (R144). -/
def stockSnapshot (s : State) (c : Chan) : Snapshot :=
  .stock c s.profile.channels[c].kind (if s.profile.channels[c].kind = .warmer then some (warmerView s c) else none)

theorem snapshotOf_stock (s : State) (i e : Nat) : snapshotOf 6 i e s = stockSnapshot s (chanOf i) := rfl

theorem stockSnapshot_of_warmer {s : State} {c : Chan} (h : s.profile.channels[c].kind = .warmer) :
    stockSnapshot s c = .stock c .warmer (some (warmerView s c)) := by
  rw [stockSnapshot, if_pos h, h]

theorem stockSnapshot_of_other {s : State} {c : Chan} (h : s.profile.channels[c].kind ≠ .warmer) :
    stockSnapshot s c = .stock c s.profile.channels[c].kind none := by
  rw [stockSnapshot, if_neg h]

/-- The first hold of a tag, behind the holds of other tags before it. -/
theorem holdView_append {front back : List Hold} {h : Hold} {tag : Nat} (ht : h.tag = tag)
    (hfront : ∀ x ∈ front, x.tag ≠ tag) : holdView (front ++ h :: back) tag =
    some ⟨h.asker, h.wave, h.channel, h.count, (h.remaining + 999) / 1000, front.length + 1⟩ := by
  have hnone : front.find? (fun h => decide (h.tag = tag)) = none := by simpa using hfront
  have hplace : front.findIdx (fun h => decide (h.tag = tag)) = front.length := by
    simpa [List.findIdx_eq_length] using hfront
  simp [holdView, hnone, hplace, List.findIdx_append, List.findIdx_cons, ht, ceilDiv]

theorem holdView_of_absent {hs : List Hold} {tag : Nat} (h : ∀ x ∈ hs, x.tag ≠ tag) : holdView hs tag = none := by
  have hnone : hs.find? (fun h => decide (h.tag = tag)) = none := by simpa using h
  rw [holdView, hnone]
  rfl

theorem waveView_of_one {w : Wave} (h : w.src2 = none) : waveView w =
    ⟨w, w.covers - w.src1.taken, none, decide (w.covers ≤ heldFigure w.src1.hold + w.src1.taken)⟩ := by
  simp [waveView, need1, covered, coverSum, taken2, held2, h]

theorem waveView_of_two {w : Wave} {r : Source} (h : w.src2 = some r) : waveView w =
    ⟨w, w.covers - (w.src1.taken + r.taken + heldFigure r.hold),
      some (w.covers - (w.src1.taken + r.taken + heldFigure w.src1.hold)),
      decide (w.covers ≤ heldFigure w.src1.hold + heldFigure r.hold + w.src1.taken + r.taken)⟩ := by
  simp [waveView, need1, need2, covered, coverSum, taken2, held2, h]

/-- The roster entry of a group's pointer (R168, R180). -/
theorem pagerView_isPointer (s : State) (j : Fin 32) : (pagerView s j).isPointer = true ↔
    ∃ g : Nat, s.profile.roster[j].group = some g ∧ s.paging.pointer[g]? = some (some j) := by
  simp only [pagerView]
  cases s.profile.roster[j].group with
  | none => simp
  | some g => simp [List.getD_eq_getElem?_getD]; grind

/-- Settles O41: the tests of R185 by kind, and each kind's snapshot by its definition. -/
theorem queryReturnsTheSnapshotOfItsMoment : Obligations.QueryReturnsTheSnapshotOfItsMoment := by
  unfold Obligations.QueryReturnsTheSnapshotOfItsMoment
  intro k i e s hd
  refine ⟨exec_query_of_kind_token hd, fun lo hi h => exec_query_indexed hd h, exec_query_whole hd,
    exec_query_unknown hd, fun hk => ⟨fun hi => ?_, fun hout hi he => ?_⟩,
    fun hk hlo hhi => ⟨exec_query_profile hd hk hlo hhi, fun lo hi hr => ⟨fun he => ?_, fun he hout => ?_⟩⟩,
    ⟨stationSnapshot s, rfl, ?_⟩, fun c hc => ?_, fun h => ?_, fun p hp => ?_, ⟨dishView s, ?_⟩, fun h => ?_,
    fun front back h hs ht hfront => ?_, fun h => ?_, fun w hw => ⟨fun h2 => ?_, fun r h2 => ?_⟩, rfl, rfl,
    fun j hj => ⟨pagerView s j, ?_, rfl, rfl, rfl, pagerView_isPointer s j⟩⟩
  · exact exec_query_profile_malformed hd hk (by rw [hasValue_narrow_of_token hi, Bool.false_and])
  · refine exec_query_profile_noSuch hd hk hi he ?_
    rw [idWithin_of_outside hi (by omega), Bool.false_and]
  · refine exec_query_profile_malformed hd hk ?_
    rw [idValue_narrow_of_lt (by omega), elementHasValue_of_ranged hr, hasValue_narrow_of_token he, Bool.and_false]
  · refine exec_query_profile_noSuch hd hk (by omega) he ?_
    rw [elementWithin_of_ranged hr, idWithin_of_outside he hout, Bool.and_false]
  · refine ⟨rfl, rfl, rfl, rfl, fun h => ?_, fun x h => ?_, rfl, rfl, rfl, rfl, rfl, rfl, rfl, rfl, rfl, rfl, rfl, rfl,
      rfl, countPeers_stale _, countPeers_live _, rfl, rfl, rfl, rfl, rfl, rfl, rfl, rfl, Option.map_eq_none_iff, rfl,
      rfl⟩
    · exact congrArg (Option.getD · 0) h
    · exact congrArg (Option.getD · 0) h
  · have hchan : chanOf i.toNat = c := hc ▸ chanOf_val c
    have hstock := (snapshotOf_stock s i.toNat e.toNat).trans (congrArg (stockSnapshot s) hchan)
    refine ⟨⟨channelSnapshot s c, congrArg (fun k => Snapshot.channel (channelSnapshot s k)) hchan, rfl, rfl, rfl, rfl,
      rfl, rfl, rfl, rfl, rfl, rfl, rfl, rfl, rfl, rfl, rfl⟩, fun hk => ?_, fun hk => ⟨warmerView s c, ?_, rfl, rfl, rfl,
      rfl, rfl, rfl, rfl, rfl, rfl⟩⟩
    · exact hstock.trans (stockSnapshot_of_other hk)
    · exact hstock.trans (stockSnapshot_of_warmer hk)
  · have hnone : s.peers.find? (fun p => decide (p.id = i.toNat)) = none := by simpa using h
    exact congrArg (fun o => Snapshot.peer i.toNat (o.map peerView)) hnone
  · exact congrArg (fun o => Snapshot.peer i.toNat (o.map peerView)) hp
  · refine ⟨rfl, rfl, rfl, rfl, rfl, rfl, rfl, rfl, rfl, rfl, rfl, rfl, rfl, rfl, rfl, rfl, fun h => ?_, fun r h => ?_,
      fun h => ?_, fun r h => ?_, fun x hx => ⟨?_, ?_⟩⟩
    · exact congrArg (fun o => Snapshot.rack (dishView s) i.toNat (o.map rackView)) h
    · exact congrArg (fun o => Snapshot.rack (dishView s) i.toNat (o.map rackView)) h
    · exact congrArg (fun o => Snapshot.lastRack (dishView s) (o.map rackView)) h
    · exact congrArg (fun o => Snapshot.lastRack (dishView s) (o.map rackView)) h
    · rintro rfl
      exact congrArg (fun o => Snapshot.trace (dishView s) i.toNat (o.map (fun r => r.trace))) hx.symm
    · rintro r rfl
      exact congrArg (fun o => Snapshot.trace (dishView s) i.toNat (o.map (fun r => r.trace))) hx.symm
  · exact congrArg (Snapshot.hold i.toNat) (holdView_of_absent h)
  · refine congrArg (Snapshot.hold i.toNat) ?_
    rw [hs]
    exact holdView_append ht hfront
  · have hnone : s.waves.find? (fun w => decide (w.number = i.toNat)) = none := by simpa using h
    exact congrArg (fun o => Snapshot.wave i.toNat (o.map waveView)) hnone
  · refine (congrArg (fun o => Snapshot.wave i.toNat (o.map waveView)) hw).trans ?_
    exact congrArg (fun v => Snapshot.wave i.toNat (some v)) (waveView_of_one h2)
  · refine (congrArg (fun o => Snapshot.wave i.toNat (o.map waveView)) hw).trans ?_
    exact congrArg (fun v => Snapshot.wave i.toNat (some v)) (waveView_of_two h2)
  · have hof : Fin.ofNat 32 i.toNat = j := by
      rw [← hj]
      exact Fin.ext (Nat.mod_eq_of_lt j.isLt)
    exact congrArg (fun x => Snapshot.pager i.toNat (pagerView s x)) hof

end Sys2Proof.Machine
end

section
/-! Refused commands (R184, R185). -/

namespace Sys2Proof.Machine

/-! ## The order of the tests (R185) -/

section
variable {α : Type} {g : Stage} {s : State}

theorem checked_stage (h : stageOk g s.life.station = false) (tokens ranges : Bool) (owner : Except Reason α) :
    checked (stageOk g s.life.station) tokens ranges owner = .error .stage := by rw [h]; rfl

theorem checked_token (h : stageOk g s.life.station = true) {tokens : Bool} (ht : tokens = false) (ranges : Bool)
    (owner : Except Reason α) : checked (stageOk g s.life.station) tokens ranges owner = .error .malformed := by
  rw [h, ht]; rfl

theorem checked_range (h : stageOk g s.life.station = true) {tokens ranges : Bool} (ht : tokens = true)
    (hr : ranges = false) (owner : Except Reason α) :
    checked (stageOk g s.life.station) tokens ranges owner = .error .noSuch := by rw [h, ht, hr]; rfl

theorem checked_owner (h : stageOk g s.life.station = true) {tokens ranges : Bool} (ht : tokens = true)
    (hr : ranges = true) (owner : Except Reason α) :
    checked (stageOk g s.life.station) tokens ranges owner = owner := by rw [h, ht, hr]; rfl

end

/-! ## Lengths and station states (R185, tests 2 and 3) -/

/-- A command passes tests 2 and 3 of R185 with these lengths and in these station states. -/
def Tested (lengths : List Nat) (g : Stage) (body : List Word → State → Except Reason Done) : Prop :=
  ∀ p s, (p.length ∉ lengths → body p s = .error .malformed) ∧
    (p.length ∈ lengths → stageOk g s.life.station = false → body p s = .error .stage)

theorem tested_plain (g : Stage) (owner : State → Except Reason Done) :
    Tested [0] g (fun p s => plain g p s (owner s)) := by
  refine fun p s => ⟨fun h => ?_, fun h hg => ?_⟩
  · cases p with
    | nil => exact absurd (List.mem_singleton_self _) h
    | cons w ws => rfl
  · obtain rfl := List.length_eq_zero_iff.mp (List.mem_singleton.mp h)
    exact checked_stage hg _ _ _

theorem tested_oneId (lo hi : Nat) (owner : State → Nat → Except Reason Done) :
    Tested [1] .joinedOnly (fun p s => oneId lo hi p s (owner s)) := by
  refine fun p s => ⟨fun h => ?_, fun h hg => ?_⟩
  · dsimp only [oneId]
    split
    · exact absurd (List.mem_singleton_self _) h
    · rfl
  · obtain ⟨w, rfl⟩ := List.length_eq_one_iff.mp (List.mem_singleton.mp h)
    exact checked_stage hg _ _ _

theorem tested_oneNumber (owner : State → Param → Except Reason Done) :
    Tested [1] .joinedOnly (fun p s => oneNumber p s (owner s)) := by
  refine fun p s => ⟨fun h => ?_, fun h hg => ?_⟩
  · dsimp only [oneNumber]
    split
    · exact absurd (List.mem_singleton_self _) h
    · rfl
  · obtain ⟨w, rfl⟩ := List.length_eq_one_iff.mp (List.mem_singleton.mp h)
    exact checked_stage hg _ _ _

theorem tested_profilePut : Tested [4] .unjoinedOnly profilePutCommand := by
  refine fun p s => ⟨fun h => ?_, fun h hg => ?_⟩
  · unfold profilePutCommand
    split
    · exact absurd (List.mem_singleton_self _) h
    · rfl
  · obtain ⟨i, e, vh, vl, rfl⟩ := List.length_eq_four.mp (List.mem_singleton.mp h)
    exact checked_stage hg _ _ _

theorem tested_setClock : Tested [2] .joinedOnly setClockCommand := by
  refine fun p s => ⟨fun h => ?_, fun h hg => ?_⟩
  · unfold setClockCommand
    split
    · exact absurd (List.mem_singleton_self _) h
    · rfl
  · obtain ⟨upper, lower, rfl⟩ := List.length_eq_two.mp (List.mem_singleton.mp h)
    exact checked_stage hg _ _ _

theorem tested_query : Tested [3] .any queryCommand := by
  refine fun p s => ⟨fun h => ?_, fun h hg => nomatch hg⟩
  unfold queryCommand
  split
  · exact absurd (List.mem_singleton_self _) h
  · rfl

theorem tested_heat : Tested [3] .joinedOnly heatCommand := by
  refine fun p s => ⟨fun h => ?_, fun h hg => ?_⟩
  · unfold heatCommand
    split
    · exact absurd (List.mem_singleton_self _) h
    · rfl
  · obtain ⟨c, t, r, rfl⟩ := List.length_eq_three.mp (List.mem_singleton.mp h)
    exact checked_stage hg _ _ _

theorem tested_load : Tested [2] .joinedOnly loadCommand := by
  refine fun p s => ⟨fun h => ?_, fun h hg => ?_⟩
  · unfold loadCommand
    split
    · exact absurd (List.mem_singleton_self _) h
    · rfl
  · obtain ⟨c, n, rfl⟩ := List.length_eq_two.mp (List.mem_singleton.mp h)
    exact checked_stage hg _ _ _

theorem tested_take : Tested [2, 3] .joinedOnly takeCommand := by
  refine fun p s => ⟨fun h => ?_, fun h hg => ?_⟩
  · unfold takeCommand
    split
    · exact absurd (by simp) h
    · exact absurd (by simp) h
    · rfl
  · obtain h | h : p.length = 2 ∨ p.length = 3 := by simpa using h
    · obtain ⟨c, n, rfl⟩ := List.length_eq_two.mp h
      exact checked_stage hg _ _ _
    · obtain ⟨c, n, tag, rfl⟩ := List.length_eq_three.mp h
      exact checked_stage hg _ _ _

theorem planCommand_stage {q : PlanWords} {s : State} (hg : stageOk .joinedOnly s.life.station = false) :
    planCommand q s = .error .stage := checked_stage hg _ _ _

theorem four_of_length {n : Nat} {p : List Word} (h : p.length = n + 4) :
    ∃ a b c d q, p = a :: b :: c :: d :: q ∧ q.length = n := by
  obtain ⟨a, p, rfl⟩ := List.exists_cons_of_length_eq_add_one h
  obtain ⟨b, p, rfl⟩ := List.exists_cons_of_length_eq_add_one (n := n + 2) (Nat.succ.inj h)
  obtain ⟨c, p, rfl⟩ := List.exists_cons_of_length_eq_add_one (n := n + 1) (Nat.succ.inj (Nat.succ.inj h))
  obtain ⟨d, p, rfl⟩ := List.exists_cons_of_length_eq_add_one (n := n) (Nat.succ.inj (Nat.succ.inj (Nat.succ.inj h)))
  exact ⟨a, b, c, d, p, rfl, by simpa using h⟩

theorem tested_wavePlan : Tested [11, 13] .joinedOnly wavePlanCommand := by
  refine fun p s => ⟨fun h => ?_, fun h hg => ?_⟩
  · unfold wavePlanCommand
    split
    · exact absurd (by simp) h
    · exact absurd (by simp) h
    · rfl
  · obtain h | h : p.length = 11 ∨ p.length = 13 := by simpa using h
    · obtain ⟨n, o, fh, fl, p, rfl, h7⟩ := four_of_length (n := 7) h
      obtain ⟨ph, pl, c, t, p, rfl, h3⟩ := four_of_length (n := 3) h7
      obtain ⟨v, a, b, rfl⟩ := List.length_eq_three.mp h3
      exact planCommand_stage hg
    · obtain ⟨n, o, fh, fl, p, rfl, h9⟩ := four_of_length (n := 9) h
      obtain ⟨ph, pl, c, t, p, rfl, h5⟩ := four_of_length (n := 5) h9
      obtain ⟨v, a, b, d, p, rfl, h1⟩ := four_of_length (n := 1) h5
      obtain ⟨e, rfl⟩ := List.length_eq_one_iff.mp h1
      exact planCommand_stage hg

theorem tested_page : Tested [4] .joinedOnly pageCommand := by
  refine fun p s => ⟨fun h => ?_, fun h hg => ?_⟩
  · unfold pageCommand
    split
    · exact absurd (List.mem_singleton_self _) h
    · rfl
  · obtain ⟨g, u, sh, sl, rfl⟩ := List.length_eq_four.mp (List.mem_singleton.mp h)
    exact checked_stage hg _ _ _

theorem tested_duty : Tested [2] .joinedOnly dutyCommand := by
  refine fun p s => ⟨fun h => ?_, fun h hg => ?_⟩
  · unfold dutyCommand
    split
    · exact absurd (List.mem_singleton_self _) h
    · rfl
  · obtain ⟨x, v, rfl⟩ := List.length_eq_two.mp (List.mem_singleton.mp h)
    exact checked_stage hg _ _ _

theorem tested_join : Tested [0] .unjoinedOnly joinCommand := tested_plain _ _

theorem tested_leave : Tested [0] .joinedOnly leaveCommand := tested_plain _ _

theorem tested_readReport : Tested [0] .any readReportCommand := tested_plain _ _

theorem tested_heatOff : Tested [1] .joinedOnly heatOffCommand := tested_oneId _ _ _

theorem tested_channelClear : Tested [1] .joinedOnly channelClearCommand := tested_oneId _ _ _

theorem tested_dishOn : Tested [0] .joinedOnly dishOnCommand := tested_plain _ _

theorem tested_dishOff : Tested [0] .joinedOnly dishOffCommand := tested_plain _ _

theorem tested_dishSpeed : Tested [1] .joinedOnly dishSpeedCommand := tested_oneNumber _

theorem tested_dishResume : Tested [0] .joinedOnly dishResumeCommand := tested_plain _ _

theorem tested_nextRack : Tested [1] .joinedOnly nextRackCommand := tested_oneNumber _

theorem tested_pickup : Tested [1] .joinedOnly pickupCommand := tested_oneNumber _

theorem tested_wave (owner : State → Wave → Except Reason Done) :
    Tested [1] .joinedOnly (fun p s => waveCommand p s (owner s)) := tested_oneId _ _ _

theorem tested_waveFire : Tested [1] .joinedOnly waveFireCommand := tested_wave _

theorem tested_wavePlate : Tested [1] .joinedOnly wavePlateCommand := tested_wave _

theorem tested_waveClose : Tested [1] .joinedOnly waveCloseCommand := tested_wave _

theorem tested_waveCancel : Tested [1] .joinedOnly waveCancelCommand := tested_wave _

theorem tested_callEnd : Tested [1] .joinedOnly callEndCommand := tested_oneId _ _ _

theorem tested_allCall : Tested [1] .joinedOnly allCallCommand := tested_oneNumber _

theorem tested_allCallEnd : Tested [0] .joinedOnly allCallEndCommand := tested_plain _ _

/-! ## What a command leaves (R184) -/

/-- The reply of a concluded command, and the trace of a refused one. -/
def Concluded (code : Nat) (s t : State) : Prop :=
  t.port.reply = .none ∨ (∃ clamped r, t.port.reply = .done code clamped r) ∨
    ∃ r, t.port.reply = .refused code r ∧ t = refusedWith code r s

theorem concluded_refused (code : Nat) (r : Reason) (s : State) : Concluded code s (refusedWith code r s) :=
  .inr (.inr ⟨r, rfl, rfl⟩)

theorem panel_concluded {s : State} (hd : portDeaf s = false) (code : Nat) (body : State → Except Reason Done) :
    ∃ t, panel code body s = .next t ∧ Concluded code s t := by
  cases hb : body (endTransaction s) with
  | ok d =>
    obtain ⟨u, clamped, r⟩ := d
    exact ⟨_, panel_of_accepted hd hb, .inr (.inl ⟨clamped, r, rfl⟩)⟩
  | error e => exact ⟨_, panel_of_refused hd hb, concluded_refused code e s⟩

/-- A command of the catalogue is refused by its length and then by the station state, and is concluded. -/
def TakenAs (code : Nat) (lengths : List Nat) (g : Stage) (run : List Word → State → Out) : Prop :=
  ∀ p s, portDeaf s = false → (p.length ∉ lengths → run p s = .next (refusedWith code .malformed s)) ∧
    (p.length ∈ lengths → stageOk g s.life.station = false → run p s = .next (refusedWith code .stage s)) ∧
    ∃ t, run p s = .next t ∧ Concluded code s t

theorem Tested.takenAs {lengths : List Nat} {g : Stage} {body : List Word → State → Except Reason Done}
    (h : Tested lengths g body) (code : Nat) : TakenAs code lengths g (fun p s => panel code (body p) s) := by
  refine fun p s hd => ⟨fun hp => ?_, fun hp hg => ?_, panel_concluded hd _ _⟩
  · exact panel_of_refused hd ((h p (endTransaction s)).1 hp)
  · exact panel_of_refused hd ((h p (endTransaction s)).2 hp hg)

theorem endWith_of_hearing {s : State} (hd : portDeaf s = false) (f : State → State) :
    endWith f s = .next (f (endTransaction s)) := by rw [endWith, if_neg (by simp [hd])]

theorem execRestart_of_hearing {s : State} (hd : portDeaf s = false) (p : List Word) :
    execRestart p s = .next (restartCommand p (endTransaction s)) := by rw [execRestart, if_neg (by simp [hd])]

/-- A command without parameters that is taken in every station state and answers NONE. -/
theorem takenAs_any {code : Nat} {run : List Word → State → Out}
    (hnil : ∀ s, portDeaf s = false → ∃ t, run [] s = .next t ∧ t.port.reply = .none)
    (hcons : ∀ w ws s, portDeaf s = false → run (w :: ws) s = .next (refusedWith code .malformed s)) :
    TakenAs code [0] .any run := by
  intro p s hd
  refine ⟨fun hp => ?_, fun _ hg => absurd hg.symm Bool.false_ne_true, ?_⟩
  · cases p with
    | nil => exact absurd (List.mem_singleton_self _) hp
    | cons w ws => exact hcons w ws s hd
  · cases p with
    | nil =>
      obtain ⟨t, ht, hr⟩ := hnil s hd
      exact ⟨t, ht, .inl hr⟩
    | cons w ws => exact ⟨_, hcons w ws s hd, concluded_refused _ _ _⟩

theorem takenAs_nothing : TakenAs 0 [0] .any execNothing :=
  takenAs_any (fun _ hd => ⟨_, endWith_of_hearing hd _, rfl⟩) fun _ _ _ hd => endWith_of_hearing hd _

theorem takenAs_restart : TakenAs 1 [0] .any execRestart :=
  takenAs_any (fun _ hd => ⟨_, execRestart_of_hearing hd _, rfl⟩) fun _ _ _ hd => execRestart_of_hearing hd _

/-- The catalogue of section 11.5, command by command. -/
theorem catalogue_taken : ∀ n ∈ catalogueCodes, TakenAs n (catalogueLengths n) (catalogueStage n)
    (fun p s => exec (codeCommand (BitVec.ofNat 8 n) p) s) := by
  simp only [catalogueCodes, List.forall_mem_cons]
  exact ⟨takenAs_nothing, takenAs_restart, tested_profilePut.takenAs 2, tested_join.takenAs 3, tested_leave.takenAs 4,
    tested_setClock.takenAs 5, tested_query.takenAs 6, tested_readReport.takenAs 7, tested_heat.takenAs 16,
    tested_heatOff.takenAs 17, tested_channelClear.takenAs 18, tested_dishOn.takenAs 32, tested_dishOff.takenAs 33,
    tested_dishSpeed.takenAs 34, tested_dishResume.takenAs 35, tested_nextRack.takenAs 36, tested_pickup.takenAs 37,
    tested_load.takenAs 48, tested_take.takenAs 49, tested_wavePlan.takenAs 64, tested_waveFire.takenAs 65,
    tested_wavePlate.takenAs 66, tested_waveClose.takenAs 67, tested_waveCancel.takenAs 68, tested_page.takenAs 80,
    tested_callEnd.takenAs 81, tested_duty.takenAs 82, tested_allCall.takenAs 83, tested_allCallEnd.takenAs 84, nofun⟩

end Sys2Proof.Machine
end

section
/-! The owning chapters' checks of a command in a joined state (R18 to R22, R98, R116 to R152). -/

namespace Sys2Proof.Machine

/-- Each of these commands, with its code, is refused with this reason. -/
def Refuses (s : State) (qs : List (Nat × Instr)) (r : Reason) : Prop :=
  ∀ q ∈ qs, exec q.2 s = .next (refusedWith q.1 r s)

theorem Refuses.nil {s : State} {r : Reason} : Refuses s [] r := nofun

theorem Refuses.cons {s : State} {r : Reason} {n : Nat} {c : Instr} {qs : List (Nat × Instr)}
    (h : exec c s = .next (refusedWith n r s)) (hs : Refuses s qs r) : Refuses s ((n, c) :: qs) r :=
  List.forall_mem_cons.mpr ⟨h, hs⟩

theorem Refuses.one {s : State} {r : Reason} {n : Nat} {c : Instr} (h : exec c s = .next (refusedWith n r s)) :
    Refuses s [(n, c)] r := .cons h .nil

theorem hasValue_narrow (c : Word) : hasValue (narrow c) = decide (c.toNat < 65533) := by
  by_cases h : c.toNat < 65533
  · simp [hasValue_narrow_of_lt h, h]
  · simp [hasValue_narrow_of_token (Nat.le_of_not_lt h), h]

/-! ## Identifiers (R185, tests 4 and 5) -/

section
variable {x y z : Word} {s : State}

theorem token_refused (hd : portDeaf s = false) (hj : joined s = true) (hx : 65533 ≤ x.toNat) :
    Refuses s [(16, .heat [x, y, z]), (17, .heatOff [x]), (18, .channelClear [x]), (48, .load [x, y]),
      (49, .take [x, y]), (49, .take [y, z, x]), (65, .waveFire [x]), (66, .wavePlate [x]), (67, .waveClose [x]),
      (68, .waveCancel [x]), (80, .page [x, y, z, z]), (81, .callEnd [x]), (82, .duty [x, y])] .malformed := by
  have hst : stageOk .joinedOnly (endTransaction s).life.station = true := hj
  have htoken := hasValue_narrow_of_token hx
  have alone {code : Nat} {body : State → Except Reason Done} {ranges : Bool} {owner : Except Reason Done}
      (hb : body (endTransaction s) =
        checked (stageOk .joinedOnly (endTransaction s).life.station) (hasValue (narrow x)) ranges owner) :
      panel code body s = .next (refusedWith code .malformed s) :=
    panel_of_refused hd (hb.trans (checked_token hst htoken _ _))
  exact .cons (alone rfl) <| .cons (alone rfl) <| .cons (alone rfl) <| .cons (alone rfl) <| .cons (alone rfl) <|
    .cons (panel_of_refused hd (checked_token hst (by rw [htoken, Bool.and_false]) _ _)) <|
    .cons (alone rfl) <| .cons (alone rfl) <| .cons (alone rfl) <| .cons (alone rfl) <| .cons (alone rfl) <|
    .cons (alone rfl) <| .one (panel_of_refused hd (checked_token hst (by rw [htoken, Bool.false_and]) _ _))

theorem channel_out_of_range (hd : portDeaf s = false) (hj : joined s = true) (hlo : 8 ≤ x.toNat)
    (hhi : x.toNat < 65533) : Refuses s [(16, .heat [x, y, z]), (17, .heatOff [x]), (18, .channelClear [x]),
      (48, .load [x, y]), (49, .take [x, y]), (80, .page [x, y, z, z])] .noSuch := by
  have hst : stageOk .joinedOnly (endTransaction s).life.station = true := hj
  have hrange : idWithin 0 7 (narrow x) = false := idWithin_of_outside hhi (.inr hlo)
  have outside {code : Nat} {body : State → Except Reason Done} {owner : Except Reason Done}
      (hb : body (endTransaction s) = checked (stageOk .joinedOnly (endTransaction s).life.station)
        (hasValue (narrow x)) (idWithin 0 7 (narrow x)) owner) :
      panel code body s = .next (refusedWith code .noSuch s) :=
    panel_of_refused hd (hb.trans (checked_range hst (hasValue_narrow_of_lt hhi) hrange _))
  exact .cons (outside rfl) <| .cons (outside rfl) <| .cons (outside rfl) <| .cons (outside rfl) <|
    .cons (outside rfl) <| .one (outside rfl)

theorem oneId_of_outside {lo hi : Nat} (hj : joined s = true) (hx : x.toNat < 65533) (h : x.toNat < lo ∨ hi < x.toNat)
    (owner : Nat → Except Reason Done) : oneId lo hi [x] s owner = .error .noSuch :=
  checked_range (stageOk_joinedOnly hj) (hasValue_narrow_of_lt hx) (idWithin_of_outside hx h) _

end

/-! ## Checks of a channel (R18, R20, R22, R129, R131) -/

section
variable {c n g : Word} {k : Chan} {s : State}

theorem isTripped_iff {x : ChanState} : isTripped x = true ↔ ∃ cause, x = .tripped cause := by
  cases x <;> simp [isTripped]

theorem heatOffCommand_of_chan (hj : joined s = true) (h : c.toNat = k.val) :
    heatOffCommand [c] s = heatable k s (accepted (updateChannel k heatOffChannel s) false) := by
  rw [heatOffCommand, oneId_of_chan hj h, chanOf_val]

theorem channelClearCommand_of_unused (hj : joined s = true) (h : c.toNat = k.val)
    (hk : s.profile.channels[k].kind = .unused) : channelClearCommand [c] s = .error .wrongKind := by
  simp only [channelClearCommand, oneId_of_chan hj h, chanOf_val, hk, if_true]

theorem channelClearCommand_of_hot (hj : joined s = true) (h : c.toNat = k.val)
    (hk : s.profile.channels[k].kind ≠ .unused) (ht : isTripped s.heat.channels[k].state = true)
    (hhot : flagged s k = true ∨ (topTarget s.profile k : Int) ≤ reading s k) :
    channelClearCommand [c] s = .error (.condition none) := by
  obtain ⟨cause, hcause⟩ := isTripped_iff.mp ht
  have hcool : (!flagged s k && decide (reading s k < (topTarget s.profile k : Int))) = false := by
    obtain hf | hr := hhot
    · rw [hf]
      rfl
    · rw [decide_eq_false (Int.not_lt.mpr hr), Bool.and_false]
  simp only [channelClearCommand, oneId_of_chan hj h, chanOf_val, hk, hcause, hcool, if_false, Bool.false_eq_true]

theorem channelClearCommand_of_untripped (hj : joined s = true) (h : c.toNat = k.val)
    (hk : s.profile.channels[k].kind ≠ .unused) (ht : isTripped s.heat.channels[k].state = false) :
    channelClearCommand [c] s = .error .state := by
  simp only [channelClearCommand, oneId_of_chan hj h, chanOf_val, hk, if_false]
  split
  · next cause hcause => exact absurd (isTripped_iff.mpr ⟨cause, hcause⟩) (ht ▸ Bool.false_ne_true)
  · rfl

theorem warmerOnly_of_other (hk : s.profile.channels[k].kind ≠ .warmer) (owner : Except Reason Done) :
    warmerOnly k s owner = .error .wrongKind := if_neg hk

theorem warmerOnly_of_warmer (hk : s.profile.channels[k].kind = .warmer) (owner : Except Reason Done) :
    warmerOnly k s owner = owner := if_pos hk

theorem hasValue_of_chan (h : c.toNat = k.val) : hasValue (narrow c) = true := by
  rw [narrow_of_chan h]
  rfl

theorem idWithin_of_chan (h : c.toNat = k.val) : idWithin 0 7 (narrow c) = true := by
  rw [narrow_of_chan h]
  exact decide_eq_true (Nat.le_of_lt_succ k.isLt)

theorem chanOf_narrow (h : c.toNat = k.val) : chanOf (idValue (narrow c)) = k := by
  rw [narrow_of_chan h]
  exact chanOf_val k

theorem loadCommand_of_other (hj : joined s = true) (h : c.toNat = k.val)
    (hk : s.profile.channels[k].kind ≠ .warmer) : loadCommand [c, n] s = .error .wrongKind := by
  simp only [loadCommand, stageOk_joinedOnly hj, hasValue_of_chan h, idWithin_of_chan h, chanOf_narrow h, checked_pass,
    warmerOnly_of_other hk]

theorem takeCommand_of_other (hj : joined s = true) (h : c.toNat = k.val)
    (hk : s.profile.channels[k].kind ≠ .warmer) : takeCommand [c, n] s = .error .wrongKind := by
  simp only [takeCommand, stageOk_joinedOnly hj, hasValue_of_chan h, idWithin_of_chan h, chanOf_narrow h, checked_pass,
    warmerOnly_of_other hk]

/-- A TAKE with a tag in its range reaches the checks of its channel. -/
theorem takeCommand_of_tag (hj : joined s = true) (h : c.toNat = k.val) (hg : g.toNat ≤ 15) :
    takeCommand [c, n, g] s = warmerOnly k s
      (takeTagged k (numeric 1 600 600 (narrow n)).1 (numeric 1 600 600 (narrow n)).2 g.toNat s) := by
  have hlt : g.toNat < 65533 := Nat.lt_of_le_of_lt hg (by decide)
  refine (checked_owner (stageOk_joinedOnly hj) ?_ ?_ _).trans ?_
  · rw [hasValue_of_chan h, hasValue_narrow_of_lt hlt]
    rfl
  · rw [idWithin_of_chan h, idWithin_narrow_of_lt hlt]
    simp [hg]
  · rw [chanOf_narrow h, idValue_narrow_of_lt hlt]

theorem takeCommand_of_tag_outside (hj : joined s = true) (h : c.toNat = k.val) (hlo : 15 < g.toNat)
    (hhi : g.toNat < 65533) : takeCommand [c, n, g] s = .error .noSuch := by
  refine checked_range (stageOk_joinedOnly hj) ?_ ?_ _
  · rw [hasValue_of_chan h, hasValue_narrow_of_lt hhi]
    rfl
  · rw [idWithin_of_outside hhi (.inr hlo), Bool.and_false]

theorem takeTagged_of_absent {tag : Nat} (h : ∀ x ∈ s.stock.holds, ¬ (x.tag = tag ∧ x.channel = k)) (asked : Nat)
    (clamped : Bool) : takeTagged k asked clamped tag s = .error .noSuch := by
  have hnone : s.stock.holds.find? (fun x => decide (x.tag = tag) && decide (x.channel = k)) = none := by simpa using h
  rw [takeTagged, hnone]

end

/-! ## Checks of the dish line (R98, R116, R117) -/

section
variable {w : Word} {s : State}

theorem plain_of_joined (hj : joined s = true) (owner : Except Reason Done) : plain .joinedOnly [] s owner = owner :=
  checked_owner (stageOk_joinedOnly hj) rfl rfl owner

theorem oneNumber_of_joined (hj : joined s = true) (owner : Param → Except Reason Done) :
    oneNumber [w] s owner = owner (narrow w) := checked_owner (stageOk_joinedOnly hj) rfl rfl _

theorem dishOnly_of_disabled (h : s.profile.dish.enable = false) (owner : Except Reason Done) :
    dishOnly s owner = .error .wrongKind := if_neg (h ▸ Bool.false_ne_true)

theorem dishOnly_of_enabled (h : s.profile.dish.enable = true) (owner : Except Reason Done) :
    dishOnly s owner = owner := if_pos h

theorem dish_disabled_refused (hd : portDeaf s = false) (hj : joined s = true) (h : s.profile.dish.enable = false) :
    Refuses s [(32, .dishOn []), (33, .dishOff []), (34, .dishSpeed [w]), (35, .dishResume []), (36, .nextRack [w]),
      (37, .pickup [w])] .wrongKind := by
  have hj' : joined (endTransaction s) = true := hj
  have hoff (owner : Except Reason Done) := dishOnly_of_disabled (s := endTransaction s) h owner
  have bare {code : Nat} {body : State → Except Reason Done} {owner : Except Reason Done}
      (hb : body (endTransaction s) = plain .joinedOnly [] (endTransaction s) (dishOnly (endTransaction s) owner)) :
      panel code body s = .next (refusedWith code .wrongKind s) :=
    panel_of_refused hd (hb.trans ((plain_of_joined hj' _).trans (hoff _)))
  have numbered {code : Nat} {body : State → Except Reason Done} {owner : Param → Except Reason Done}
      (hb : body (endTransaction s) =
        oneNumber [w] (endTransaction s) (fun q => dishOnly (endTransaction s) (owner q))) :
      panel code body s = .next (refusedWith code .wrongKind s) :=
    panel_of_refused hd (hb.trans ((oneNumber_of_joined hj' _).trans (hoff _)))
  exact .cons (bare rfl) <| .cons (bare rfl) <| .cons (numbered rfl) <| .cons (bare rfl) <| .cons (numbered rfl) <|
    .one (numbered rfl)

theorem dishOnCommand_of_jam (hj : joined s = true) (he : s.profile.dish.enable = true) (h : s.dish.mode = .jam) :
    dishOnCommand [] s = .error .state := by
  rw [dishOnCommand, plain_of_joined hj, dishOnly_of_enabled he, h]

theorem dishResumeCommand_of_other (hj : joined s = true) (he : s.profile.dish.enable = true) (h : s.dish.mode ≠ .jam) :
    dishResumeCommand [] s = .error .state := by
  rw [dishResumeCommand, plain_of_joined hj, dishOnly_of_enabled he, if_neg h]

end

/-! ## Checks of WAVE-PLAN (R146) -/

/-- The identifiers of a WAVE-PLAN. -/
def PlanWords.ids (q : PlanWords) : List Word :=
  [q.wave, q.oven, q.src1.station, q.src1.channel] ++ (q.src2.map fun r => [r.station, r.channel]).getD []

/-- The identifiers of a source lie in their ranges. -/
def SourceWords.Within (q : SourceWords) : Prop :=
  1 ≤ q.station.toNat ∧ q.station.toNat ≤ 30 ∧ q.channel.toNat ≤ 7

/-- The identifiers of a WAVE-PLAN lie in their ranges. -/
def PlanWords.Within (q : PlanWords) : Prop :=
  1 ≤ q.wave.toNat ∧ q.wave.toNat ≤ 255 ∧ q.oven.toNat ≤ 7 ∧ q.src1.Within ∧ ∀ r, q.src2 = some r → r.Within

section
variable {q : PlanWords} {s : State}

theorem planTokens_iff (q : PlanWords) : (hasValue (narrow q.wave) && hasValue (narrow q.oven) &&
    sourceHasValues q.src1 && (q.src2.map sourceHasValues).getD true) = true ↔ ∀ w ∈ q.ids, w.toNat < 65533 := by
  cases h : q.src2 <;> simp [PlanWords.ids, h, sourceHasValues, hasValue_narrow, and_assoc]

theorem sourceWithin_iff {q : SourceWords} (hs : q.station.toNat < 65533) (hc : q.channel.toNat < 65533) :
    sourceWithin q = true ↔ q.Within := by
  simp [sourceWithin, SourceWords.Within, idWithin_narrow_of_lt hs, idWithin_narrow_of_lt hc, and_assoc]

theorem planRanges_iff {q : PlanWords} (h : ∀ w ∈ q.ids, w.toNat < 65533) : (idWithin 1 255 (narrow q.wave) &&
    idWithin 0 7 (narrow q.oven) && sourceWithin q.src1 && (q.src2.map sourceWithin).getD true) = true ↔
    q.Within := by
  have hfirst : ∀ w ∈ [q.wave, q.oven, q.src1.station, q.src1.channel], w.toNat < 65533 :=
    fun w hw => h w (List.mem_append_left _ hw)
  simp only [List.forall_mem_cons] at hfirst
  obtain ⟨hw, ho, hs, hc, -⟩ := hfirst
  have hsecond : (q.src2.map sourceWithin).getD true = true ↔ ∀ r, q.src2 = some r → r.Within := by
    cases h2 : q.src2 with
    | none => simp
    | some r =>
      have hr : ∀ w ∈ [r.station, r.channel], w.toNat < 65533 :=
        fun w hw => h w (List.mem_append_right _ (by rw [h2]; exact hw))
      simp only [List.forall_mem_cons] at hr
      obtain ⟨hrs, hrc, -⟩ := hr
      simp [sourceWithin_iff hrs hrc]
  simp only [Bool.and_eq_true, hsecond, sourceWithin_iff hs hc, idWithin_narrow_of_lt hw, idWithin_narrow_of_lt ho,
    PlanWords.Within, decide_eq_true_eq, Nat.zero_le, true_and, and_assoc]

theorem planCommand_of_token (hj : joined s = true) (h : ∃ w ∈ q.ids, 65533 ≤ w.toNat) :
    planCommand q s = .error .malformed := by
  obtain ⟨w, hw, hge⟩ := h
  exact checked_token (stageOk_joinedOnly hj)
    (Bool.eq_false_iff.mpr fun hall => Nat.not_lt.mpr hge ((planTokens_iff q).mp hall w hw)) _ _

theorem planCommand_of_outside (hj : joined s = true) (hlt : ∀ w ∈ q.ids, w.toNat < 65533) (h : ¬ q.Within) :
    planCommand q s = .error .noSuch :=
  checked_range (stageOk_joinedOnly hj) ((planTokens_iff q).mpr hlt)
    (Bool.eq_false_iff.mpr fun hall => h ((planRanges_iff hlt).mp hall)) _

theorem PlanWords.Within.ids_lt (h : q.Within) : ∀ w ∈ q.ids, w.toNat < 65533 := by
  obtain ⟨-, hw, ho, ⟨-, hs, hc⟩, h2⟩ := h
  intro w hmem
  obtain hmem | hmem := List.mem_append.mp hmem
  · simp only [List.mem_cons, List.not_mem_nil, or_false] at hmem
    obtain rfl | rfl | rfl | rfl := hmem <;> omega
  · cases hr : q.src2 with
    | none => simp [hr] at hmem
    | some r =>
      obtain ⟨-, hrs, hrc⟩ := h2 r hr
      obtain rfl | rfl : w = r.station ∨ w = r.channel := by simpa [hr] using hmem
      all_goals omega

/-- A WAVE-PLAN with its identifiers in their ranges reaches the checks of the wave it describes. -/
theorem planCommand_of_within (hj : joined s = true) (h : q.Within) :
    planCommand q s = planWave (plannedWave q s).1 (plannedWave q s).2 s :=
  checked_owner (stageOk_joinedOnly hj) ((planTokens_iff q).mpr h.ids_lt) ((planRanges_iff h.ids_lt).mpr h) _

theorem plannedWave_number (h : q.Within) : (plannedWave q s).1.number = q.wave.toNat :=
  idValue_narrow_of_lt (h.ids_lt _ (by simp [PlanWords.ids]))

theorem plannedWave_kind {k : Chan} (hk : q.oven.toNat = k.val) :
    s.profile.channels[(plannedWave q s).1.oven].kind = s.profile.channels[k].kind :=
  congrArg (fun k : Chan => s.profile.channels[k].kind) (chanOf_narrow hk)

theorem findWave_of_absent {n : Nat} (h : ∀ w ∈ s.waves, w.number ≠ n) : findWave n s = none := by
  simpa [findWave] using h

theorem plan_known (hj : joined s = true) (h : q.Within) (hw : ∃ w ∈ s.waves, w.number = q.wave.toNat) :
    planCommand q s = .error .state := by
  have hfound : (findWave (plannedWave q s).1.number s).isSome = true := by
    rw [plannedWave_number h]
    simpa [findWave] using hw
  rw [planCommand_of_within hj h, planWave, if_pos hfound]

/-- A WAVE-PLAN of an unknown wave reaches the check of the table's room. -/
theorem planCommand_of_unknown (hj : joined s = true) (h : q.Within) (hw : ∀ w ∈ s.waves, w.number ≠ q.wave.toNat) :
    planCommand q s = if Config.maxWaves ≤ s.waves.length then .error .full
      else if s.profile.channels[(plannedWave q s).1.oven].kind ≠ .oven then .error .wrongKind
      else if sameSources (plannedWave q s).1 then .error (.condition none)
      else accepted (pushReport (waveReport (plannedWave q s).1 none (some .planned) .planned)
        (s.setWaves (insertWave (plannedWave q s).1 s.waves))) (plannedWave q s).2 := by
  have hnone : ¬ (findWave (plannedWave q s).1.number s).isSome = true := by
    rw [plannedWave_number h, findWave_of_absent hw]
    exact Bool.false_ne_true
  rw [planCommand_of_within hj h, planWave, if_neg hnone]

theorem plan_full (hj : joined s = true) (h : q.Within) (hw : ∀ w ∈ s.waves, w.number ≠ q.wave.toNat)
    (hfull : 16 ≤ s.waves.length) : planCommand q s = .error .full :=
  (planCommand_of_unknown hj h hw).trans (if_pos hfull)

theorem plan_no_oven (hj : joined s = true) (h : q.Within) (hw : ∀ w ∈ s.waves, w.number ≠ q.wave.toNat)
    (hroom : s.waves.length < 16) {k : Chan} (hk : q.oven.toNat = k.val)
    (hkind : s.profile.channels[k].kind ≠ .oven) : planCommand q s = .error .wrongKind := by
  have hne : s.profile.channels[(plannedWave q s).1.oven].kind ≠ .oven := by rwa [plannedWave_kind hk]
  exact (planCommand_of_unknown hj h hw).trans ((if_neg (Nat.not_le.mpr hroom)).trans (if_pos hne))

theorem plan_same_sources (hj : joined s = true) (h : q.Within) (hw : ∀ w ∈ s.waves, w.number ≠ q.wave.toNat)
    (hroom : s.waves.length < 16) {k : Chan} (hk : q.oven.toNat = k.val)
    (hkind : s.profile.channels[k].kind = .oven) (hsame : q.src2 = some q.src1) :
    planCommand q s = .error (.condition none) := by
  have hoven : ¬ s.profile.channels[(plannedWave q s).1.oven].kind ≠ .oven := by
    rw [plannedWave_kind hk]
    exact not_not_intro hkind
  have htwice : sameSources (plannedWave q s).1 = true := by simp [sameSources, plannedWave, hsame]
  exact (planCommand_of_unknown hj h hw).trans
    ((if_neg (Nat.not_le.mpr hroom)).trans ((if_neg hoven).trans (if_pos htwice)))

end

/-! ## Checks of a wave command (R149, R151, R152) -/

section
variable {n : Word} {w : Wave} {s : State}

theorem waveCommand_of_absent (hj : joined s = true) (hlt : n.toNat < 65533)
    (h : (∀ w ∈ s.waves, w.number ≠ n.toNat) ∨ n.toNat = 0 ∨ 255 < n.toNat) (owner : Wave → Except Reason Done) :
    waveCommand [n] s owner = .error .noSuch := by
  by_cases hrange : n.toNat < 1 ∨ 255 < n.toNat
  · exact oneId_of_outside hj hlt hrange _
  · have habsent := h.resolve_right (by omega)
    rw [waveCommand, oneId_of_within hj (by omega) (by omega) hlt, findWave_of_absent habsent]

theorem waveFireCommand_of_begun (hj : joined s = true) (hlo : 1 ≤ n.toNat) (hhi : n.toNat ≤ 255)
    (hw : findWave n.toNat s = some w) (h : w.state = .cooking ∨ w.state = .done ∨ w.state = .plating) :
    waveFireCommand [n] s = .error .state := by
  rw [waveFireCommand, waveCommand_of_found hj hlo hhi hw]
  obtain h | h | h := h <;> rw [h]

theorem wavePlateCommand_of_other (hj : joined s = true) (hlo : 1 ≤ n.toNat) (hhi : n.toNat ≤ 255)
    (hw : findWave n.toNat s = some w) (h : w.state ≠ .done) : wavePlateCommand [n] s = .error .state := by
  rw [wavePlateCommand, waveCommand_of_found hj hlo hhi hw, if_neg h]

theorem waveCloseCommand_of_other (hj : joined s = true) (hlo : 1 ≤ n.toNat) (hhi : n.toNat ≤ 255)
    (hw : findWave n.toNat s = some w) (hdone : w.state ≠ .done) (hplating : w.state ≠ .plating) :
    waveCloseCommand [n] s = .error .state := by
  rw [waveCloseCommand, waveCommand_of_found hj hlo hhi hw]
  split
  · next h => exact absurd h hdone
  · next h => exact absurd h hplating
  · rfl

end

/-! ## The statement -/

section
variable {x y z : Word} {s : State}

theorem channel_refuses (hd : portDeaf s = false) (hj : joined s = true) {k : Chan} (hx : x.toNat = k.val) :
    (s.profile.channels[k].kind = .unused →
      Refuses s [(16, .heat [x, y, z]), (17, .heatOff [x]), (18, .channelClear [x])] .wrongKind) ∧
    (s.profile.channels[k].kind ≠ .unused →
      (isTripped s.heat.channels[k].state = true → Refuses s [(16, .heat [x, y, z]), (17, .heatOff [x])] .state ∧
        (flagged s k = true ∨ ((s.profile.channels[k].highLimit - 50 : Nat) : Int) ≤ reading s k →
          Refuses s [(18, .channelClear [x])] (.condition none))) ∧
      (isTripped s.heat.channels[k].state = false → Refuses s [(18, .channelClear [x])] .state)) ∧
    (s.profile.channels[k].kind ≠ .warmer → Refuses s [(48, .load [x, y]), (49, .take [x, y])] .wrongKind ∧
      (z.toNat ≤ 15 → Refuses s [(49, .take [x, y, z])] .wrongKind)) ∧
    (s.profile.channels[k].kind = .warmer →
      (15 < z.toNat → z.toNat < 65533 → Refuses s [(49, .take [x, y, z])] .noSuch) ∧
      (z.toNat ≤ 15 → (∀ h ∈ s.stock.holds, ¬ (h.tag = z.toNat ∧ h.channel = k)) →
        Refuses s [(49, .take [x, y, z])] .noSuch)) := by
  have hj' : joined (endTransaction s) = true := hj
  refine ⟨fun hk => ?_, fun hk => ⟨fun ht => ⟨?_, fun hhot => ?_⟩, fun ht => ?_⟩, fun hk => ⟨?_, fun hz => ?_⟩,
    fun hk => ⟨fun hlo hhi => ?_, fun hz hnone => ?_⟩⟩
  · exact .cons (panel_of_refused hd ((heatCommand_of_chan hj' hx).trans (heatable_of_unused hk _))) <|
      .cons (panel_of_refused hd ((heatOffCommand_of_chan hj' hx).trans (heatable_of_unused hk _))) <|
      .one (panel_of_refused hd (channelClearCommand_of_unused hj' hx hk))
  · exact .cons (panel_of_refused hd ((heatCommand_of_chan hj' hx).trans (heatable_of_tripped hk ht _))) <|
      .one (panel_of_refused hd ((heatOffCommand_of_chan hj' hx).trans (heatable_of_tripped hk ht _)))
  · exact .one (panel_of_refused hd (channelClearCommand_of_hot hj' hx hk ht hhot))
  · exact .one (panel_of_refused hd (channelClearCommand_of_untripped hj' hx hk ht))
  · exact .cons (panel_of_refused hd (loadCommand_of_other hj' hx hk)) <|
      .one (panel_of_refused hd (takeCommand_of_other hj' hx hk))
  · exact .one (panel_of_refused hd ((takeCommand_of_tag hj' hx hz).trans (warmerOnly_of_other hk _)))
  · exact .one (panel_of_refused hd (takeCommand_of_tag_outside hj' hx hlo hhi))
  · refine .one (panel_of_refused hd ((takeCommand_of_tag hj' hx hz).trans ?_))
    exact (warmerOnly_of_warmer hk _).trans (takeTagged_of_absent (s := endTransaction s) hnone _ _)

theorem choice_isSome {d : Nat} (h : y.toNat ≤ 1 ∨ y.toNat = 65535) : (choice 1 d (narrow y)).isSome = true := by
  obtain h | h := h
  · rw [narrow_of_lt (Nat.lt_of_le_of_lt h (by decide)), choice, if_pos h]
    rfl
  · simp [narrow, tokenOf, h, choice]

theorem duty_outside_refused (hd : portDeaf s = false) (hj : joined s = true) (hlo : 31 < x.toNat)
    (hhi : x.toNat < 65533) (hy : y.toNat ≤ 1 ∨ y.toNat = 65535) : Refuses s [(82, .duty [x, y])] .noSuch := by
  refine .one (panel_of_refused hd (checked_range (stageOk_joinedOnly (s := endTransaction s) hj) ?_ ?_ _))
  · rw [hasValue_narrow_of_lt hhi, choice_isSome hy]
    rfl
  · exact idWithin_of_outside hhi (.inr hlo)

end

/-- A WAVE-PLAN, in either length, reaches its checks as a record of words. -/
theorem planned_refused {q : PlanWords} {p : List Word} {s : State} {r : Reason} (hd : portDeaf s = false)
    (hp : wavePlanCommand p (endTransaction s) = planCommand q (endTransaction s))
    (h : planCommand q (endTransaction s) = .error r) : exec (.wavePlan p) s = .next (refusedWith 64 r s) :=
  panel_of_refused hd (hp.trans h)

/-- Settles O42: a command is concluded by its panel body, and each body refuses by the first test it fails. -/
theorem refusedCommandsLeaveOnlyTheirReply : Obligations.RefusedCommandsLeaveOnlyTheirReply := by
  unfold Obligations.RefusedCommandsLeaveOnlyTheirReply
  refine ⟨fun code p s hd hc => ?_, fun x y z s refuses hd hj hrefuses => ?_⟩
  · have htaken := catalogue_taken code.toNat (by simpa using hc) p s hd
    simp only [BitVec.ofNat_toNat, BitVec.setWidth_eq] at htaken
    exact htaken
  obtain rfl : refuses = Refuses s := funext₂ fun qs r => propext (hrefuses qs r)
  have hj' : joined (endTransaction s) = true := hj
  refine ⟨token_refused hd hj, channel_out_of_range hd hj, fun k hx => channel_refuses hd hj hx,
    dish_disabled_refused hd hj, fun he => ⟨fun hm => ?_, fun hm => ?_⟩, ?_, ?_,
    duty_outside_refused hd hj, fun hout hx => ?_, fun hx habsent => ?_, fun w hlo hhi hw => ⟨fun h => ?_, fun h => ?_,
    fun h1 h2 => ?_⟩⟩
  · exact .one (panel_of_refused hd (dishOnCommand_of_jam hj' he hm))
  · exact .one (panel_of_refused hd (dishResumeCommand_of_other hj' he hm))
  · rintro fh fl ph pl c g v a b d e k _ hlo hhi hk ha1 ha30 hb hd1 hd30 he rfl
    have hoven : y.toNat ≤ 7 := by omega
    have hone : PlanWords.Within ⟨x, y, fh, fl, ph, pl, c, g, v, ⟨a, b⟩, none⟩ :=
      ⟨hlo, hhi, hoven, ⟨ha1, ha30, hb⟩, nofun⟩
    have htwo : PlanWords.Within ⟨x, y, fh, fl, ph, pl, c, g, v, ⟨a, b⟩, some ⟨d, e⟩⟩ :=
      ⟨hlo, hhi, hoven, ⟨ha1, ha30, hb⟩, fun r hr => Option.some.inj hr ▸ ⟨hd1, hd30, he⟩⟩
    have both {r : Reason} (h1 : planCommand ⟨x, y, fh, fl, ph, pl, c, g, v, ⟨a, b⟩, none⟩ (endTransaction s) = .error r)
        (h2 : planCommand ⟨x, y, fh, fl, ph, pl, c, g, v, ⟨a, b⟩, some ⟨d, e⟩⟩ (endTransaction s) = .error r) :
        Refuses s [(64, .wavePlan [x, y, fh, fl, ph, pl, c, g, v, a, b]),
          (64, .wavePlan [x, y, fh, fl, ph, pl, c, g, v, a, b, d, e])] r :=
      .cons (planned_refused hd rfl h1) <| .one (planned_refused hd rfl h2)
    refine ⟨fun hw => both (plan_known hj' hone hw) (plan_known hj' htwo hw), fun hw => ⟨fun hfull => ?_,
      fun hroom hkind => ?_, fun hroom hkind had hbe => ?_⟩⟩
    · exact both (plan_full hj' hone hw hfull) (plan_full hj' htwo hw hfull)
    · exact both (plan_no_oven hj' hone hw hroom hk hkind) (plan_no_oven hj' htwo hw hroom hk hkind)
    · subst had hbe
      exact .one (planned_refused hd rfl (plan_same_sources hj' htwo hw hroom hk hkind rfl))
  · intro fh fl ph pl c g v a b d e
    refine ⟨fun h => .one (planned_refused hd rfl (planCommand_of_token hj' h)),
      fun h => .one (planned_refused hd rfl (planCommand_of_token hj' h)),
      fun hlt hout => .one (planned_refused hd rfl (planCommand_of_outside hj' hlt ?_)),
      fun hlt hout => .one (planned_refused hd rfl (planCommand_of_outside hj' hlt ?_))⟩
    · rintro ⟨h1, h2, h3, ⟨h4, h5, h6⟩, -⟩
      dsimp only at h1 h2 h3 h4 h5 h6
      omega
    · rintro ⟨h1, h2, h3, ⟨h4, h5, h6⟩, h7⟩
      obtain ⟨h7, h8, h9⟩ := h7 _ rfl
      dsimp only at h1 h2 h3 h4 h5 h6 h7 h8 h9
      omega
  · exact .one (panel_of_refused hd (oneId_of_outside hj' hx (by omega) _))
  · exact .cons (panel_of_refused hd (waveCommand_of_absent hj' hx habsent _)) <|
      .cons (panel_of_refused hd (waveCommand_of_absent hj' hx habsent _)) <|
      .cons (panel_of_refused hd (waveCommand_of_absent hj' hx habsent _)) <|
      .one (panel_of_refused hd (waveCommand_of_absent hj' hx habsent _))
  · exact .one (panel_of_refused hd (waveFireCommand_of_begun hj' hlo hhi hw h))
  · exact .one (panel_of_refused hd (wavePlateCommand_of_other hj' hlo hhi hw h))
  · exact .one (panel_of_refused hd (waveCloseCommand_of_other hj' hlo hhi hw h1 h2))

end Sys2Proof.Machine
end

section
/-! The capacities of the lists along every operation of reports, frames and calls (R49, R161, R162, R168, R190). -/

namespace Sys2Proof.Machine

/-- The lists of a state stand within the manual's capacities, with at most `m` open calls and `n` queued calls: an operation
that enters a call is followed from the room it finds to the room it leaves. -/
structure Within (m n : Nat) (s : State) : Prop where
  reports : s.port.reports.length ≤ 32
  frames : occupied s.bus ≤ 8
  racks : s.dish.racks.length ≤ 12
  holds : s.stock.holds.length ≤ 16
  loads : ∀ k : Chan, s.stock.warmers[k].loads.length ≤ 6
  waves : s.waves.length ≤ 16
  calls : s.paging.calls.length ≤ m
  paged : s.paging.queue.length ≤ n

theorem within_iff {s : State} : Within 16 24 s ↔ WithinCapacity s :=
  ⟨fun ⟨hr, hf, hk, hh, hl, hw, hc, hq⟩ => ⟨hr, hf, hk, hh, hl, hw, hc, hq⟩,
    fun ⟨hr, hf, hk, hh, hl, hw, hc, hq⟩ => ⟨hr, hf, hk, hh, hl, hw, hc, hq⟩⟩

variable {m n : Nat} {s : State}

/-! ## The blocks that hold a list -/

/-- The blocks that hold a list with a capacity. -/
def listBlocks : List Block := [.bus, .dish, .stock, .waves, .paging, .port]

/-- A frame of other blocks keeps the capacities. -/
theorem Within.frame {t : State} {bs : List Block} (h : Within m n s) (hf : SameExcept bs s t)
    (hb : ∀ b ∈ listBlocks, b ∉ bs := by decide) : Within m n t where
  reports := by rw [hf.port (hb _ (by decide))]; exact h.reports
  frames := by rw [hf.bus (hb _ (by decide))]; exact h.frames
  racks := by rw [hf.dish (hb _ (by decide))]; exact h.racks
  holds := by rw [hf.stock (hb _ (by decide))]; exact h.holds
  loads := by rw [hf.stock (hb _ (by decide))]; exact h.loads
  waves := by rw [hf.waves (hb _ (by decide))]; exact h.waves
  calls := by rw [hf.paging (hb _ (by decide))]; exact h.calls
  paged := by rw [hf.paging (hb _ (by decide))]; exact h.paged

theorem Within.setPort (h : Within m n s) {p : Port} (hr : p.reports.length ≤ 32) : Within m n (s.setPort p) :=
  { h with reports := hr }

theorem Within.setBus (h : Within m n s) {b : Bus} (hb : occupied b ≤ 8) : Within m n (s.setBus b) :=
  { h with frames := hb }

theorem Within.setDish (h : Within m n s) {d : Dish} (hr : d.racks.length ≤ 12) : Within m n (s.setDish d) :=
  { h with racks := hr }

theorem Within.setStock (h : Within m n s) {t : Stock} (hh : t.holds.length ≤ 16)
    (hl : ∀ k : Chan, t.warmers[k].loads.length ≤ 6) : Within m n (s.setStock t) :=
  { h with holds := hh, loads := hl }

theorem Within.setWaves (h : Within m n s) {ws : List Wave} (hw : ws.length ≤ 16) : Within m n (s.setWaves ws) :=
  { h with waves := hw }

theorem Within.setPaging (h : Within m n s) {i j : Nat} {g : Paging} (hc : g.calls.length ≤ i) (hq : g.queue.length ≤ j) :
    Within i j (s.setPaging g) :=
  { h with calls := hc, paged := hq }

/-- An update of the paging unit that leaves both of its lists alone. -/
theorem Within.sameLists (h : Within m n s) {g : Paging} (hc : g.calls = s.paging.calls) (hq : g.queue = s.paging.queue) :
    Within m n (s.setPaging g) :=
  h.setPaging (hc ▸ h.calls) (hq ▸ h.paged)

theorem Within.tighten (h : Within m n s) {i j : Nat} (hc : s.paging.calls.length ≤ i) (hq : s.paging.queue.length ≤ j) :
    Within i j s :=
  { h with calls := hc, paged := hq }

/-! ## Reports (R190) and the transmit queue (R47 to R49) -/

theorem Within.pushReport (h : Within m n s) (b : ReportBody) : Within m n (pushReport b s) := by
  have hr := h.reports
  unfold Machine.pushReport
  dsimp only
  split
  · next hroom =>
    refine h.setPort ?_
    have hroom' : s.port.reports.length < 32 := hroom
    simp only [List.length_append, List.length_singleton]
    omega
  · refine h.setPort ?_
    simp only [List.length_append, List.length_singleton, List.length_tail]
    omega

theorem occupied_accept {id : Nat} {f : Frame} {b b' : Bus} (h : accept id f b = some b') (hb : occupied b ≤ 8) :
    occupied b' ≤ 8 := by
  unfold accept at h
  split at h
  · cases h
    simpa [occupied] using hb
  · split at h
    · next hroom =>
      cases h
      have hroom' : occupied b < 8 := hroom
      simp only [occupied, insertEntry_length] at hroom' ⊢
      omega
    · cases h

theorem Within.offer (h : Within m n s) (f : Frame) : Within m n (offer f s) := by
  unfold Machine.offer
  split
  · cases ha : accept (ownId s) f s.bus with
    | none => exact h.setBus h.frames
    | some b => exact h.setBus (occupied_accept ha h.frames)
  · exact h

theorem foldr_insertEntry_length (es xs : List TxEntry) : (es.foldr insertEntry xs).length = es.length + xs.length := by
  induction es with
  | nil => simp
  | cons e es ih =>
    rw [List.foldr_cons, insertEntry_length, ih, List.length_cons]
    omega

/-- A frame that goes back to the queue takes no more than the entry it had (R46, R49). -/
theorem occupied_requeue (b : Bus) : occupied (requeue b) ≤ occupied b := by
  unfold requeue
  cases hl : b.onLine with
  | none => exact Nat.le_refl _
  | some e =>
    dsimp only
    split
    · simp [occupied]
    · split
      · have hsplit := List.length_eq_length_filter_add (l := b.waiting) (sameWaiting e.frame)
        simp only [occupied, foldr_insertEntry_length, List.length_map, hl] at hsplit ⊢
        simp only [Option.isSome_none, Option.isSome_some, Bool.false_eq_true, if_false, if_true]
        omega
      · simp [occupied, insertEntry_length, hl]

/-! ## Calls at their origin (R161 to R166) -/

theorem Within.serveCancel (h : Within m n s) (origin number : Nat) : Within m n (serveCancel origin number s) :=
  doWhen_of _ h (h.setPaging h.calls ((List.length_filter_le _ _).trans h.paged))

theorem Within.updatePaged (h : Within m n s) (tag : Nat) (f : Paged → Paged) : Within m n (updatePaged tag f s) :=
  h.setPaging h.calls ((List.length_map _).trans_le h.paged)

theorem Within.updateCall (h : Within m n s) (number : Nat) (f : Call → Call) : Within m n (updateCall number f s) :=
  h.setPaging ((List.length_map _).trans_le h.calls) h.paged

theorem Within.dropCall (h : Within m n s) (number : Nat) : Within m n (dropCall number s) :=
  h.setPaging ((List.length_filter_le _ _).trans h.calls) h.paged

theorem Within.sendCancel (h : Within m n s) (number : Nat) : Within m n (sendCancel number s) :=
  (h.offer _).serveCancel _ _

theorem Within.endCall (h : Within m n s) (c : Call) (cause : CallCause) : Within m n (endCall c cause s) :=
  ((h.dropCall _).pushReport _).sendCancel _

theorem Within.withdrawCall (h : Within m n s) (c : Call) : Within m n (withdrawCall c s) :=
  doWhen_of _ (h.dropCall _) ((h.dropCall _).sendCancel _)

/-- The call that is withdrawn leaves its place. -/
theorem Within.withdrawCall_frees (h : Within (m + 1) n s) {c : Call} (hc : c ∈ s.paging.calls) :
    Within m n (Machine.withdrawCall c s) := by
  have hshorter : (s.paging.calls.filter (fun x => decide (x.number ≠ c.number))).length < s.paging.calls.length :=
    List.length_filter_lt_length_iff_exists.2 ⟨c, hc, by simp⟩
  have hdrop : Within m n (Machine.dropCall c.number s) :=
    h.setPaging (Nat.le_of_lt_succ (hshorter.trans_le h.calls)) h.paged
  exact doWhen_of _ hdrop (hdrop.sendCancel _)

theorem Within.pageStateAtOrigin (h : Within m n s) (b : PageStateBody) : Within m n (pageStateAtOrigin b s) := by
  unfold Machine.pageStateAtOrigin
  split
  · exact h
  · split
    · exact h.updateCall _ _
    · exact h.updateCall _ _
    · exact h.endCall _ _
    · exact h.endCall _ _
    · exact h.endCall _ _
    · exact h

/-! ## The page queue and the arbiter (R168 to R175) -/

theorem Within.tellOrigin (h : Within m n s) (c : Paged) (outcome detail : Nat) :
    Within m n (tellOrigin c outcome detail s) := by
  unfold Machine.tellOrigin
  dsimp only
  split
  · exact h.pageStateAtOrigin _
  · exact h.offer _

theorem Within.finishPaged (h : Within m n s) (c : Paged) (outcome detail : Nat) :
    Within m n (finishPaged c outcome detail s) := by
  refine Within.tellOrigin ?_ c outcome detail
  exact h.setPaging h.calls ((List.length_filter_le _ _).trans h.paged)

/-- A queued call that ends leaves its place. -/
theorem Within.finishPaged_frees (h : Within m (n + 1) s) {c : Paged} (hc : c ∈ s.paging.queue) (outcome detail : Nat) :
    Within m n (Machine.finishPaged c outcome detail s) := by
  have hshorter : (s.paging.queue.filter (fun x => decide (x.tag ≠ c.tag))).length < s.paging.queue.length :=
    List.length_filter_lt_length_iff_exists.2 ⟨c, hc, by simp⟩
  refine Within.tellOrigin ?_ c outcome detail
  exact h.setPaging h.calls (Nat.le_of_lt_succ (hshorter.trans_le h.paged))

theorem Within.writeRecord (h : Within m n s) (r : OutRecord) : Within m n (writeRecord r s) :=
  h.sameLists rfl rfl

theorem Within.writeSend (h : Within m n s) (c : Paged) (i : Fin 32) : Within m n (writeSend c i s) :=
  (h.updatePaged _ _).writeRecord _

theorem Within.writeAll (h : Within m n s) (a : AllCall) : Within m n (writeAll a s) := by
  refine Within.writeRecord ?_ _
  exact h.sameLists rfl rfl

theorem Within.grantCalls (h : Within m n s) (fuel : Nat) : Within m n (grantCalls fuel s) := by
  induction fuel generalizing s with
  | zero => exact h
  | succ fuel ih =>
    unfold Machine.grantCalls
    split
    · exact h
    · split
      · exact h.writeSend _ _
      · exact ih (h.finishPaged _ _ _)

theorem Within.arbitrate (h : Within m n s) : Within m n (arbitrate s) := by
  unfold Machine.arbitrate
  split
  · split
    · exact doWhen_of _ h (h.writeAll _)
    · exact h.grantCalls _
  · exact h

theorem insertPaged_length (c : Paged) (q : List Paged) : (insertPaged c q).length = q.length + 1 := by
  induction q with
  | nil => rfl
  | cons x xs ih =>
    unfold insertPaged
    split
    · rfl
    · rw [List.length_cons, ih, List.length_cons]

theorem Within.takePaged (h : Within m n s) (origin : Nat) (b : PageCallBody) : Within m (n + 1) (takePaged origin b s) := by
  refine Within.tellOrigin ?_ _ _ _
  exact h.setPaging h.calls ((insertPaged_length _ _).trans_le (Nat.succ_le_succ h.paged))

theorem Within.dropPaged (h : Within m n s) (origin : Nat) (b : PageCallBody) : Within m n (dropPaged origin b s) := by
  unfold Machine.dropPaged
  dsimp only
  split
  · exact h.pageStateAtOrigin _
  · exact h.offer _

theorem mem_of_weakestWaiting {q : List Paged} {c : Paged} (h : weakestWaiting q = some c) : c ∈ q :=
  (List.mem_filter.1 (List.mem_of_find?_eq_some h)).1

theorem Within.serveCall (h : Within m 24 s) (origin : Nat) (b : PageCallBody) : Within m 24 (serveCall origin b s) := by
  have htaken {u : State} (hu : Within m 23 u) : Within m 24 (Machine.arbitrate (Machine.takePaged origin b u)) :=
    (hu.takePaged origin b).arbitrate
  unfold Machine.serveCall
  split
  · split
    · split
      · exact h.tellOrigin _ _ _
      · exact h.tellOrigin _ _ _
    · split
      · exact h
      · split
        · next hroom => exact htaken (h.tighten h.calls (Nat.le_of_lt_succ hroom))
        · split
          · next c hc =>
            split
            · exact htaken (h.finishPaged_frees (mem_of_weakestWaiting hc) _ _)
            · exact h.dropPaged _ _
          · exact h.dropPaged _ _
  · exact h

/-! ## Raising a call (R162 to R164) -/

theorem Within.broadcast (h : Within m 24 s) (c : Call) : Within m 24 (broadcast c s) :=
  ((h.updateCall _ _).offer _).serveCall _ _

theorem Within.enterCall (h : Within m 24 s) (r : CallReason) (subject : Nat) (group : Option Nat) (urgency : Nat) :
    Within (m + 1) 24 (enterCall r subject group urgency s) := by
  have hentered (c : Call) (k : Nat) :
      Within (m + 1) 24 (s.setPaging { s.paging with calls := s.paging.calls ++ [c], nextNumber := k }) :=
    h.setPaging (by simpa using h.calls) h.paged
  unfold Machine.enterCall
  dsimp only
  split
  · exact (hentered _ _).pushReport _
  · exact (hentered _ _).broadcast _

/-- Room is made for one call more (R161, R162). -/
theorem Within.makeRoom (h : Within 16 24 s) {urgency : Nat} {t : State} (ht : makeRoom urgency s = some t) :
    Within 15 24 t := by
  unfold Machine.makeRoom at ht
  split at ht
  · next hroom =>
    cases ht
    exact h.tighten (Nat.le_of_lt_succ hroom) h.paged
  · split at ht
    · next v hv =>
      split at ht
      · cases ht
        exact (h.withdrawCall_frees (List.mem_of_find?_eq_some hv)).pushReport _
      · cases ht
    · cases ht

theorem Within.raiseCall (h : Within 16 24 s) (r : CallReason) (subject : Nat) :
    Within 16 24 (raiseCall r subject s) := by
  unfold Machine.raiseCall
  split
  · exact h
  · split
    · next t ht => exact (h.makeRoom ht).enterCall _ _ _ _
    · exact h.pushReport _

theorem Within.cancelCall (h : Within m n s) (r : CallReason) (subject : Nat) : Within m n (cancelCall r subject s) := by
  unfold Machine.cancelCall
  split
  · exact h.withdrawCall _
  · exact h

/-! ## The modem and the all-call (R174 to R179) -/

theorem Within.pageSent (h : Within m n s) (c : Paged) (address : Nat) : Within m n (pageSent c address s) := by
  unfold Machine.pageSent
  split
  · exact h.updatePaged _ _
  · exact (h.updatePaged _ _).tellOrigin _ _ _

theorem Within.pageBusy (h : Within m n s) (c : Paged) : Within m n (pageBusy c s) := by
  unfold Machine.pageBusy
  split
  · exact h.updatePaged _ _
  · exact h.finishPaged _ _ _

theorem Within.sendResult (h : Within m n s) (tag address : Nat) (r : ModemResult) :
    Within m n (sendResult tag address r s) := by
  unfold Machine.sendResult
  split
  · exact h
  · cases r with
    | sent => exact h.pageSent _ _
    | busy => exact h.pageBusy _
    | fault => exact h.finishPaged _ _ _

theorem Within.allResult (h : Within m n s) (r : ModemResult) : Within m n (allResult r s) := by
  unfold Machine.allResult
  split
  · exact doWhen_of _ h (h.sameLists rfl rfl)
  · exact h

theorem Within.recordResult (h : Within m n s) (rec : OutRecord) (r : ModemResult) : Within m n (recordResult rec r s) := by
  cases rec with
  | send tag address reason subject urgency => exact h.sendResult _ _ _
  | all mask seconds => exact h.allResult _

theorem Within.failAll (h : Within m n s) (cs : List Paged) : Within m n (failAll cs s) := by
  induction cs generalizing s with
  | nil => exact h
  | cons c cs ih => exact ih (h.finishPaged c 4 1)

theorem Within.radioGoesDown (h : Within m n s) : Within m n (radioGoesDown s) := by
  refine Within.pushReport (Within.failAll ?_ _) _
  exact h.sameLists rfl rfl

theorem Within.noteFailure (h : Within m n s) : Within m n (noteFailure s) :=
  doWhen_of _ (h.sameLists rfl rfl) (Within.radioGoesDown (h.sameLists rfl rfl))

theorem Within.countResult (h : Within m n s) (r : ModemResult) : Within m n (countResult r s) := by
  cases r with
  | fault => exact h.noteFailure
  | sent => exact h.sameLists rfl rfl
  | busy => exact h.sameLists rfl rfl

theorem Within.settleRecord (h : Within m n s) (rec : OutRecord) (r : ModemResult) : Within m n (settleRecord rec r s) :=
  Within.arbitrate (Within.countResult (Within.recordResult (s := endWait s) (h.sameLists rfl rfl) _ _) _)

theorem Within.endAllCall (h : Within m n s) (timed : Bool) : Within m n (endAllCall timed s) := by
  refine Within.arbitrate (Within.pushReport ?_ _)
  exact h.sameLists rfl rfl

theorem Within.startAllCall (h : Within m n s) (sec : Nat) : Within m n (startAllCall sec s) :=
  Within.arbitrate (h.sameLists rfl rfl)

theorem Within.broadcastExpiry (h : Within m 24 s) (k : Nat) : Within m 24 (broadcastExpiry k s) := by
  unfold Machine.broadcastExpiry
  split
  · exact h
  · split
    · exact h.endCall _ _
    · exact h.broadcast _

theorem Within.resultMissing (h : Within m n s) : Within m n (resultMissing s) := by
  unfold Machine.resultMissing
  split
  · exact h.settleRecord _ _
  · exact h

theorem Within.recordSent (h : Within m n s) : Within m n (recordSent s) := by
  unfold Machine.recordSent
  split
  · exact doWhen_of _ h (h.sameLists rfl rfl)
  · exact h

theorem Within.takeResult (h : Within m n s) (tag : Nat) (r : ModemResult) : Within m n (takeResult tag r s) := by
  unfold Machine.takeResult
  split
  · exact doWhen_of _ h (h.settleRecord _ _)
  · exact h

theorem Within.movePointer (h : Within m n s) (address : Nat) : Within m n (movePointer address s) := by
  unfold Machine.movePointer
  split
  · exact h
  · split
    · exact h
    · exact h.sameLists rfl rfl

theorem Within.takeAck (h : Within m n s) (address tag : Nat) : Within m n (takeAck address tag s) := by
  unfold Machine.takeAck
  split
  · exact h
  · exact (h.finishPaged _ _ _).movePointer _

theorem Within.takeDuty (h : Within m n s) (address : Nat) (on : Bool) : Within m n (takeDuty address on s) := by
  unfold Machine.takeDuty
  split
  · exact h.sameLists rfl rfl
  · exact h

theorem Within.takeReady (h : Within m n s) : Within m n (takeReady s) := by
  unfold Machine.takeReady
  dsimp only
  split
  · exact h.sameLists rfl rfl
  · have hcleared : Within m n (clearFailures s) := h.sameLists rfl rfl
    refine Within.arbitrate (Within.pushReport ?_ _)
    exact hcleared.sameLists rfl rfl

end Sys2Proof.Machine
end

section
/-! The capacities of the lists along the operations of each chapter: the grant, holds and loads, the dish line, waves, peers
and the controller (R42 to R53, R100, R129, R132, R145). -/

namespace Sys2Proof.Machine

variable {m n : Nat} {s : State}

theorem Within.foldl {α : Type} {f : State → α → State} (hf : ∀ s a, Within m n s → Within m n (f s a)) (h : Within m n s)
    (xs : List α) : Within m n (xs.foldl f s) := by
  induction xs generalizing s with
  | nil => exact h
  | cons x xs ih => exact ih (hf s x h)

/-! ## Grants and the share unit (chapters 2 and 5) -/

theorem Within.takeGrant (h : Within m n s) (g : Nat) : Within m n (takeGrant g s) := by
  have hset : Within m n (s.setHeat { s.heat with grant := g }) := h.frame (s.setHeat_frame _)
  unfold Machine.takeGrant
  dsimp only
  split
  · unfold cut
    dsimp only
    split
    · exact hset.frame (setChannels_frame _ _)
    · refine Within.pushReport ?_ _
      exact hset.frame (State.setHeat_frame _ _)
  · exact hset

theorem Within.deliverGrant (h : Within m n s) : Within m n (deliverGrant s) := by
  refine Within.takeGrant ?_ _
  exact h.frame (s.setShare_frame _)

theorem Within.changeStation (h : Within m n s) (dest : Station) (cause : StationCause) :
    Within m n (changeStation dest cause s) := by
  refine Within.pushReport ?_ _
  exact h.frame (s.setLife_frame _)

theorem Within.startClocks (h : Within m n s) : Within m n (startClocks s) := by
  refine Within.setStock ?_ h.holds h.loads
  exact (h.frame (s.setHeat_frame _)).frame (State.setShare_frame _ _)

theorem Within.endListening (h : Within m n s) : Within m n (endListening s) :=
  (h.changeStation _ _).startClocks.deliverGrant

theorem Within.isolate (h : Within 16 24 s) : Within 16 24 (isolate s) :=
  ((h.changeStation _ _).raiseCall _ _).deliverGrant

theorem Within.rejoin (h : Within m n s) : Within m n (rejoin s) := ((h.changeStation _ _).cancelCall _ _).deliverGrant

theorem Within.announceResult (h : Within 16 24 s) (acked : Bool) : Within 16 24 (announceResult acked s) := by
  have hcount (k : Nat) : Within 16 24 (s.setShare { s.share with unacked := k }) := h.frame (s.setShare_frame _)
  unfold Machine.announceResult
  dsimp only
  generalize (if acked = true then 0 else min 255 (s.share.unacked + 1)) = k
  split
  · exact (hcount _).isolate
  · split
    · exact (hcount _).rejoin
    · exact hcount _

theorem Within.offerAnnounce (h : Within m n s) : Within m n (offerAnnounce s) :=
  doWhen_of _ h ((h.offer _).frame (State.setShare_frame _ _))

theorem Within.offerStock (h : Within m n s) : Within m n (offerStock s) :=
  doWhen_of _ h ((h.offer _).setStock h.holds h.loads)

theorem Within.announceTick (h : Within m n s) : Within m n (announceTick s) :=
  have hoffered := (h.frame (formAsks_frame s)).deliverGrant.offerAnnounce
  doWhen_of _ hoffered hoffered.offerStock

theorem Within.stockTick (h : Within m n s) : Within m n (stockTick s) := by
  refine Within.offerStock ?_
  exact h.setStock h.holds h.loads

/-! ## The plate stock unit (chapter 8) -/

theorem Within.changeStock (h : Within m n s) {t : Stock} (hh : t.holds.length ≤ 16)
    (hl : ∀ k : Chan, t.warmers[k].loads.length ≤ 6) : Within m n (changeStock t s) := h.setStock hh hl

/-- A change of the hold table that gives it no new hold. -/
theorem Within.changeHolds (h : Within m n s) {hs : List Hold} (hh : hs.length ≤ s.stock.holds.length) :
    Within m n (Machine.changeStock { s.stock with holds := hs } s) := h.changeStock (hh.trans h.holds) h.loads

theorem loads_setWarmer {t : Stock} {k : Chan} {w : Warmer} (hw : w.loads.length ≤ 6)
    (hl : ∀ j : Chan, t.warmers[j].loads.length ≤ 6) (j : Chan) : (setWarmer k w t).warmers[j].loads.length ≤ 6 := by
  by_cases hj : j = k
  · subst hj
    rwa [warmer_setWarmer_same]
  · rw [warmer_setWarmer_other hj]
    exact hl j

/-- A change of one channel's load list. -/
theorem Within.changeWarmer (h : Within m n s) (k : Chan) {w : Warmer} (hw : w.loads.length ≤ 6) :
    Within m n (Machine.changeStock (setWarmer k w s.stock) s) := h.changeStock h.holds (loads_setWarmer hw h.loads)

theorem Within.publishClean (h : Within m n s) : Within m n (publishClean s) := h.setStock h.holds h.loads

theorem Within.renewHold (h : Within m n s) (x : Hold) (asker : Nat) (b : HoldAskBody) :
    Within m n (renewHold x asker b s).1 := by
  unfold Machine.renewHold
  dsimp only
  split
  · exact h.changeHolds (List.length_filter_le _ _)
  · exact h.changeHolds (List.length_map _).le

theorem Within.createHold (h : Within m n s) (hroom : s.stock.holds.length < 16) (k : Chan) (asker : Nat)
    (b : HoldAskBody) : Within m n (createHold k asker b s).1 := by
  unfold Machine.createHold
  dsimp only
  split
  · exact h
  · refine h.changeStock ?_ h.loads
    simpa using hroom

theorem Within.askHold (h : Within m n s) (asker : Nat) (b : HoldAskBody) : Within m n (askHold asker b s).1 := by
  unfold Machine.askHold
  dsimp only
  split
  · exact h
  · split
    · exact h
    · split
      · exact h.renewHold _ _ _
      · split
        · exact h
        · next hroom => exact h.createHold (Nat.lt_of_not_le hroom) _ _ _

theorem Within.freeHold (h : Within m n s) (asker tag wave channel : Nat) :
    Within m n (freeHold asker tag wave channel s) := h.changeHolds (List.length_filter_le _ _)

theorem Within.sendFree (h : Within m n s) (station tag wave channel : Nat) :
    Within m n (sendFree station tag wave channel s) := by
  unfold Machine.sendFree
  split
  · exact h.freeHold _ _ _ _
  · exact h.offer _

theorem Within.updateWave (h : Within m n s) (k : Nat) (f : Wave → Wave) : Within m n (updateWave k f s) :=
  h.setWaves ((List.length_map _).trans_le h.waves)

theorem Within.takeAnswer (h : Within m n s) (sender : Nat) (b : HoldAnswerBody) : Within m n (takeAnswer sender b s) := by
  unfold Machine.takeAnswer
  split
  · exact doWhen_of _ (h.updateWave _ _) ((h.updateWave _ _).pushReport _)
  · exact doWhen_of _ h (h.sendFree _ _ _ _)

theorem Within.takeHoldState (h : Within m n s) (sender : Nat) (b : HoldStateBody) :
    Within m n (takeHoldState sender b s) := by
  unfold Machine.takeHoldState
  split
  · exact h.updateWave _ _
  · exact h

theorem Within.tellAsker (h : Within m n s) (x : Hold) (cause count : Nat) : Within m n (tellAsker x cause count s) := by
  unfold Machine.tellAsker
  dsimp only
  split
  · exact h.takeHoldState _ _
  · exact h.offer _

theorem Within.answerPeer (h : Within m n s) (sender : Nat) (b : HoldAskBody) : Within m n (answerPeer sender b s) :=
  (h.askHold sender b).offer _

theorem Within.goneNotice (h : Within m n s) (id : Nat) : Within m n (goneNotice id s) := by
  refine Within.setWaves ?_ ((List.length_map _).trans_le h.waves)
  exact h.changeHolds (List.length_filter_le _ _)

theorem coolStep_loads (cold : Bool) (w : Warmer) : (coolStep cold w).loads = w.loads := by
  unfold coolStep
  split <;> rfl

theorem Within.sweepWarmer (h : Within m n s) (k : Chan) : Within m n (sweepWarmer k s) := by
  unfold Machine.sweepWarmer
  split
  · refine h.changeWarmer k ?_
    rw [coolStep_loads]
    split
    · exact (List.length_map _).trans_le (h.loads k)
    · exact h.loads k
  · exact h

theorem Within.sweepStock (h : Within m n s) : Within m n (sweepStock s) := h.foldl (fun _ k ht => ht.sweepWarmer k) _

theorem setHoldCount_length (tag count : Nat) (hs : List Hold) : (setHoldCount tag count hs).length ≤ hs.length := by
  unfold setHoldCount
  split
  · exact List.length_filter_le _ _
  · exact (List.length_map _).le

theorem Within.trimHolds (hs : List Hold) (excess : Nat) {r : Nat × State} (h : Within m n r.2) :
    Within m n (trimHolds hs excess r).2 := by
  induction hs generalizing excess r with
  | nil => exact h
  | cons x xs ih =>
    unfold Machine.trimHolds
    dsimp only
    split
    · exact ih _ h
    · refine ih _ ?_
      exact (h.changeHolds (setHoldCount_length _ _ _)).tellAsker _ _ _

theorem Within.coolingReset (h : Within m n s) (k : Chan) : Within m n (coolingReset k s) := by
  have huncredit : Within m n (uncredit k s) := h.changeWarmer k (by simpa using h.loads k)
  have htrim : Within m n (trimChannel k (uncredit k s)).2 := Within.trimHolds _ _ huncredit
  exact doWhen_of _ htrim (htrim.pushReport _)

theorem removePlates_length (p : Profile) (k : Chan) (i : Nat) (ls : List Load) :
    (removePlates p k i ls).length ≤ ls.length := by
  induction ls generalizing i with
  | nil => exact Nat.le_refl _
  | cons l ls ih =>
    unfold removePlates
    dsimp only
    split
    · split
      · exact (ih _).trans (Nat.le_succ _)
      · exact Nat.succ_le_succ (ih _)
    · exact Nat.succ_le_succ (ih _)

theorem loads_withoutPlates (h : Within m n s) (k : Chan) (i : Nat) (j : Chan) :
    (withoutPlates s.profile k i s.stock).warmers[j].loads.length ≤ 6 :=
  loads_setWarmer (w := { s.stock.warmers[k] with loads := removePlates s.profile k i s.stock.warmers[k].loads })
    ((removePlates_length _ _ _ _).trans (h.loads k)) h.loads j

theorem Within.expireHold (h : Within m n s) (tag : Nat) : Within m n (expireHold tag s) := by
  unfold Machine.expireHold
  split
  · exact h
  · exact (h.changeHolds (List.length_filter_le _ _)).tellAsker _ _ _

theorem Within.warmerDoorState (h : Within m n s) (k : Chan) (opened : Bool) : Within m n (warmerDoorState k opened s) :=
  h.setStock h.holds (loads_setWarmer (w := { s.stock.warmers[k] with doorOpen := opened }) (h.loads k) h.loads)

/-! ## The dish line (chapter 7) -/

theorem Within.updateDish (h : Within m n s) {f : Dish → Dish} (hf : (f s.dish).racks.length ≤ 12) :
    Within m n (updateDish f s) := h.setDish hf

theorem Within.updateHolds (h : Within m n s) (f : HoldSet → HoldSet) : Within m n (updateHolds f s) :=
  h.updateDish h.racks

theorem Within.dishEvent (h : Within m n s) {f : State → State} (hf : ∀ t, Within m n t → Within m n (f t)) :
    Within m n (dishEvent f s) :=
  have hdone := hf s h
  (doWhen_of _ hdone (hdone.updateDish (f := fun d => { d with jamTimer := 0 }) hdone.racks)).publishClean

theorem Within.register (h : Within m n s) : Within m n (register s) := by
  cases hm : mayRegister s.dish with
  | false =>
    rw [Machine.register, hm]
    exact h
  | true =>
    have hroom : s.dish.racks.length < 12 := of_decide_eq_true (Bool.and_eq_true_iff.1 hm).1
    rw [Machine.register, hm, doWhen_true]
    refine h.updateDish ?_
    simpa using hroom

theorem Within.endRinse (h : Within m n s) : Within m n (endRinse s) := by
  refine Within.cancelCall ?_ _ _
  exact h.updateDish h.racks

theorem Within.judgeRinse (h : Within m n s) (booster : Temp) (flag : Bool) : Within m n (judgeRinse booster flag s) := by
  unfold Machine.judgeRinse
  split
  · exact h
  · split
    · exact h.updateHolds _
    · split
      · exact h.endRinse
      · exact h

theorem Within.sampleRacks (h : Within m n s) (tank booster : Temp) (tankFlag boosterFlag : Bool) :
    Within m n (sampleRacks tank booster tankFlag boosterFlag s) := h.setDish ((List.length_map _).trans_le h.racks)

theorem Within.sweepDish (h : Within m n s) : Within m n (sweepDish s) := by
  unfold Machine.sweepDish
  split
  · exact doWhen_of _ h (h.dishEvent fun t ht => (ht.sampleRacks _ _ _ _).judgeRinse _ _)
  · exact h

theorem Within.entryActive (h : Within 16 24 s) : Within 16 24 (entryActive s) := by
  unfold Machine.entryActive
  split
  · exact h
  · split
    · exact (h.updateHolds _).raiseCall _ _
    · exact h.register

theorem Within.releaseEntry (h : Within m n s) : Within m n (releaseEntry s) :=
  have hcleared := (h.updateHolds (fun x => { x with entry := false })).cancelCall .entryFull 0
  doWhen_of _ h (doWhen_of _ hcleared hcleared.register)

theorem Within.removeFront (h : Within m n s) (r : Rack) : Within m n (removeFront r s) := by
  refine Within.releaseEntry ?_
  refine h.updateDish ?_
  have hracks := h.racks
  simp only [List.length_tail]
  omega

theorem racks_of_exitFront {r : Rack} (h : exitFront s = some r) : ∃ rest, s.dish.racks = r :: rest := by
  unfold exitFront at h
  split at h
  · next x rest hr =>
    split at h
    · cases h
      exact ⟨rest, hr⟩
    · cases h
  · cases h

theorem Within.exitActive (h : Within m n s) : Within m n (exitActive s) := by
  unfold Machine.exitActive
  split
  · next r hr =>
    obtain ⟨rest, hracks⟩ := racks_of_exitFront hr
    have hle := h.racks
    refine Within.pushReport ?_ _
    refine h.updateDish ?_
    simpa [hracks] using hle
  · exact h.pushReport _

theorem Within.exitInactive (h : Within m n s) : Within m n (exitInactive s) := by
  unfold Machine.exitInactive
  split
  · exact doWhen_of _ h ((h.updateHolds _).removeFront _)
  · exact h

theorem Within.missExit (h : Within m n s) (r : Rack) : Within m n (missExit r s) := by
  refine Within.pushReport (Within.removeFront ?_ _) _
  exact h.updateDish h.racks

theorem Within.dishPulse (h : Within m n s) : Within m n (dishPulse s) := by
  have hmoved : Within m n (advanceRacks s) := h.updateDish ((List.length_map _).trans_le h.racks)
  have htested : Within m n (testMissed (advanceRacks s)) := by
    unfold testMissed
    split
    · exact hmoved.missExit _
    · exact hmoved
  exact doWhen_of _ htested (htested.updateHolds _)

theorem Within.pulse (h : Within m n s) : Within m n (pulse s) :=
  have hage : Within m n (s.setPulseAge 0) := h.frame (s.setPulseAge_frame 0)
  doWhen_of _ hage (hage.dishEvent fun _ ht => ht.dishPulse)

theorem Within.dishDoor (h : Within m n s) (opened : Bool) : Within m n (dishDoor opened s) := by
  cases opened with
  | true => exact h.setDish ((List.length_map _).trans_le h.racks)
  | false => exact h.setDish h.racks

theorem Within.jam (h : Within 16 24 s) : Within 16 24 (jam s) := by
  refine Within.raiseCall ?_ _ _
  exact h.updateDish h.racks

theorem Within.startDish (h : Within 16 24 s) : Within 16 24 (startDish s) := by
  have hon : Within 16 24 (Machine.updateDish (fun d => { d with mode := .on }) s) := h.updateDish h.racks
  have hentered := doWhen_of (useActive (Machine.updateDish (fun d => { d with mode := .on }) s) .dishEntry) hon
    hon.entryActive
  exact doWhen_of _ hentered (hentered.updateHolds _)

theorem Within.stopDish (h : Within m n s) : Within m n (stopDish s) := by
  refine Within.cancelCall (Within.cancelCall (Within.cancelCall ?_ _ _) _ _) _ _
  exact h.updateDish ((List.length_map _).trans_le h.racks)

theorem Within.resumeDish (h : Within m n s) : Within m n (resumeDish s) := by
  refine Within.cancelCall ?_ _ _
  exact h.updateDish h.racks

/-! ## Trips, sweeps and lines (chapters 1 and 2) -/

theorem Within.trip (h : Within 16 24 s) (k : Chan) (cause : TripCause) : Within 16 24 (trip k cause s) :=
  ((h.frame (updateChannel_frame _ _ s)).pushReport _).raiseCall _ _

theorem Within.tripCheck (h : Within 16 24 s) (entries : Vector Bool 8) (k : Chan) :
    Within 16 24 (tripCheck entries k s) := by
  rw [tripCheck_eq]
  cases tripCause entries k s with
  | none => exact h
  | some cause => exact h.trip k cause

theorem Within.sweep (h : Within 16 24 s) (c : Conversions) : Within 16 24 (sweep c s) := by
  have hscan : Within 16 24 (s.setScan (convertAll c s.scan)) := h.frame (s.setScan_frame _)
  have htrips : Within 16 24 (tripChecks (faultEntries s.scan (convertAll c s.scan)) (s.setScan (convertAll c s.scan))) :=
    hscan.foldl (fun _ k ht => ht.tripCheck _ k) _
  cases hj : joined s with
  | false =>
    rw [sweep_unjoined hj]
    exact hscan
  | true =>
    rw [sweep_joined hj]
    exact htrips.sweepDish.sweepStock

theorem Within.deliverLine (h : Within 16 24 s) (u : LineUse) (on : Bool) : Within 16 24 (deliverLine u on s) := by
  cases u with
  | ovenDoor k => exact h.frame (ovenDoor_frame k on s)
  | warmerDoor k => exact (h.frame (warmerDoorFlag_frame k on s)).warmerDoorState k on
  | dishEntry =>
    cases on
    · exact h
    · exact h.dishEvent fun _ ht => ht.entryActive
  | dishExit =>
    cases on
    · exact h.dishEvent fun _ ht => ht.exitInactive
    · exact h.dishEvent fun _ ht => ht.exitActive
  | dishDoor => exact h.dishEvent fun _ ht => ht.dishDoor on
  | unused => exact h

theorem Within.lineEdge (h : Within 16 24 s) (l : LineNo) : Within 16 24 (lineEdge l s) :=
  have ht := h.frame (updateLine_frame l (fun x => { x with taken := x.pin, debounce := none }) s)
  doWhen_of _ ht (ht.deliverLine _ _)

theorem Within.initialLine (h : Within m n s) (u : LineUse) (on : Bool) : Within m n (initialLine u on s) := by
  cases u with
  | ovenDoor k => exact h.frame (doorInitially_frame k on s)
  | warmerDoor k => exact (h.frame (doorInitially_frame k on s)).warmerDoorState k on
  | dishDoor => exact h.setDish h.racks
  | dishEntry => exact h
  | dishExit => exact h
  | unused => exact h

/-! ## Waves (chapter 9) -/

theorem Within.onWave (h : Within m n s) (k : Nat) {f : Wave → State → State} (hf : ∀ w, Within m n (f w s)) :
    Within m n (onWave k f s) := by
  unfold Machine.onWave
  split
  · exact hf _
  · exact h

theorem Within.sendAsk (h : Within m n s) (second : Bool) (w : Wave) (r : Source) (need : Nat) :
    Within m n (sendAsk second w r need s) := by
  unfold Machine.sendAsk
  dsimp only
  split
  · exact (h.askHold _ _).takeAnswer _ _
  · split
    · exact (h.offer _).updateWave _ _
    · exact h

theorem Within.giveUp (h : Within m n s) (w : Wave) (r : Source) (tag : Nat) : Within m n (giveUp w r tag s) :=
  (h.sendFree _ _ _ _).updateWave _ _

theorem Within.checkSource (h : Within m n s) (second : Bool) (w : Wave) : Within m n (checkSource second w s) := by
  unfold Machine.checkSource
  split
  · exact h
  · dsimp only
    split
    · exact h.sendAsk _ _ _ _
    · split
      · exact doWhen_of _ h (h.giveUp _ _ _)
      · exact h

theorem Within.askSources (h : Within m n s) (k : Nat) : Within m n (askSources k s) :=
  have hfirst := h.onWave k fun w => h.checkSource false w
  hfirst.onWave k fun w => hfirst.checkSource true w

theorem Within.cancelShortage (h : Within m n s) (k : Nat) : Within m n (cancelShortage k s) :=
  (h.cancelCall _ _).cancelCall _ _

theorem Within.waveCovered (h : Within m n s) (w : Wave) : Within m n (waveCovered w s) :=
  have hcancelled := (h.updateWave w.number (fun w => { w with short := false })).cancelShortage w.number
  doWhen_of _ hcancelled (hcancelled.pushReport _)

theorem Within.waveShort (h : Within 16 24 s) (w : Wave) : Within 16 24 (waveShort w s) :=
  have hraised := ((h.updateWave w.number (fun w => { w with short := true })).cancelCall
    (shortageReasons w s).2 w.number).raiseCall (shortageReasons w s).1 w.number
  doWhen_of _ hraised (hraised.pushReport _)

theorem Within.shortageCheck (h : Within 16 24 s) (k : Nat) : Within 16 24 (shortageCheck k s) := by
  have hbegun := h.updateWave k (fun w => { w with shortage := true })
  refine hbegun.onWave k fun w => ?_
  split
  · exact hbegun.waveCovered w
  · exact hbegun.waveShort w

theorem Within.firstShortage (h : Within 16 24 s) (k : Nat) : Within 16 24 (firstShortage k s) :=
  h.onWave k fun _ => doWhen_of _ h (h.shortageCheck k)

theorem Within.writeOvenTarget (h : Within m n s) (w : Wave) : Within m n (writeOvenTarget w s) := by
  have hwritten := h.frame (writeTarget_frame w.oven w.target s)
  unfold Machine.writeOvenTarget
  dsimp only
  split
  · exact hwritten
  · exact hwritten.pushReport _

theorem Within.enterPreheat (h : Within 16 24 s) (k : Nat) : Within 16 24 (enterPreheat k s) := by
  have hstate := h.updateWave k (fun w => { w with state := .preheat, check := some Config.askMs })
  have hasked := (hstate.onWave k fun w => hstate.writeOvenTarget w).askSources k
  exact (hasked.onWave k fun w => hasked.pushReport _).firstShortage k

theorem Within.enterFireDue (h : Within 16 24 s) (k : Nat) : Within 16 24 (enterFireDue k s) :=
  have hraised := (h.updateWave k (fun w => { w with state := .fireDue })).raiseCall .fireDue k
  hraised.onWave k fun _ => hraised.pushReport _

theorem Within.makeLate (h : Within 16 24 s) (k : Nat) : Within 16 24 (makeLate k s) :=
  have hraised := (h.updateWave k (fun w => { w with late := true })).raiseCall .waveLate k
  hraised.onWave k fun _ => hraised.pushReport _

theorem Within.judgeWave (h : Within 16 24 s) (k : Nat) : Within 16 24 (judgeWave k s) := by
  have hpreheat : Within 16 24 (preheatStep k s) := h.onWave k fun _ => doWhen_of _ h (h.enterPreheat k)
  have hfire : Within 16 24 (fireDueStep k (preheatStep k s)) :=
    hpreheat.onWave k fun _ => doWhen_of _ hpreheat (hpreheat.enterFireDue k)
  have hlate : Within 16 24 (lateStep k (fireDueStep k (preheatStep k s))) :=
    hfire.onWave k fun _ => doWhen_of _ hfire (hfire.makeLate k)
  rw [judgeWave_eq]
  exact hlate.firstShortage k

theorem Within.clockSecond (h : Within 16 24 s) : Within 16 24 (clockSecond s) := by
  refine Within.foldl (fun _ k ht => ht.judgeWave k) ?_ _
  exact h.frame (s.setLife_frame _)

theorem Within.cookEnds (h : Within 16 24 s) (k : Nat) : Within 16 24 (cookEnds k s) :=
  have hraised := (h.updateWave k (fun w => { w with state := .done })).raiseCall .waveDone k
  hraised.onWave k fun _ => hraised.pushReport _

theorem Within.cookSecond (h : Within 16 24 s) (k : Nat) : Within 16 24 (cookSecond k s) :=
  h.onWave k fun _ => doWhen_of _ (h.updateWave _ _) ((h.updateWave _ _).cookEnds k)

theorem Within.askCheck (h : Within 16 24 s) (k : Nat) : Within 16 24 (askCheck k s) :=
  have hasked := (h.updateWave k (fun w => { w with check := some Config.askMs })).askSources k
  hasked.onWave k fun _ => doWhen_of _ hasked (hasked.shortageCheck k)

theorem Within.reportFired (h : Within m n s) (k : Nat) (before : WaveState) : Within m n (reportFired k before s) :=
  h.onWave k fun _ => h.pushReport _

theorem Within.startCooking (h : Within m n s) (k : Nat) : Within m n (startCooking k s) := h.updateWave _ _

theorem Within.fireFromPlanned (h : Within 16 24 s) (w : Wave) : Within 16 24 (fireFromPlanned w s) :=
  (((((h.writeOvenTarget w).startCooking _).updateWave _ _).askSources _).reportFired _ _).firstShortage _

theorem Within.plateWave (h : Within m n s) (w : Wave) : Within m n (plateWave w s) :=
  ((((h.updateWave _ _).cancelCall _ _).cancelShortage _).pushReport _)

theorem Within.freeSource (h : Within m n s) (k : Nat) (r : Source) : Within m n (freeSource k r s) := by
  unfold Machine.freeSource
  split
  · exact h.sendFree _ _ _ _
  · exact h

theorem Within.freeSources (h : Within m n s) (w : Wave) : Within m n (freeSources w s) := by
  unfold Machine.freeSources
  dsimp only
  split
  · exact (h.freeSource _ _).freeSource _ _
  · exact h.freeSource _ _

theorem Within.dropWave (h : Within m n s) (k : Nat) : Within m n (dropWave k s) :=
  h.setWaves ((List.length_filter_le _ _).trans h.waves)

theorem Within.closeWave (h : Within m n s) (w : Wave) : Within m n (closeWave w s) :=
  (((((h.freeSources w).cancelCall _ _).cancelCall _ _).cancelShortage _).pushReport _).dropWave _

theorem Within.cancelWave (h : Within m n s) (w : Wave) : Within m n (cancelWave w s) :=
  ((((((h.freeSources w).cancelCall _ _).cancelCall _ _).cancelCall _ _).cancelShortage _).pushReport _).dropWave _

theorem insertWave_length (w : Wave) (ws : List Wave) : (insertWave w ws).length = ws.length + 1 := by
  induction ws with
  | nil => rfl
  | cons x xs ih =>
    unfold insertWave
    split
    · rfl
    · rw [List.length_cons, ih, List.length_cons]

/-! ## The peer table (chapter 4) -/

theorem Within.announceAtTable (h : Within m n s) (sender : Nat) (b : AnnounceBody) :
    Within m n (announceAtTable sender b s) := by
  unfold Machine.announceAtTable
  split
  · unfold peerLeaves
    split
    · exact ((h.frame (dropPeer_frame _ s)).goneNotice _).pushReport _
    · exact h.goneNotice _
  · split
    · exact h.frame (s.setPeers_frame _)
    · split
      · exact ((h.frame (updatePeer_frame _ _ s)).goneNotice _).pushReport _
      · exact h.frame (updatePeer_frame _ _ s)

theorem Within.removeSilent (h : Within m n s) (id : Nat) : Within m n (removeSilent id s) := by
  unfold Machine.removeSilent
  split
  · exact ((h.frame (dropPeer_frame _ s)).goneNotice _).pushReport _
  · exact h

/-! ## The controller (chapter 3) -/

theorem Within.updateBus (h : Within m n s) {f : Bus → Bus} (hf : occupied (f s.bus) ≤ occupied s.bus) :
    Within m n (updateBus f s) := h.setBus (hf.trans h.frames)

theorem Within.fallSilent (h : Within m n s) : Within m n (fallSilent s) := h.updateBus (Nat.le_refl _)

theorem Within.driveSlot (h : Within m n s) (dominant : Bool) : Within m n (driveSlot dominant s) :=
  h.updateBus (Nat.le_refl _)

theorem Within.frameEnded (h : Within 16 24 s) (e : TxEntry) (acked : Bool) : Within 16 24 (frameEnded e acked s) := by
  unfold Machine.frameEnded
  split
  · exact h.fallSilent
  · refine doWhen_of _ h ?_
    unfold deliverResult
    split
    · exact h.announceResult acked
    · exact h

theorem Within.endOnLine (h : Within 16 24 s) (acked : Bool) : Within 16 24 (endOnLine acked s) := by
  unfold Machine.endOnLine
  split
  · refine Within.frameEnded (h.updateBus ?_) _ _
    simp [occupied]
  · exact h

/-- The head frame moves from the queue to the line, or ends (R42, R46). -/
theorem Within.startHead (h : Within 16 24 s) : Within 16 24 (startHead s) := by
  unfold Machine.startHead
  split
  · next e rest hw ho =>
    split
    · refine Within.frameEnded (h.updateBus ?_) _ _
      simp [occupied, hw]
    · refine h.updateBus ?_
      simp [occupied, hw, ho]
  · exact h

theorem Within.findStuck (h : Within m n s) : Within m n (findStuck s) :=
  have hset : Within m n (Machine.updateBus (fun b => { b with stuck := true }) s) := h.updateBus (Nat.le_refl _)
  doWhen_of _ hset (hset.pushReport _)

theorem Within.findClear (h : Within m n s) : Within m n (findClear s) :=
  have hset : Within m n (Machine.updateBus (fun b => { b with stuck := false }) s) := h.updateBus (Nat.le_refl _)
  doWhen_of _ hset (hset.pushReport _)

theorem Within.dropLeaving (h : Within m n s) : Within m n (dropLeaving s) := by
  refine Within.fallSilent (h.updateBus ?_)
  have hle := List.length_filter_le (fun e : TxEntry => !isLeaving e.frame) s.bus.waiting
  simp only [occupied]
  omega

theorem Within.frameReturned (h : Within m n s) (f : Frame) : Within m n (frameReturned f s) := by
  unfold Machine.frameReturned
  split
  · refine h.onWave _ fun w => ?_
    split
    · exact h.updateWave _ _
    · exact h
  · exact h.setStock h.holds h.loads
  · exact h

theorem Within.returnFrames (h : Within m n s) : Within m n (returnFrames s) := by
  refine Within.foldl (fun _ e ht => ht.frameReturned e.frame) (h.setBus ?_) _
  have hle := (occupied_requeue s.bus).trans h.frames
  simp only [occupied, List.length_nil] at hle ⊢
  omega

theorem Within.duplicateEvent (h : Within m n s) (kind : Nat) : Within m n (duplicateEvent kind s) := by
  have hreturned := (h.changeStation .duplicate (.duplicateId kind)).returnFrames
  have hsilenced : Within m n (silenced kind s) :=
    Within.frame (doWhen_of _ hreturned (hreturned.cancelCall _ _)) (State.setShare_frame _ _)
  refine doWhen_of _ h ?_
  rw [enterDuplicate_eq]
  exact (doWhen_of _ hsilenced hsilenced.startClocks).deliverGrant

theorem Within.receive (h : Within m n s) (sender kind : Nat) (delivered : Bool) {f : State → State}
    (hf : ∀ t, Within m n t → Within m n (f t)) : Within m n (receive sender kind delivered f s) := by
  unfold Machine.receive
  split
  · exact h
  · split
    · exact h.driveSlot _
    · split
      · exact (h.driveSlot _).duplicateEvent kind
      · exact doWhen_of _ (h.driveSlot _) (hf _ (h.driveSlot _))

theorem Within.receiveWorking (h : Within m n s) (sender kind : Nat) {f : State → State}
    (hf : ∀ t, Within m n t → Within m n (f t)) : Always (Within m n) (receiveWorking sender kind f s) :=
  .event h (h.receive sender kind _ hf)

/-! ## Reset, JOIN and LEAVE (chapter 6) -/

/-- A state whose lists are empty is within every capacity. -/
theorem within_empty (hr : s.port.reports = []) (hf : occupied s.bus ≤ 8) (hk : s.dish.racks = [])
    (hs : s.stock = Stock.initial) (hw : s.waves = []) (hc : s.paging.calls = []) (hq : s.paging.queue = []) :
    Within m n s where
  reports := by simp [hr]
  frames := hf
  racks := by simp [hk]
  holds := by simp [hs, Stock.initial]
  loads k := by
    rw [hs]
    simp [Stock.initial, Warmer.initial]
  waves := by simp [hw]
  calls := by simp [hc]
  paged := by simp [hq]

theorem within_resetBlocks (r : Resetting) (s : State) : Within m n (resetBlocks r s) :=
  within_empty rfl (Nat.zero_le _) rfl rfl rfl rfl rfl

theorem Within.joinStation (h : Within 16 24 s) : Within 16 24 (joinStation s) := by
  have hblank : Within 16 24 (joinBlank s) := by
    refine { within_empty (m := 16) (n := 24) (s := (joinBlank s).setPort Port.initial) rfl (Nat.zero_le _) rfl rfl rfl rfl rfl with
      reports := ?_ }
    rw [(joinBlank_frame s).port]
    exact h.reports
  have hlines : Within 16 24 (initialLines (joinBegun s)) :=
    (hblank.pushReport _).foldl (fun _ l ht => ht.initialLine _ _) _
  have htrips : Within 16 24 (joinTripped s) := hlines.foldl (fun t k ht => by
    split
    · exact ht.trip k .sensor
    · exact ht) _
  rw [joinStation_eq_deliverGrant]
  exact htrips.deliverGrant

theorem occupied_leaveBus (s : State) : occupied (leaveBus s) ≤ 8 := by
  unfold leaveBus occupied
  split
  · split <;> simp
  · simp

theorem within_leaveBlocks (s : State) : Within m n (leaveBlocks s) :=
  within_empty rfl (occupied_leaveBus s) rfl rfl rfl rfl rfl

end Sys2Proof.Machine
end

section
/-! Every command and every step keeps the capacities of the lists. -/

namespace Sys2Proof.Machine

variable {s : State}

/-! ## The wrappers of the commands -/

theorem Within.endTransaction {m n : Nat} (h : Within m n s) : Within m n (endTransaction s) := h.setPort h.reports

theorem Within.setReply {m n : Nat} (h : Within m n s) (r : Reply) : Within m n (setReply r s) := h.setPort h.reports

/-- A panel command keeps the capacities if its body does: the reply takes no place in the report queue. -/
theorem Within.panel {code : Nat} {body : State → Except Reason Done} (h : Within 16 24 s)
    (hb : ∀ t, Within 16 24 t → Yields (Within 16 24) (body t)) : Always (Within 16 24) (panel code body s) := by
  refine .next ?_
  split
  · exact h.endTransaction
  · cases hr : body (Machine.endTransaction s) with
    | error e => exact h.endTransaction.setReply _
    | ok d => exact (hb _ h.endTransaction d hr).setReply _

theorem Within.accepted (h : Within 16 24 s) (clamped : Bool) : Yields (Within 16 24) (accepted s clamped) := .ok h

theorem Within.modemRecord (h : Within 16 24 s) {f : State → State} (hf : ∀ t, Within 16 24 t → Within 16 24 (f t)) :
    Always (Within 16 24) (modemRecord f s) := by
  have hstop : Within 16 24 (stopCollecting s) := h.sameLists rfl rfl
  exact .event h (doWhen_of _ hstop (hf _ hstop))

theorem Within.restart (h : Within 16 24 s) (p : List Word) : Always (Within 16 24) (execRestart p s) := by
  refine .next ?_
  split
  · exact h.endTransaction
  · cases p with
    | nil => exact within_resetBlocks _ _
    | cons w ws => exact h.endTransaction.setReply _

/-! ## The bodies of the panel commands -/

theorem Within.heatable {t : State} (ht : Within 16 24 t) (k : Chan) (clamped : Bool) :
    Yields (Within 16 24) (heatable k s (Machine.accepted t clamped)) :=
  .ite (fun _ => .error _) fun _ => .ite (fun _ => .error _) fun _ => ht.accepted clamped

theorem Within.heatCommand (h : Within 16 24 s) (p : List Word) : Yields (Within 16 24) (heatCommand p s) := by
  unfold Machine.heatCommand
  split
  · exact .checked fun _ => (h.frame (updateChannel_frame _ _ s)).heatable _ _
  · exact .error _

theorem Within.heatOffCommand (h : Within 16 24 s) (p : List Word) : Yields (Within 16 24) (heatOffCommand p s) :=
  .oneId fun _ => (h.frame (updateChannel_frame _ _ s)).heatable _ _

theorem Within.channelClearCommand (h : Within 16 24 s) (p : List Word) :
    Yields (Within 16 24) (channelClearCommand p s) := by
  refine .oneId fun n => .ite (fun _ => .error _) fun _ => ?_
  split
  · exact .ite (fun _ => ((h.frame (updateChannel_frame _ _ s)).cancelCall _ _).accepted _) fun _ => .error _
  · exact .error _

theorem Within.profilePutCommand (h : Within 16 24 s) (p : List Word) : Yields (Within 16 24) (profilePutCommand p s) := by
  unfold Machine.profilePutCommand
  split
  · exact .checked fun _ => (h.frame (storeItem_frame _ _ _ s)).accepted _
  · exact .error _

theorem Within.joinCommand (h : Within 16 24 s) (p : List Word) : Yields (Within 16 24) (joinCommand p s) := by
  refine .plain fun _ => ?_
  split
  · exact .error _
  · exact h.joinStation.accepted _

theorem leaveCommand_within (p : List Word) (s : State) : Yields (Within 16 24) (leaveCommand p s) :=
  .plain fun _ => ((within_leaveBlocks s).changeStation _ _).accepted _

theorem Within.setClockCommand (h : Within 16 24 s) (p : List Word) : Yields (Within 16 24) (setClockCommand p s) := by
  unfold Machine.setClockCommand
  split
  · exact .checked fun _ => .ok (h.frame (s.setLife_frame _))
  · exact .error _

/-- A command of the dish line, which is refused without one (R98). -/
theorem yields_dishOnly {P : State → Prop} {owner : Except Reason Done} (ho : Yields P owner) :
    Yields P (dishOnly s owner) := .ite (fun _ => ho) fun _ => .error _

theorem Within.dishOnCommand (h : Within 16 24 s) (p : List Word) : Yields (Within 16 24) (dishOnCommand p s) := by
  refine .plain fun _ => yields_dishOnly ?_
  split
  · exact (h.dishEvent fun _ ht => ht.startDish).accepted _
  · exact h.accepted _
  · exact .error _

theorem Within.dishOffCommand (h : Within 16 24 s) (p : List Word) : Yields (Within 16 24) (dishOffCommand p s) :=
  .plain fun _ => yields_dishOnly (.ite (fun _ => h.accepted _) fun _ =>
    (h.dishEvent fun _ ht => ht.stopDish).accepted _)

theorem Within.dishSpeedCommand (h : Within 16 24 s) (p : List Word) : Yields (Within 16 24) (dishSpeedCommand p s) :=
  .oneNumber fun _ => yields_dishOnly (.ok (h.setDish h.racks))

theorem Within.dishResumeCommand (h : Within 16 24 s) (p : List Word) : Yields (Within 16 24) (dishResumeCommand p s) :=
  .plain fun _ => yields_dishOnly (.ite (fun _ => (h.dishEvent fun _ ht => ht.resumeDish).accepted _) fun _ => .error _)

theorem Within.nextRackCommand (h : Within 16 24 s) (p : List Word) : Yields (Within 16 24) (nextRackCommand p s) :=
  .oneNumber fun _ => yields_dishOnly (.ok (h.setDish h.racks))

theorem Within.pickupCommand (h : Within 16 24 s) (p : List Word) : Yields (Within 16 24) (pickupCommand p s) :=
  .oneNumber fun _ => yields_dishOnly ((h.dishEvent fun _ ht => ht.updateDish ht.racks).accepted _)

/-- A LOAD adds a load where there is room for one, and otherwise at most merges into the last (R129). -/
theorem Within.putPlates (h : Within 16 24 s) (k : Chan) (n : Nat) (clamped : Bool) :
    Yields (Within 16 24) (putPlates k n clamped s) := by
  refine .ite (fun _ => .error _) fun _ => .ite (fun hroom => .ok (h.changeWarmer k ?_)) fun _ => ?_
  · rw [List.length_append, List.length_singleton]
    exact hroom
  · split
    · next l hl =>
      refine .ite (fun _ => .error _) fun _ => .ok (h.changeWarmer k ?_)
      have hpos : 0 < s.stock.warmers[k].loads.length := List.length_pos_of_mem (List.mem_of_getLast? hl)
      have hle := h.loads k
      rw [List.length_append, List.length_singleton, List.length_dropLast]
      omega
    · exact .error _

theorem Within.loadCommand (h : Within 16 24 s) (p : List Word) : Yields (Within 16 24) (loadCommand p s) := by
  unfold Machine.loadCommand
  split
  · exact .checked fun _ => .ite (fun _ => h.putPlates _ _ _) fun _ => .error _
  · exact .error _

theorem Within.takeTagged (h : Within 16 24 s) (k : Chan) (asked : Nat) (clamped : Bool) (tag : Nat) :
    Yields (Within 16 24) (takeTagged k asked clamped tag s) := by
  unfold Machine.takeTagged
  split
  · exact .error _
  · refine .ok (Within.tellAsker ?_ _ _ _)
    exact h.changeStock ((setHoldCount_length _ _ _).trans h.holds) (loads_withoutPlates h k _)

theorem Within.takeCommand (h : Within 16 24 s) (p : List Word) : Yields (Within 16 24) (takeCommand p s) := by
  unfold Machine.takeCommand
  split
  · exact .checked fun _ => .ite (fun _ => .ok (h.changeStock h.holds (loads_withoutPlates h _ _))) fun _ => .error _
  · exact .checked fun _ => .ite (fun _ => h.takeTagged _ _ _ _) fun _ => .error _
  · exact .error _

theorem Within.planCommand (h : Within 16 24 s) (q : PlanWords) : Yields (Within 16 24) (planCommand q s) := by
  refine .checked fun _ => .ite (fun _ => .error _) fun _ => .ite (fun _ => .error _) fun hroom =>
    .ite (fun _ => .error _) fun _ => .ite (fun _ => .error _) fun _ => .ok (Within.pushReport ?_ _)
  exact h.setWaves ((insertWave_length _ _).trans_le (Nat.lt_of_not_le hroom))

theorem Within.wavePlanCommand (h : Within 16 24 s) (p : List Word) : Yields (Within 16 24) (wavePlanCommand p s) := by
  unfold Machine.wavePlanCommand
  split
  · exact h.planCommand _
  · exact h.planCommand _
  · exact .error _

theorem Within.waveFireCommand (h : Within 16 24 s) (p : List Word) : Yields (Within 16 24) (waveFireCommand p s) := by
  refine yields_waveCommand fun w => ?_
  split
  · exact .ite (fun _ => .error _) fun _ => (h.fireFromPlanned w).accepted _
  · exact .ite (fun _ => .error _) fun _ => ((h.startCooking _).reportFired _ _).accepted _
  · exact .ite (fun _ => .error _) fun _ => (((h.startCooking _).cancelCall _ _).reportFired _ _).accepted _
  · exact .error _

theorem Within.wavePlateCommand (h : Within 16 24 s) (p : List Word) : Yields (Within 16 24) (wavePlateCommand p s) :=
  yields_waveCommand fun w => .ite (fun _ => (h.plateWave w).accepted _) fun _ => .error _

theorem Within.waveCloseCommand (h : Within 16 24 s) (p : List Word) : Yields (Within 16 24) (waveCloseCommand p s) := by
  refine yields_waveCommand fun w => ?_
  split
  · exact (h.closeWave w).accepted _
  · exact (h.closeWave w).accepted _
  · exact .error _

theorem Within.waveCancelCommand (h : Within 16 24 s) (p : List Word) : Yields (Within 16 24) (waveCancelCommand p s) :=
  yields_waveCommand fun w => (h.cancelWave w).accepted _

theorem Within.pageCommand (h : Within 16 24 s) (p : List Word) : Yields (Within 16 24) (pageCommand p s) := by
  unfold Machine.pageCommand
  split
  · refine .checked fun _ => ?_
    dsimp only
    split
    · exact .ok h
    · split
      · next t ht =>
        refine .ok ?_
        dsimp only
        exact (h.makeRoom ht).enterCall _ _ _ _
      · exact .error _
  · exact .error _

theorem Within.callEndCommand (h : Within 16 24 s) (p : List Word) : Yields (Within 16 24) (callEndCommand p s) := by
  refine .oneId fun n => ?_
  split
  · exact .error _
  · exact .ite (fun _ => (h.withdrawCall _).accepted _) fun _ => .error _

theorem Within.dutyCommand (h : Within 16 24 s) (p : List Word) : Yields (Within 16 24) (dutyCommand p s) := by
  unfold Machine.dutyCommand
  split
  · exact .checked fun _ => .ite (fun _ => .error _) fun _ => .ite (fun _ => .error _) fun _ =>
      .ok (h.sameLists rfl rfl)
  · exact .error _

theorem Within.allCallCommand (h : Within 16 24 s) (p : List Word) : Yields (Within 16 24) (allCallCommand p s) :=
  .oneNumber fun _ => .ite (fun _ => .error _) fun _ => .ite (fun _ => .error _) fun _ =>
    (h.startAllCall _).accepted _

theorem Within.allCallEndCommand (h : Within 16 24 s) (p : List Word) : Yields (Within 16 24) (allCallEndCommand p s) :=
  .plain fun _ => .ite (fun _ => .error _) fun _ => .ite (fun _ => .error _) fun _ => (h.endAllCall _).accepted _

theorem Within.queryCommand (h : Within 16 24 s) (p : List Word) : Yields (Within 16 24) (queryCommand p s) := by
  unfold Machine.queryCommand
  split
  · exact .checked fun _ => .ok h
  · exact .error _

theorem Within.readReportCommand (h : Within 16 24 s) (p : List Word) : Yields (Within 16 24) (readReportCommand p s) := by
  refine .plain fun _ => ?_
  unfold takeReport
  split
  · next r rs hr =>
    have hle := h.reports
    rw [hr] at hle
    exact .ok (h.setPort ((Nat.le_succ _).trans hle))
  · exact .ok h

/-! ## One command -/

/-- Every command keeps the capacities. -/
theorem Within.exec (h : Within 16 24 s) (c : Instr) : Always (Within 16 24) (exec c s) := by
  cases c with
  | resetAssert => exact .next (within_resetBlocks _ _)
  | resetRelease => exact .next (doWhen_of _ h (within_resetBlocks _ _))
  | restartRelease => exact .next (doWhen_of _ h (within_resetBlocks _ _))
  | restart p => exact h.restart p
  | sweepCompletion c => exact .expiry h (h.sweep c)
  | linePinChange l high => exact .next (h.frame (updateLine_frame _ _ s))
  | lineEdge l => exact .expiry h (h.lineEdge l)
  | encoderPulse => exact .event h h.pulse
  | windowStart => exact .expiry h (h.frame (windowStart_frame s))
  | onTimeEnd k => exact .expiry h (h.frame (updateChannel_frame _ _ s))
  | heat p => exact h.panel fun t ht => ht.heatCommand p
  | heatOff p => exact h.panel fun t ht => ht.heatOffCommand p
  | channelClear p => exact h.panel fun t ht => ht.channelClearCommand p
  | frameStart => exact .event h (doWhen_of _ h h.startHead)
  | arbitrationLost => exact .event h (h.updateBus (occupied_requeue _))
  | bitFault => exact .event h (h.endOnLine false)
  | frameResult acked => exact .event h (h.endOnLine acked)
  | lineStuck => exact .event h (doWhen_of _ h h.findStuck)
  | lineClear => exact .event h (doWhen_of _ h h.findClear)
  | badFrame bytes => exact .event h (doWhen_of _ h (h.driveSlot false))
  | frameMismatch bytes => exact .event h (h.receive _ _ _ fun t ht => ht)
  | duplicateId kind => exact .event h (doWhen_of _ h ((h.driveSlot false).duplicateEvent kind))
  | leavingAnnounceTimeout => exact .expiry h h.dropLeaving
  | announce sender b => exact .event h (h.receive _ _ _ fun t ht => (ht.announceAtTable sender b).deliverGrant)
  | silenceStale peer => exact .expiry h (h.frame (updatePeer_frame peer _ s))
  | silenceRemove peer => exact .expiry h (h.removeSilent peer)
  | stock sender b => exact .event h (h.receive _ _ _ fun t ht => ht.frame (stockAtTable_frame sender b t))
  | stockAgeExpiry peer => exact .expiry h (h.frame (updatePeer_frame peer _ s))
  | announceTick => exact .expiry h h.announceTick
  | listeningTimerExpiry => exact .expiry h h.endListening
  | profilePut p => exact h.panel fun t ht => ht.profilePutCommand p
  | join p => exact h.panel fun t ht => ht.joinCommand p
  | leave p => exact h.panel fun t _ => leaveCommand_within p t
  | setClock p => exact h.panel fun t ht => ht.setClockCommand p
  | clockSecond => exact .expiry h h.clockSecond
  | dishOn p => exact h.panel fun t ht => ht.dishOnCommand p
  | dishOff p => exact h.panel fun t ht => ht.dishOffCommand p
  | dishSpeed p => exact h.panel fun t ht => ht.dishSpeedCommand p
  | dishResume p => exact h.panel fun t ht => ht.dishResumeCommand p
  | nextRack p => exact h.panel fun t ht => ht.nextRackCommand p
  | pickup p => exact h.panel fun t ht => ht.pickupCommand p
  | jamTimerExpiry => exact .expiry h (h.dishEvent fun t ht => ht.jam)
  | rinseHoldTimeExpiry =>
    exact .expiry h (Within.raiseCall (h.updateDish (f := fun d => { d with rinseCalled := true }) h.racks) _ _)
  | idleTimeExpiry => exact .expiry h (h.dishEvent fun t ht => ht.updateHolds _)
  | load p => exact h.panel fun t ht => ht.loadCommand p
  | take p => exact h.panel fun t ht => ht.takeCommand p
  | coolingReset k => exact .expiry h (h.coolingReset k)
  | holdAsk sender b => exact h.receiveWorking _ _ fun t ht => doWhen_of _ ht (ht.answerPeer sender b)
  | holdFree sender b => exact h.receiveWorking _ _ fun t ht => doWhen_of _ ht (ht.freeHold _ _ _ _)
  | holdExpiry tag => exact .expiry h (h.expireHold tag)
  | stockTick => exact .expiry h h.stockTick
  | wavePlan p => exact h.panel fun t ht => ht.wavePlanCommand p
  | waveFire p => exact h.panel fun t ht => ht.waveFireCommand p
  | wavePlate p => exact h.panel fun t ht => ht.wavePlateCommand p
  | waveClose p => exact h.panel fun t ht => ht.waveCloseCommand p
  | waveCancel p => exact h.panel fun t ht => ht.waveCancelCommand p
  | cookTimer wave => exact .expiry h (h.cookSecond wave)
  | askCheck wave => exact .expiry h (h.askCheck wave)
  | answerTimerExpiry wave second => exact .expiry h (h.updateWave _ _)
  | holdAnswer sender b => exact h.receiveWorking _ _ fun t ht => doWhen_of _ ht (ht.takeAnswer sender b)
  | holdState sender b => exact h.receiveWorking _ _ fun t ht => doWhen_of _ ht (ht.takeHoldState sender b)
  | page p => exact h.panel fun t ht => ht.pageCommand p
  | callEnd p => exact h.panel fun t ht => ht.callEndCommand p
  | duty p => exact h.panel fun t ht => ht.dutyCommand p
  | allCall p => exact h.panel fun t ht => ht.allCallCommand p
  | allCallEnd p => exact h.panel fun t ht => ht.allCallEndCommand p
  | broadcastTimerExpiry number => exact .expiry h (h.broadcastExpiry number)
  | pageCall sender b => exact h.receiveWorking _ _ fun t ht => ht.serveCall sender b
  | pageState sender b => exact h.receiveWorking _ _ fun t ht => doWhen_of _ ht (ht.pageStateAtOrigin b)
  | pageCancel sender number => exact h.receiveWorking _ _ fun t ht => ht.serveCancel sender number
  | modemRecordSent => exact .event h h.recordSent
  | result tag r => exact h.modemRecord fun t ht => ht.takeResult tag r
  | resultTimeout => exact .expiry h h.resultMissing
  | ack address tag => exact h.modemRecord fun t ht => ht.takeAck address tag
  | dutyRecord address on => exact h.modemRecord fun t ht => ht.takeDuty address on
  | ready => exact h.modemRecord fun t ht => ht.takeReady
  | modemInterbyteTimeout => exact .event h (h.sameLists rfl rfl)
  | busyTimerExpiry tag => exact .expiry h (h.updatePaged _ _).arbitrate
  | ackTimerExpiry tag => exact .expiry h (h.updatePaged _ _).arbitrate
  | allRecordDue => exact .expiry h (Within.arbitrate (h.sameLists rfl rfl))
  | allCallExpiry => exact .expiry h (h.endAllCall true)
  | transactionStart => exact .next (h.setPort h.reports)
  | incompleteCommand code => exact .endWith h.endTransaction (h.endTransaction.setReply _)
  | statusOnlyEnd => exact .next h.endTransaction
  | unknownCommand code => exact .endWith h.endTransaction (h.endTransaction.setReply _)
  | nothing p =>
    cases p with
    | nil => exact .endWith h.endTransaction (h.endTransaction.setReply _)
    | cons w ws => exact .endWith h.endTransaction (h.endTransaction.setReply _)
  | query p => exact h.panel fun t ht => ht.queryCommand p
  | readReport p => exact h.panel fun t ht => ht.readReportCommand p
  | startByte => exact .event h (h.sameLists rfl rfl)
  | modemRecordDiscarded c => exact .event h (h.sameLists rfl rfl)

/-! ## One step -/

/-- Time changes no list's length. -/
theorem Within.passTime (h : Within 16 24 s) : Within 16 24 (passTime s) where
  reports := h.reports
  frames := h.frames
  racks := h.racks
  holds := (List.length_map _).trans_le h.holds
  loads := h.loads
  waves := (List.length_map _).trans_le h.waves
  calls := (List.length_map _).trans_le h.calls
  paged := (List.length_map _).trans_le h.paged

theorem Within.idle (h : Within 16 24 s) : Within 16 24 (idle s) := by
  unfold Machine.idle
  split
  · exact h.frame (s.setPending_frame _)
  · split
    · exact h
    · unfold advance
      split
      · exact h.passTime
      · exact h
      · exact h.frame (s.setResetting_frame _)

theorem Within.step (h : Within 16 24 s) : Always (Within 16 24) (step s) := by
  unfold Machine.step
  split
  · exact (h.frame (s.setPending_frame _)).exec _
  · exact .next h.idle

/-- Settles O56: no operation overfills a list that it finds within its capacity, so no command and no millisecond does. -/
theorem stepKeepsTheCapacities : Obligations.StepKeepsTheCapacities := by
  unfold Obligations.StepKeepsTheCapacities
  intro s t h hstep
  exact within_iff.1 ((within_iff.2 h).step t hstep)

end Sys2Proof.Machine
end

section
/-! The transmit queue in order, and an offer to it (R47 to R49, O12). -/

namespace Sys2Proof.Machine

/-! ## The order of the queue (R47) -/

/-- No waiting frame goes before one that stands ahead of it. -/
def QueueInOrder (es : List TxEntry) : Prop := es.Pairwise (fun a b => goesBefore b a = false)

theorem goesBefore_eq_false {e x : TxEntry} : goesBefore e x = false ↔
    priority x.frame < priority e.frame ∨ priority x.frame = priority e.frame ∧ x.age ≤ e.age := by
  simp only [goesBefore, Bool.or_eq_false_iff, Bool.and_eq_false_iff, decide_eq_false_iff_not]
  omega

theorem not_goesBefore_trans {a b c : TxEntry} (hba : goesBefore b a = false) (hcb : goesBefore c b = false) :
    goesBefore c a = false := by
  rw [goesBefore_eq_false] at *
  omega

theorem not_goesBefore_of_goesBefore {e x : TxEntry} (h : goesBefore e x = true) : goesBefore x e = false := by
  simp only [goesBefore, Bool.or_eq_true, Bool.and_eq_true, decide_eq_true_eq] at h
  rw [goesBefore_eq_false]
  omega

theorem insertEntry_perm (e : TxEntry) (es : List TxEntry) : (insertEntry e es).Perm (e :: es) := by
  induction es with
  | nil => exact .refl _
  | cons x xs ih =>
    unfold insertEntry
    split
    · exact .refl _
    · exact (ih.cons x).trans (.swap e x xs)

theorem insertEntry_inOrder (e : TxEntry) {es : List TxEntry} (h : QueueInOrder es) :
    QueueInOrder (insertEntry e es) := by
  induction es with
  | nil => exact List.pairwise_singleton _ _
  | cons x xs ih =>
    obtain ⟨hx, hxs⟩ := List.pairwise_cons.1 h
    unfold insertEntry
    split
    · next hb =>
      have hxe := not_goesBefore_of_goesBefore hb
      refine List.pairwise_cons.2 ⟨fun y hy => ?_, h⟩
      obtain rfl | hy := List.mem_cons.1 hy
      · exact hxe
      · exact not_goesBefore_trans hxe (hx y hy)
    · next hb =>
      refine List.pairwise_cons.2 ⟨fun y hy => ?_, ih hxs⟩
      obtain rfl | hy := (mem_insertEntry _ _ _).1 hy
      · exact Bool.eq_false_iff.2 hb
      · exact hx y hy

/-! ## The three answers to an offer (R48, R49) -/

theorem accept_onLine {id : Nat} {f : Frame} {b b' : Bus} (h : accept id f b = some b') : b'.onLine = b.onLine := by
  rw [accept] at h
  split_ifs at h <;> cases h <;> rfl

theorem offer_onLine (f : Frame) (s : State) : (offer f s).bus.onLine = s.bus.onLine := by
  rw [offer]
  split
  · cases h : accept (ownId s) f s.bus with
    | none => rfl
    | some b => exact accept_onLine h
  · rfl

theorem offer_of_same {f : Frame} {s : State} (hs : maySend s = true) (h : s.bus.waiting.any (sameWaiting f) = true) :
    (offer f s).bus.waiting =
      s.bus.waiting.map (fun e => if sameWaiting f e then { e with frame := f, sender := ownId s } else e) := by
  rw [offer, if_pos hs, accept, if_pos h]
  rfl

theorem offer_of_room {f : Frame} {s : State} (hs : maySend s = true) (h : s.bus.waiting.any (sameWaiting f) = false)
    (hroom : occupied s.bus < 8) : (offer f s).bus.waiting =
      insertEntry { frame := f, sender := ownId s, age := s.bus.nextAge, deliver := true } s.bus.waiting := by
  rw [offer, if_pos hs, accept, if_neg (by rw [h]; decide), if_pos hroom]
  rfl

theorem offer_of_full {f : Frame} {s : State} (hs : maySend s = true) (h : s.bus.waiting.any (sameWaiting f) = false)
    (hfull : 8 ≤ occupied s.bus) : offer f s = s := by
  rw [offer, if_pos hs, accept, if_neg (by rw [h]; decide), if_neg (Nat.not_lt.2 hfull)]
  rfl

/-- Settles O12: the queue's three answers to an offer, and the place at which an entry goes in. -/
theorem offerFollowsTheQueueRules : Obligations.OfferFollowsTheQueueRules := by
  unfold Obligations.OfferFollowsTheQueueRules
  intro f s
  refine ⟨offer_frame f s, offer_onLine f s, fun h => offer_of_silent h f, fun hs hany => ?_, fun hs hany hroom => ?_,
    offer_of_full, fun e he => ?_⟩
  · rw [offer_of_same hs hany]
    refine ⟨?_, fun x hx hsame => ?_, fun x hx hother => ?_⟩
    · rw [List.map_map]
      exact List.map_congr_left fun e _ => by simp only [Function.comp_apply]; split <;> rfl
    · obtain ⟨e, -, rfl⟩ := List.mem_map.1 hx
      split at hsame
      · next he => exact ⟨by rw [if_pos he], by rw [if_pos he]; rfl⟩
      · next he => exact absurd hsame he
    · exact List.mem_map.2 ⟨x, hx, by rw [hother]; rfl⟩
  · rw [offer_of_room hs hany hroom]
    exact ⟨insertEntry_perm _ _, insertEntry_inOrder _⟩
  · rw [lineBytes, he]
    rfl

/-! ## The stock tick (R141) -/

/-- The tick taken, before the STOCK is offered. -/
def stockTicked (s : State) : State := s.setStock { s.stock with tick := s.stock.tick.taken }

theorem stockTick_eq (s : State) : stockTick s = offerStock (stockTicked s) := rfl

/-- An offer of STOCK changes no figure of the stock unit but the stock-changed flag. -/
theorem offerStock_stock (s : State) : ∃ c, (offerStock s).stock = { s.stock with changed := c } := by
  rw [offerStock]
  cases maySend s && hasStock s.profile with
  | true => exact ⟨_, rfl⟩
  | false => exact ⟨s.stock.changed, rfl⟩

/-- A STOCK that may go enters where one waits or an entry is free, and sets the stock-changed flag where the queue is full
(R49, R141). -/
theorem offerStock_answers {s : State} (h : maySend s = true) (hs : hasStock s.profile = true) :
    (kindWaits 9 s.bus = true ∨ occupied s.bus < 8) ∧ (offerStock s).stock.changed = false ∧
        (∃ e ∈ (offerStock s).bus.waiting, e.frame = .stock (stockBody s)) ∨
      kindWaits 9 s.bus = false ∧ ¬ occupied s.bus < 8 ∧ (offerStock s).stock.changed = true ∧
        (offerStock s).bus = s.bus := by
  rw [offerStock_of_sends h hs]
  obtain ⟨hroom, haccept, hentered⟩ | ⟨hno, hfull, haccept, hoffer⟩ :=
    offer_replaceable (f := .stock (stockBody s)) rfl h
  · rw [haccept]
    exact .inl ⟨hroom, rfl, hentered.waits⟩
  · rw [haccept, hoffer]
    exact .inr ⟨hno, hfull, rfl, rfl⟩

/-- Settles O28: the tick is taken, and then its STOCK enters, is refused, or is not offered at all. -/
theorem stockTickOffersTheCounts : Obligations.StockTickOffersTheCounts := by
  unfold Obligations.StockTickOffersTheCounts
  intro s hawake hdue
  obtain ⟨c, hstock⟩ := offerStock_stock (stockTicked s)
  refine ⟨stockTick s, expiry_of_due hawake hdue stockTick, stockTick_frame s, (congrArg Stock.tick hstock :),
    (congrArg Stock.holds hstock :), (congrArg Stock.warmers hstock :), (congrArg Stock.clean hstock :),
    fun hsend hhas => ?_, fun h => ?_⟩
  · rw [stockTick_eq]
    obtain ⟨hroom, hchanged, e, he, hf⟩ | ⟨hno, hfull, hchanged, hbus⟩ :=
      offerStock_answers (s := stockTicked s) hsend hhas
    · refine ⟨fun _ => ⟨hchanged, e, he, _, hf, showsStock_stockBody (stockTicked s)⟩, fun hno hfull => ?_⟩
      obtain hw | hfree := hroom
      · exact absurd (hno.symm.trans hw) Bool.false_ne_true
      · exact absurd hfree (Nat.not_lt.2 hfull)
    · refine ⟨fun hroom => ?_, fun _ _ => ⟨hchanged, hbus⟩⟩
      obtain hw | hfree := hroom
      · exact absurd (hno.symm.trans hw) Bool.false_ne_true
      · exact absurd hfree hfull
  · rw [stockTick_eq, offerStock_of_silent (s := stockTicked s) h]
    exact ⟨rfl, rfl⟩

end Sys2Proof.Machine

end

section
/-! Received frames at the station's edge, and the line's faults (R43, R45, R46, R50, R52, R53, O6). -/

namespace Sys2Proof.Machine

/-! ## A complete frame by its sender (R43, R50, R52) -/

theorem badSender_eq_false {sender : Nat} (hlow : 1 ≤ sender) (hhigh : sender ≤ 30) : badSender sender = false := by
  simp only [badSender, Bool.or_eq_false_iff, decide_eq_false_iff_not]
  omega

theorem badSender_eq_true {sender : Nat} (h : sender = 0 ∨ sender = 31) : badSender sender = true := by
  simp only [badSender, Bool.or_eq_true, decide_eq_true_eq]
  omega

theorem receive_of_unjoined {s : State} (hj : joined s = false) (sender kind : Nat) (d : Bool) (f : State → State) :
    receive sender kind d f s = s := if_pos hj

theorem receive_of_badSender {s : State} {sender : Nat} (hj : joined s = true) (h : sender = 0 ∨ sender = 31)
    (kind : Nat) (d : Bool) (f : State → State) : receive sender kind d f s = driveSlot false s := by
  rw [receive, if_neg (ne_false_of_eq_true hj), if_pos (badSender_eq_true h)]

/-- A frame of the station's own identifier is a DUPLICATE-ID event (R52). -/
theorem receive_of_own {s : State} {sender : Nat} (hj : joined s = true) (hlow : 1 ≤ sender) (hhigh : sender ≤ 30)
    (hown : sender = s.profile.stationId) (kind : Nat) (d : Bool) (f : State → State) :
    receive sender kind d f s = duplicateEvent kind (driveSlot false s) := by
  rw [receive, if_neg (ne_false_of_eq_true hj), badSender_eq_false hlow hhigh, if_neg (by decide), ownId, if_pos hown]

/-- A frame of another station is acknowledged and, if it is delivered, handed on (R45, R50). -/
theorem receive_of_peer {s : State} {sender : Nat} (hj : joined s = true) (hlow : 1 ≤ sender) (hhigh : sender ≤ 30)
    (hother : sender ≠ s.profile.stationId) (kind : Nat) (d : Bool) (f : State → State) :
    receive sender kind d f s = doWhen d f (driveSlot true s) := by
  rw [receive, if_neg (ne_false_of_eq_true hj), badSender_eq_false hlow hhigh, if_neg (by decide), ownId, if_neg hother]

theorem exec_frameMismatch {s : State} (h : awake s = true) (bytes : List Byte) : exec (.frameMismatch bytes) s =
    .next (receive (senderOf bytes) (kindOf bytes) false id s) := event_of_awake h _

theorem exec_badFrame {s : State} (h : awake s = true) (bytes : List Byte) : exec (.badFrame bytes) s =
    .next (doWhen (joined s) (driveSlot false) s) := event_of_awake h _

/-! ## The stuck line (R46, R53) -/

/-- The line found stuck or clear in a joined state. -/
def lineFound (stuck : Bool) (s : State) : State := pushReport (.line stuck) (s.setBus { s.bus with stuck := stuck })

theorem lineFound_spec (stuck : Bool) (s : State) : SameExcept [.bus, .port] s (lineFound stuck s) ∧
    (lineFound stuck s).bus = { s.bus with stuck := stuck } ∧
    (lineFound stuck s).port.reports.getLast? = some { clock := s.life.clock, body := .line stuck } ∧
    (lineFound stuck s).port.reply = s.port.reply ∧
    (lineFound stuck s).port.transaction = s.port.transaction := by
  have hpush := pushReport_frame (.line stuck) (s.setBus { s.bus with stuck := stuck })
  obtain ⟨htransaction, hreply⟩ := PortStands.pushReport (.line stuck) (s.setBus { s.bus with stuck := stuck })
  have hframe : SameExcept [.bus, .port] s (lineFound stuck s) := (State.setBus_frame s _).comp hpush (by decide) (by decide)
  exact ⟨hframe, hpush.bus, pushReport_getLast _ _, hreply, htransaction⟩

theorem exec_lineStuck {s : State} (h : awake s = true) (hj : joined s = true) (hs : s.bus.stuck = false) :
    exec .lineStuck s = .next (lineFound true s) := by
  have hjudges : (judgesLine s && !s.bus.stuck) = true := by rw [judgesLine, hj, hs]; rfl
  refine (event_of_awake h _).trans ?_
  rw [hjudges, doWhen_true, findStuck, hj, doWhen_true]
  rfl

theorem exec_lineClear {s : State} (h : awake s = true) (hj : joined s = true) (hs : s.bus.stuck = true) :
    exec .lineClear s = .next (lineFound false s) := by
  refine (event_of_awake h _).trans ?_
  rw [hs, doWhen_true, findClear, hj, doWhen_true]
  rfl

theorem leavingLate_of_late {s : State} {n : Nat} (ht : s.bus.leaveTimer = some n) (hn : 500 ≤ n) :
    leavingLate s = true := by
  rw [leavingLate, ht]
  exact decide_eq_true hn

/-- Settles O6: the line's two findings, the lapse of a leaving ANNOUNCE, and the frames that reach no block. -/
theorem lineFaultsAndDiscardedFramesAreContained : Obligations.LineFaultsAndDiscardedFramesAreContained := by
  unfold Obligations.LineFaultsAndDiscardedFramesAreContained
  refine ⟨fun s h => ⟨fun hj hs => ?_, fun hj hs => ?_, fun n ht hn => ?_⟩, fun bytes s h => ?_⟩
  · exact ⟨_, exec_lineStuck h hj hs, lineFound_spec true s⟩
  · exact ⟨_, exec_lineClear h hj hs, lineFound_spec false s⟩
  · exact ⟨_, expiry_of_due h (leavingLate_of_late ht hn) dropLeaving, dropLeaving_frame s, rfl⟩
  · rw [exec_badFrame h, exec_frameMismatch h]
    refine ⟨fun hj => ?_, fun hj hlow hhigh hother => ?_, fun hj hbad => ?_, fun hj hlow hhigh hown => ?_, fun hj => ?_⟩
    · rw [hj]
      rfl
    · rw [receive_of_peer hj hlow hhigh hother]
      rfl
    · rw [receive_of_badSender hj hbad]
      rfl
    · rw [receive_of_own hj hlow hhigh hown, exec_duplicateId h, hj]
      rfl
    · rw [receive_of_unjoined hj, hj]
      exact ⟨rfl, rfl⟩

end Sys2Proof.Machine

end

section
/-! Silence and stock parts of the peer table (R60, R61, R64, R65, O50). -/

namespace Sys2Proof.Machine

/-! ## Silence (R60, R61) -/

theorem staleDue_of {id : Nat} {s : State} {p : Peer} (hp : findPeer id s = some p) (hsilent : 3000 ≤ p.silence)
    (hlive : p.stale = false) : staleDue id s = true := by
  rw [staleDue, hp]
  change (decide (3000 ≤ p.silence) && !p.stale) = true
  rw [decide_eq_true hsilent, hlive]
  rfl

theorem removeDue_of {id : Nat} {s : State} {p : Peer} (hp : findPeer id s = some p) (hsilent : 10000 ≤ p.silence) :
    removeDue id s = true := by
  rw [removeDue, hp]
  exact decide_eq_true hsilent

theorem stockAgeDue_of {id : Nat} {s : State} {p : Peer} {q : StockPart} (hp : findPeer id s = some p)
    (hq : p.stock = some q) (hage : 20000 ≤ q.age) : stockAgeDue id s = true := by
  rw [stockAgeDue, hp, Option.bind_some, hq]
  exact decide_eq_true hage

/-- A change of one entry that keeps its identifier shows in that entry alone. -/
theorem updatePeer_spec {id : Nat} {s : State} {p : Peer} (hp : findPeer id s = some p) (f : Peer → Peer)
    (hf : ∀ p, (f p).id = p.id) : SameExcept [.peers] s (updatePeer id f s) ∧
      findPeer id (updatePeer id f s) = some (f p) ∧ ∀ j, j ≠ id → findPeer j (updatePeer id f s) = findPeer j s := by
  refine ⟨updatePeer_frame id f s, ?_, fun j hj => ?_⟩
  · rw [findPeer_updatePeer hf, if_pos rfl, hp]
    rfl
  · rw [findPeer_updatePeer hf, if_neg hj]

theorem updatePeer_of_unknown {id : Nat} {s : State} (h : findPeer id s = none) (f : Peer → Peer) :
    (updatePeer id f s).peers = s.peers := by
  have hother : ∀ p ∈ s.peers, p.id ≠ id := fun p hp => by simpa using List.find?_eq_none.1 h p hp
  exact (List.map_congr_left fun p hp => if_neg (hother p hp)).trans (List.map_id _)

/-- A removal for silence: the entry, the holds of that asker and the sources at it are gone (R61, R62). -/
theorem removeSilent_spec {id : Nat} {s : State} {p : Peer} (hp : findPeer id s = some p) :
    SameExcept [.peers, .stock, .waves, .port] s (removeSilent id s) ∧ findPeer id (removeSilent id s) = none ∧
      (∀ j, j ≠ id → findPeer j (removeSilent id s) = findPeer j s) ∧
      (removeSilent id s).stock.holds = s.stock.holds.filter (fun h => decide (h.asker ≠ id)) ∧
      (removeSilent id s).waves = s.waves.map (loseSources id) ∧
      (removeSilent id s).port.reports.getLast? = some ⟨s.life.clock, .peer id p.epoch (.silent p.sequence)⟩ := by
  have hremove : removeSilent id s =
      pushReport (.peer id p.epoch (.silent p.sequence)) (goneNotice id (dropPeer id s)) := by
    rw [removeSilent, hp]
  refine ⟨removeSilent_frame id s, ?_⟩
  rw [hremove]
  have hpush := pushReport_frame (.peer id p.epoch (.silent p.sequence)) (goneNotice id (dropPeer id s))
  have hfind (j : Nat) := (findPeer_congr (hpush.peers (by decide)) j).trans (findPeer_dropPeer id j s)
  refine ⟨(hfind id).trans (if_pos rfl), fun j hj => (hfind j).trans (if_neg hj), ?_, ?_, pushReport_getLast _ _⟩
  · rw [hpush.stock, goneNotice_holds]
    rfl
  · rw [hpush.waves, goneNotice_waves]
    rfl

/-! ## A STOCK body that is taken (R50, R64) -/

theorem distinctChannels_iff (es : List StockEntry) :
    distinctChannels es = true ↔ (es.map (fun e => e.channel)).Nodup := by
  induction es with
  | nil => simp [distinctChannels]
  | cons e es ih =>
    simp only [distinctChannels, Bool.and_eq_true, ih, List.map_cons, List.nodup_cons, List.all_eq_true,
      decide_eq_true_eq, List.mem_map, not_exists, not_and]

/-- The body fits its length byte and is valid: it reaches the entry of its sender. -/
theorem stockTaken_iff (b : StockBody) : (stockFits b && stockValid b) = true ↔
    b.warmers.length ≤ 8 ∧ (∀ e ∈ b.warmers, e.channel ≤ 7) ∧ (b.warmers.map (fun e => e.channel)).Nodup ∧
      (b.warmers ≠ [] ∨ b.clean ≠ none) := by
  simp only [stockFits, stockValid, Bool.and_eq_true, Bool.or_eq_true, decide_eq_true_eq, List.all_eq_true,
    distinctChannels_iff, Bool.not_eq_true', List.isEmpty_eq_false_iff, Option.isSome_iff_ne_none, and_assoc]

theorem insertEntryByChannel_perm (e : StockEntry) (es : List StockEntry) :
    (insertEntryByChannel e es).Perm (e :: es) := by
  induction es with
  | nil => exact .refl _
  | cons x xs ih =>
    unfold insertEntryByChannel
    split
    · exact .refl _
    · exact (ih.cons x).trans (.swap e x xs)

theorem insertEntryByChannel_rising {e : StockEntry} {es : List StockEntry}
    (h : es.Pairwise (fun x y => x.channel < y.channel)) (he : ∀ x ∈ es, x.channel ≠ e.channel) :
    (insertEntryByChannel e es).Pairwise (fun x y => x.channel < y.channel) := by
  induction es with
  | nil => exact List.pairwise_singleton _ _
  | cons x xs ih =>
    obtain ⟨hx, hxs⟩ := List.pairwise_cons.1 h
    unfold insertEntryByChannel
    split
    · next hlt =>
      refine List.pairwise_cons.2 ⟨fun y hy => ?_, h⟩
      obtain rfl | hy := List.mem_cons.1 hy
      · exact hlt
      · exact Nat.lt_trans hlt (hx y hy)
    · next hge =>
      have hxe : x.channel < e.channel :=
        Nat.lt_of_le_of_ne (Nat.le_of_not_lt hge) (he x List.mem_cons_self)
      refine List.pairwise_cons.2 ⟨fun y hy => ?_, ih hxs fun y hy => he y (List.mem_cons_of_mem _ hy)⟩
      obtain rfl | hy := List.mem_cons.1 ((insertEntryByChannel_perm _ _).mem_iff.1 hy)
      · exact hxe
      · exact hx y hy

/-- Warmers of distinct channels stand in channel order once each is put at its place (R64). -/
theorem warmersInOrder (es : List StockEntry) : (es.foldr insertEntryByChannel []).Perm es ∧
    ((es.map (fun e => e.channel)).Nodup →
      (es.foldr insertEntryByChannel []).Pairwise (fun x y => x.channel < y.channel)) := by
  induction es with
  | nil => exact ⟨.refl _, fun _ => .nil⟩
  | cons e es ih =>
    obtain ⟨hperm, hrising⟩ := ih
    refine ⟨(insertEntryByChannel_perm _ _).trans (hperm.cons e), fun h => ?_⟩
    obtain ⟨he, hes⟩ := List.nodup_cons.1 h
    refine insertEntryByChannel_rising (hrising hes) fun x hx hxe => he ?_
    exact List.mem_map.2 ⟨x, hperm.mem_iff.1 hx, hxe⟩

/-! ## A STOCK at the peer table (R64) -/

/-- The slot driven for a STOCK and the stock part replaced where the body is taken. -/
def stockReceived (sender : Nat) (b : StockBody) (s : State) : State :=
  doWhen (stockFits b && stockValid b) (updatePeer sender (fun p => { p with stock := some (stockPart b) }))
    (driveSlot true s)

theorem exec_stock {sender : Nat} {b : StockBody} {s : State} (h : awake s = true) (hj : joined s = true)
    (hlow : 1 ≤ sender) (hhigh : sender ≤ 30) (hother : sender ≠ s.profile.stationId) :
    exec (.stock sender b) s = .next (stockReceived sender b s) := by
  refine (event_of_awake h _).trans ?_
  rw [receive_of_peer hj hlow hhigh hother, stockReceived]
  cases stockFits b with
  | true | false => rfl

theorem stockReceived_frame (sender : Nat) (b : StockBody) (s : State) :
    SameExcept [.bus, .peers] s (stockReceived sender b s) :=
  (State.setBus_frame s _).comp (doWhen_frame _ _ (updatePeer_frame _ _ _)) (by decide) (by decide)

theorem stockReceived_bus (sender : Nat) (b : StockBody) (s : State) :
    (stockReceived sender b s).bus = { s.bus with ackSlot := true } :=
  (doWhen_frame _ _ (updatePeer_frame _ _ _)).bus

theorem stockReceived_others {sender j : Nat} (hj : j ≠ sender) (b : StockBody) (s : State) :
    findPeer j (stockReceived sender b s) = findPeer j s := by
  rw [stockReceived, doWhen]
  split
  · rw [findPeer_updatePeer (by exact fun _ => rfl), if_neg hj]
    rfl
  · rfl

/-- Settles O50: the three clocks of an entry, and a STOCK by what the table holds and by its body. -/
theorem peersFallSilentAndTheirStockIsReplaced : Obligations.PeersFallSilentAndTheirStockIsReplaced := by
  unfold Obligations.PeersFallSilentAndTheirStockIsReplaced
  refine ⟨fun id p s h hp => ⟨fun hsilent hlive => ?_, fun hsilent => ?_, fun q hq hage => ?_⟩,
    fun sender b s h hj hlow hhigh hother => ?_⟩
  · exact ⟨_, expiry_of_due h (staleDue_of hp hsilent hlive) _, updatePeer_spec hp _ fun _ => rfl⟩
  · exact ⟨_, expiry_of_due h (removeDue_of hp hsilent) _, removeSilent_spec hp⟩
  · exact ⟨_, expiry_of_due h (stockAgeDue_of hp hq hage) _, updatePeer_spec hp _ fun _ => rfl⟩
  · refine ⟨_, exec_stock h hj hlow hhigh hother, stockReceived_frame sender b s, stockReceived_bus sender b s,
      fun id hid => stockReceived_others hid b s, fun p hp hfits hchannels hnodup hsome => ?_, fun hp => ?_,
      fun hbad => ?_⟩
    · have htaken := (stockTaken_iff b).2 ⟨hfits, hchannels, hnodup, hsome⟩
      obtain ⟨hperm, hrising⟩ := warmersInOrder b.warmers
      rw [stockReceived, htaken, doWhen_true]
      obtain ⟨-, hfind, -⟩ := updatePeer_spec (s := driveSlot true s) hp
        (fun p => { p with stock := some (stockPart b) }) (fun _ => rfl)
      exact ⟨_, hfind, hperm, hrising hnodup⟩
    · rw [stockReceived, doWhen]
      split
      · exact updatePeer_of_unknown (s := driveSlot true s) hp _
      · rfl
    · have hrefused : (stockFits b && stockValid b) = false := by
        rw [Bool.eq_false_iff, ne_eq, stockTaken_iff]
        rintro ⟨hfits, hchannels, hnodup, hsome⟩
        obtain hlong | ⟨e, he, hchannel⟩ | hsame | ⟨hnil, hnone⟩ := hbad
        · exact absurd hfits (Nat.not_le.2 hlong)
        · exact absurd (hchannels e he) (Nat.not_le.2 hchannel)
        · exact hsame hnodup
        · exact hsome.elim (fun h => h hnil) (fun h => h hnone)
      rw [stockReceived, hrefused]
      rfl

end Sys2Proof.Machine

end

section
/-! The answers and the notices of a warmer at the wave table (R51, R155, R156, O34). -/

namespace Sys2Proof.Machine

/-! ## Frames delivered while the station works (R50, R51) -/

theorem receiveWorking_of_peer {s : State} {sender : Nat} (h : awake s = true) (hsend : maySend s = true)
    (hlow : 1 ≤ sender) (hhigh : sender ≤ 30) (hother : sender ≠ s.profile.stationId) (kind : Nat) (f : State → State) :
    receiveWorking sender kind f s = .next (f (driveSlot true s)) := by
  refine (event_of_awake h _).trans ?_
  rw [receive_of_peer (joined_of_maySend hsend) hlow hhigh hother, hsend, doWhen_true]

theorem addressed_of_own {s : State} {target : Nat} (h : target = s.profile.stationId) (f : State → State) :
    addressed target f s = f s := by
  rw [addressed, ownId, decide_eq_true h, doWhen_true]

theorem exec_holdAnswer {s : State} {sender : Nat} {b : HoldAnswerBody} (h : awake s = true) (hsend : maySend s = true)
    (hlow : 1 ≤ sender) (hhigh : sender ≤ 30) (hother : sender ≠ s.profile.stationId)
    (htarget : b.target = s.profile.stationId) :
    exec (.holdAnswer sender b) s = .next (takeAnswer sender b (driveSlot true s)) := by
  refine (receiveWorking_of_peer h hsend hlow hhigh hother 6 _).trans ?_
  rw [addressed_of_own (s := driveSlot true s) htarget]

theorem exec_holdState {s : State} {sender : Nat} {b : HoldStateBody} (h : awake s = true) (hsend : maySend s = true)
    (hlow : 1 ≤ sender) (hhigh : sender ≤ 30) (hother : sender ≠ s.profile.stationId)
    (htarget : b.target = s.profile.stationId) :
    exec (.holdState sender b) s = .next (takeHoldState sender b (driveSlot true s)) := by
  refine (receiveWorking_of_peer h hsend hlow hhigh hother 7 _).trans ?_
  rw [addressed_of_own (s := driveSlot true s) htarget]

/-! ## One source of one wave -/

/-- A change of a source shows only what it does to the record that stands there. -/
theorem changeSource_congr {second : Bool} {f g : Source → Source} {w : Wave}
    (h : ∀ r, sourceOf second w = some r → f r = g r) : changeSource second f w = changeSource second g w := by
  cases second with
  | false => rw [changeSource, changeSource, if_neg (by decide), if_neg (by decide), h _ rfl]
  | true =>
    have hmap : w.src2.map f = w.src2.map g := Option.map_congr h
    rw [changeSource, changeSource, if_pos rfl, if_pos rfl, hmap]

theorem changeSource_of_fixed {second : Bool} {f : Source → Source} {w : Wave}
    (h : ∀ r, sourceOf second w = some r → f r = r) : changeSource second f w = w := by
  refine (changeSource_congr (g := id) h).trans ?_
  cases second with
  | false => rfl
  | true => rw [changeSource, if_pos rfl, Option.map_id, id]

theorem findWave_updateWave_other {n m : Nat} (hm : m ≠ n) (f : Wave → Wave) (hf : ∀ w, (f w).number = w.number)
    (s : State) : findWave m (updateWave n f s) = findWave m s := by
  rw [findWave_updateWave n m f hf]
  simp only [if_neg hm, Option.map_id']

/-- The wave of a matching source changes there and nowhere else, and no other wave does. -/
theorem updateSource_spec {n : Nat} {s : State} {w : Wave} (hw : findWave n s = some w) (second : Bool)
    (f : Source → Source) : SameExcept [.waves] s (updateWave n (changeSource second f) s) ∧
      findWave n (updateWave n (changeSource second f) s) = some (changeSource second f w) ∧
      ∀ m, m ≠ n → findWave m (updateWave n (changeSource second f) s) = findWave m s :=
  ⟨updateWave_frame _ _ _, findWave_changed hw (changeSource_number second f),
    fun _ hm => findWave_updateWave_other hm _ (changeSource_number second f) s⟩

/-! ## HOLD-ANSWER (R155) -/

/-- The record of a source that an answer matches. -/
def answered (b : HoldAnswerBody) (r : Source) : Source := { r with hold := answeredHold b r.hold }

theorem answered_of_granted {b : HoldAnswerBody} (hr : b.result = 1) (hc : 0 < b.count) (r : Source) :
    answered b r = { r with hold := .held b.count b.tag } := by
  rw [answered, answeredHold, hr]
  exact congrArg (fun h => { r with hold := h }) (if_neg (Nat.ne_of_gt hc))

theorem answered_of_refused {b : HoldAnswerBody} (hlow : 2 ≤ b.result) (hhigh : b.result ≤ 4) (r : Source) :
    answered b r = { r with hold := .none } := by
  obtain hr | hr | hr : b.result = 2 ∨ b.result = 3 ∨ b.result = 4 := by omega
  all_goals simp only [answered, answeredHold, hr]

theorem takeAnswer_of_match {s : State} {sender : Nat} {b : HoldAnswerBody} {w : Wave} {second : Bool}
    (hw : findWave b.wave s = some w) (hm : matchSource sender b.channel w = some second) : takeAnswer sender b s =
      doWhen (decide (b.result = 4)) (pushReport (waveNote w (.sourceRefused sender b.channel)))
        (updateWave b.wave (changeSource second (answered b)) s) := by
  rw [takeAnswer, hw, Option.bind_some, hm, ← findWave_number hw]
  rfl

theorem takeAnswer_of_unknown {s : State} {sender : Nat} {b : HoldAnswerBody} (hw : findWave b.wave s = none)
    (hr : b.result = 1) : takeAnswer sender b s = sendFree sender b.tag b.wave b.channel s := by
  rw [takeAnswer, hw, Option.bind_none]
  exact congrFun (congrFun (congrArg doWhen (decide_eq_true hr)) _) _

theorem sendFree_of_other {s : State} {station : Nat} (h : station ≠ s.profile.stationId) (tag wave channel : Nat) :
    sendFree station tag wave channel s = offer (.holdFree ⟨station, tag, wave, channel⟩) s := if_neg h

/-! ## HOLD-STATE (R156) -/

theorem takeHoldState_of_match {s : State} {sender : Nat} {b : HoldStateBody} {w : Wave} {second : Bool}
    (hw : findWave b.wave s = some w) (hm : matchSource sender b.channel w = some second) :
    takeHoldState sender b s = updateWave b.wave (changeSource second (followState b)) s := by
  rw [takeHoldState, hw, Option.bind_some, hm, ← findWave_number hw]
  rfl

theorem followState_of_held {b : HoldStateBody} {r : Source} {count : Nat} (h : r.hold = .held count b.tag) :
    (b.cause = 1 → followState b r =
      { r with taken := r.taken + (count - b.count), hold := heldOrNone b.count b.tag }) ∧
    (b.cause = 2 → followState b r = { r with hold := heldOrNone b.count b.tag }) ∧
    (b.cause = 3 → followState b r = { r with hold := .none }) := by
  refine ⟨fun hc => ?_, fun hc => ?_, fun hc => ?_⟩
  · simp only [followState, h, hc, if_true]
  · simp only [followState, h, hc, if_true]
  · simp only [followState, h, hc, if_true]

theorem followState_of_other {b : HoldStateBody} {r : Source} (h : ∀ count, r.hold ≠ .held count b.tag) :
    followState b r = r := by
  unfold followState
  split
  · next n tag hr =>
    refine if_neg fun htag => h n ?_
    rw [hr, htag]
  · rfl

/-- Settles O34: an answer by its result and by what it matches, and a notice by the hold of its source. -/
theorem holdMessagesKeepTheWavesCopy : Obligations.HoldMessagesKeepTheWavesCopy := by
  unfold Obligations.HoldMessagesKeepTheWavesCopy
  intro sender s h hsend hlow hhigh hother
  have hslot : SameExcept [.bus] s (driveSlot true s) := State.setBus_frame s _
  refine ⟨fun b w second htarget hw hm => ?_, fun b htarget hw hr hroom => ?_, fun b w second r htarget hw hm hsource => ?_⟩
  · obtain ⟨hframe, hfind, hothers⟩ := updateSource_spec (s := driveSlot true s) hw second (answered b)
    have hreport := pushReport_frame (waveNote w (.sourceRefused sender b.channel))
      (updateWave b.wave (changeSource second (answered b)) (driveSlot true s))
    have hpush := doWhen_frame (decide (b.result = 4)) _ hreport
    have hmoved : SameExcept [.bus, .waves] s _ := hslot.comp hframe (by decide) (by decide)
    have hwaves (m : Nat) := findWave_congr (hpush.waves (by decide)) m
    refine ⟨_, exec_holdAnswer h hsend hlow hhigh hother htarget, ?_⟩
    rw [takeAnswer_of_match (s := driveSlot true s) hw hm]
    refine ⟨hmoved.comp hpush (by decide) (by decide), hpush.bus, fun hr hc => ⟨?_, ?_⟩, fun hr2 hr4 => ?_,
      fun hr => ?_, fun m hne => (hwaves m).trans (hothers m hne)⟩
    · rw [hr]
      exact hmoved
    · rw [hwaves, hfind, changeSource_congr fun r _ => answered_of_granted hr hc r]
    · rw [hwaves, hfind, changeSource_congr fun r _ => answered_of_refused hr2 hr4 r]
    · rw [hr]
      exact pushReport_getLast _ _
  · refine ⟨_, exec_holdAnswer h hsend hlow hhigh hother htarget, ?_⟩
    rw [takeAnswer_of_unknown (s := driveSlot true s) hw hr, sendFree_of_other (s := driveSlot true s) hother]
    exact ⟨hslot.trans (offer_frame _ _), offer_waits _ (driveSlot true s) hsend hroom⟩
  · obtain ⟨hframe, hfind, hothers⟩ := updateSource_spec (s := driveSlot true s) hw second (followState b)
    have hfollows {g : Source → Source} (hg : followState b r = g r) :
        changeSource second (followState b) w = changeSource second g w :=
      changeSource_congr fun x hx => by rw [Option.some.inj (hx.symm.trans hsource), hg]
    refine ⟨_, exec_holdState h hsend hlow hhigh hother htarget, ?_⟩
    rw [takeHoldState_of_match (s := driveSlot true s) hw hm, hfind]
    refine ⟨hslot.comp hframe (by decide) (by decide), hframe.bus, hothers, fun count hheld left hleft => ?_,
      fun hnot => ?_⟩
    · obtain ⟨htaken, hcut, hexpired⟩ := followState_of_held hheld
      subst hleft
      exact ⟨fun hc => congrArg some (hfollows (htaken hc)), fun hc => congrArg some (hfollows (hcut hc)),
        fun hc => congrArg some (hfollows (hexpired hc))⟩
    · rw [changeSource_of_fixed fun x hx => by
        rw [Option.some.inj (hx.symm.trans hsource), followState_of_other hnot]]

end Sys2Proof.Machine

end

section
/-! The waiting frames while calls are raised: no block takes a frame out of the queue (R49, R162). -/

namespace Sys2Proof.Machine

/-- From `s` to `t` the frame on the line stands and every waiting frame waits still. -/
def QueueStands (s t : State) : Prop :=
  t.bus.onLine = s.bus.onLine ∧ ∀ e ∈ s.bus.waiting, e ∈ t.bus.waiting

namespace QueueStands

theorem of_bus {s t : State} (h : t.bus = s.bus) : QueueStands s t := ⟨by rw [h], fun e he => by rwa [h]⟩

theorem refl (s : State) : QueueStands s s := of_bus rfl

theorem trans {s t u : State} (h : QueueStands s t) (g : QueueStands t u) : QueueStands s u := by
  obtain ⟨hline, hwaits⟩ := h
  obtain ⟨gline, gwaits⟩ := g
  exact ⟨gline.trans hline, fun e he => gwaits e (hwaits e he)⟩

theorem of_frame {bs : List Block} {s t : State} (h : SameExcept bs s t) (hb : Block.bus ∉ bs) : QueueStands s t :=
  of_bus (h.bus hb)

theorem doWhen {c : Bool} {f : State → State} {s : State} (h : QueueStands s (f s)) :
    QueueStands s (Machine.doWhen c f s) := by
  cases c with
  | false => exact refl s
  | true => exact h

theorem offer {f : Frame} (hf : replaceable f = false) (s : State) : QueueStands s (offer f s) :=
  ⟨offer_onLine f s, offer_keeps_waiting hf s⟩

theorem pushReport (b : ReportBody) (s : State) : QueueStands s (pushReport b s) :=
  of_frame (pushReport_frame b s) (by decide)

/-! ## Open calls (R164 to R166) -/

theorem sendCancel (n : Nat) (s : State) : QueueStands s (sendCancel n s) :=
  (offer (f := .pageCancel n) rfl s).trans (of_frame (serveCancel_frame _ _ _) (by decide))

theorem endCall (c : Call) (cause : CallCause) (s : State) : QueueStands s (endCall c cause s) :=
  (pushReport _ (dropCall c.number s)).trans (sendCancel _ _)

theorem withdrawCall (c : Call) (s : State) : QueueStands s (withdrawCall c s) :=
  doWhen (s := dropCall c.number s) (sendCancel _ _)

theorem pageStateAtOrigin (b : PageStateBody) (s : State) : QueueStands s (pageStateAtOrigin b s) := by
  unfold Machine.pageStateAtOrigin
  split
  · exact refl s
  · split
    · exact of_bus rfl
    · exact of_bus rfl
    · exact endCall _ _ _
    · exact endCall _ _ _
    · exact endCall _ _ _
    · exact refl s

/-! ## The serving side (R168 to R171) -/

theorem tellOrigin (c : Paged) (outcome detail : Nat) (s : State) : QueueStands s (tellOrigin c outcome detail s) := by
  unfold Machine.tellOrigin
  dsimp only
  split
  · exact pageStateAtOrigin _ _
  · exact offer rfl _

theorem finishPaged (c : Paged) (outcome detail : Nat) (s : State) : QueueStands s (finishPaged c outcome detail s) :=
  tellOrigin c outcome detail (s.setPaging _)

theorem grantCalls (fuel : Nat) (s : State) : QueueStands s (grantCalls fuel s) := by
  induction fuel generalizing s with
  | zero => exact refl s
  | succ fuel ih =>
    unfold Machine.grantCalls
    split
    · exact refl s
    · split
      · exact of_bus rfl
      · exact (finishPaged _ _ _ _).trans (ih _)

theorem arbitrate (s : State) : QueueStands s (arbitrate s) := by
  unfold Machine.arbitrate
  split
  · split
    · exact doWhen (of_bus rfl)
    · exact grantCalls _ _
  · exact refl s

theorem takePaged (origin : Nat) (b : PageCallBody) (s : State) : QueueStands s (takePaged origin b s) :=
  tellOrigin _ 1 0 (s.setPaging _)

theorem dropPaged (origin : Nat) (b : PageCallBody) (s : State) : QueueStands s (dropPaged origin b s) := by
  unfold Machine.dropPaged
  dsimp only
  split
  · exact pageStateAtOrigin _ _
  · exact offer rfl _

theorem serveCall (origin : Nat) (b : PageCallBody) (s : State) : QueueStands s (serveCall origin b s) := by
  have htaken (u : State) : QueueStands u (Machine.arbitrate (Machine.takePaged origin b u)) :=
    (takePaged _ _ _).trans (arbitrate _)
  unfold Machine.serveCall
  split
  · split
    · split
      · exact tellOrigin _ _ _ _
      · exact tellOrigin _ _ _ _
    · split
      · exact refl s
      · split
        · exact htaken s
        · split
          · split
            · exact (finishPaged _ _ _ _).trans (htaken _)
            · exact dropPaged _ _ _
          · exact dropPaged _ _ _
  · exact refl s

/-! ## A raised call (R162) -/

theorem broadcast (c : Call) (s : State) : QueueStands s (broadcast c s) :=
  (offer (f := .pageCall (pageCallBody c)) rfl (updateCall c.number broadcastNow s)).trans (serveCall _ _ _)

theorem enterCall (r : CallReason) (subject : Nat) (group : Option Nat) (urgency : Nat) (s : State) :
    QueueStands s (enterCall r subject group urgency s) := by
  unfold Machine.enterCall
  dsimp only
  split
  · exact pushReport _ (s.setPaging _)
  · exact broadcast _ (s.setPaging _)

theorem makeRoom {urgency : Nat} {s t : State} (h : makeRoom urgency s = some t) : QueueStands s t := by
  unfold Machine.makeRoom at h
  split at h
  · cases h
    exact refl s
  · split at h
    · split at h
      · cases h
        exact (withdrawCall _ _).trans (pushReport _ _)
      · cases h
    · cases h

theorem raiseCall (r : CallReason) (subject : Nat) (s : State) : QueueStands s (raiseCall r subject s) := by
  unfold Machine.raiseCall
  split
  · exact refl s
  · split
    · next t ht => exact (makeRoom ht).trans (enterCall _ _ _ _ _)
    · exact pushReport _ _

/-! ## The result of an ANNOUNCE (R82, R92) -/

theorem isolate (s : State) : QueueStands s (isolate s) := by
  have hchange : QueueStands s (changeStation .isolated (.unheard s.share.unacked) s) :=
    of_frame (changeStation_frame _ _ _) (by decide)
  exact (hchange.trans (raiseCall _ _ _)).trans (of_frame (deliverGrant_frame _) (by decide))

/-- An ANNOUNCE that ends unacknowledged leaves the queue behind it. -/
theorem frameEnded_unacked {e : TxEntry} (h : isLeaving e.frame = false) (s : State) :
    QueueStands s (frameEnded e false s) := by
  rw [frameEnded_of_staying h]
  refine doWhen ?_
  unfold deliverResult
  split
  · by_cases hthird : s.life.station = .active ∧ s.share.unacked = 2
    · obtain ⟨hactive, htwo⟩ := hthird
      rw [announceResult_third hactive htwo]
      exact isolate (s.setShare _)
    · rw [announceResult_unacked (not_and_or.1 hthird)]
      exact of_bus rfl
  · exact refl s

end QueueStands

end Sys2Proof.Machine

end

section
/-! The head of the queue: the start of a frame, and the line lost to another (R42, R44, R46 to R48, R53, O49). -/

namespace Sys2Proof.Machine

/-! ## The start of a frame (R42, R46) -/

theorem exec_frameStart {s : State} (h : awake s = true) (hs : sends s = true) :
    exec .frameStart s = .next (startHead s) := by
  refine (event_of_awake h _).trans ?_
  rw [hs, doWhen_true]

/-- The head of the queue taken out of it. -/
def headTaken (rest : List TxEntry) (s : State) : State := s.setBus { s.bus with waiting := rest }

theorem startHead_of_quiet {s : State} {e : TxEntry} {rest : List TxEntry} (hw : s.bus.waiting = e :: rest)
    (hl : s.bus.onLine = none) (hq : s.bus.stuck = false) : startHead s = s.setBus { s.bus with
      waiting := rest, onLine := some e, leaveTimer := if isLeaving e.frame then none else s.bus.leaveTimer } := by
  rw [startHead, hw, hl]
  exact if_neg (ne_true_of_eq_false hq)

theorem startHead_of_stuck {s : State} {e : TxEntry} {rest : List TxEntry} (hw : s.bus.waiting = e :: rest)
    (hl : s.bus.onLine = none) (hq : s.bus.stuck = true) : startHead s = frameEnded e false (headTaken rest s) := by
  rw [startHead, hw, hl]
  exact if_pos hq

/-- On a stuck line the head ends as it does on the line, unacknowledged (R46). -/
theorem exec_frameResult_onLine {s : State} (h : awake s = true) (hl : s.bus.onLine = none) (e : TxEntry)
    (rest : List TxEntry) :
    exec (.frameResult false) (s.setBus { s.bus with waiting := rest, onLine := some e }) =
      .next (frameEnded e false (headTaken rest s)) := by
  have hbus : { s.bus with waiting := rest, onLine := none } = { s.bus with waiting := rest } := by rw [← hl]
  refine (exec_frameResult (s := s.setBus { s.bus with waiting := rest, onLine := some e }) h false).trans ?_
  rw [endOnLine_of_some rfl, headTaken, ← hbus]
  rfl

theorem isLeaving_of_no_announce {f : Frame} (h : kindCode f ≠ 1) : isLeaving f = false := by
  cases f with
  | announce b => exact absurd rfl h
  | _ => rfl

/-- The result of an unacknowledged ANNOUNCE that a block offered (R82, R92). -/
theorem frameEnded_counts {e : TxEntry} {b : AnnounceBody} {s : State} (he : e.frame = .announce b)
    (hb : b.leaving = false) (hd : e.deliver = true) (hs : maySend s = true) :
    (frameEnded e false s).share.unacked = min 255 (s.share.unacked + 1) ∧
      (s.life.station = .active ∧ s.share.unacked = 2 → (frameEnded e false s).life.station = .isolated) ∧
      (s.life.station ≠ .active ∨ s.share.unacked ≠ 2 →
        frameEnded e false s = s.setShare { s.share with unacked := min 255 (s.share.unacked + 1) }) := by
  have hended : frameEnded e false s = announceResult false s := by
    rw [frameEnded_of_staying (by rw [he, isLeaving, hb]), hd, joined_of_maySend hs, he]
    rfl
  rw [hended]
  by_cases hthird : s.life.station = .active ∧ s.share.unacked = 2
  · obtain ⟨hactive, htwo⟩ := hthird
    obtain ⟨v, -, -, hlife, -, hshare, -⟩ := isolate_spec (s := s.setShare { s.share with unacked := 3 }) rfl
    rw [announceResult_third hactive htwo, hshare, hlife, changeStation_life, (changeStation_frame _ _ _).share, htwo]
    exact ⟨rfl, fun _ => rfl, fun h => (h.elim (absurd hactive) (absurd rfl))⟩
  · rw [announceResult_unacked (not_and_or.1 hthird)]
    exact ⟨rfl, fun h => absurd h hthird, fun _ => rfl⟩

/-! ## The line lost (R44, R47, R48) -/

theorem exec_arbitrationLost {s : State} (h : awake s = true) :
    exec .arbitrationLost s = .next (s.setBus (requeue s.bus)) := event_of_awake h _

/-- A frame that a block offered goes back to its place (R47). -/
theorem requeue_of_alone {b : Bus} {e : TxEntry} (hl : b.onLine = some e) (hd : e.deliver = true)
    (hn : b.waiting.any (sameWaiting e.frame) = false) :
    requeue b = { b with onLine := none, waiting := insertEntry e b.waiting } := by
  rw [requeue, hl]
  simp only [hd, hn, Bool.not_true, Bool.false_and, Bool.false_eq_true, if_false]

/-- The waiting frames of the kind of `e` with its age. -/
def agedAlike (e : TxEntry) (es : List TxEntry) : List TxEntry :=
  (es.filter (sameWaiting e.frame)).map (fun x => { x with age := e.age })

/-- A frame that finds a newer one of its kind ends, and the newer one takes its age (R48). -/
theorem requeue_of_newer {b : Bus} {e : TxEntry} (hl : b.onLine = some e) (hd : e.deliver = true)
    (hn : b.waiting.any (sameWaiting e.frame) = true) : requeue b = { b with
      onLine := none
      waiting := (agedAlike e b.waiting).foldr insertEntry (b.waiting.filter (fun x => !sameWaiting e.frame x)) } := by
  rw [requeue, hl]
  simp only [hd, hn, Bool.not_true, Bool.false_and, Bool.false_eq_true, if_false, if_true]
  rfl

theorem mem_foldr_insertEntry (x : TxEntry) (es xs : List TxEntry) :
    x ∈ es.foldr insertEntry xs ↔ x ∈ es ∨ x ∈ xs := by
  induction es with
  | nil => simp
  | cons e es ih => rw [List.foldr_cons, mem_insertEntry, ih, List.mem_cons, or_assoc]

theorem requeue_newer_spec (e : TxEntry) (es : List TxEntry) :
    ((agedAlike e es).foldr insertEntry (es.filter (fun x => !sameWaiting e.frame x))).length = es.length ∧
      ∀ x ∈ (agedAlike e es).foldr insertEntry (es.filter (fun x => !sameWaiting e.frame x)),
        sameWaiting e.frame x = true → x.age = e.age := by
  refine ⟨?_, fun x hx hsame => ?_⟩
  · rw [foldr_insertEntry_length, agedAlike, List.length_map]
    exact (List.length_eq_length_filter_add _).symm
  · obtain hx | hx := (mem_foldr_insertEntry _ _ _).1 hx
    · obtain ⟨y, -, rfl⟩ := List.mem_map.1 hx
      rfl
    · obtain ⟨-, hother⟩ := List.mem_filter.1 hx
      rw [hsame] at hother
      exact absurd hother (by decide)

/-- Settles O49: the head on a quiet and on a stuck line, and the frame that lost the line by what waits behind it. -/
theorem frameStartAndArbitrationLossMoveTheHead : Obligations.FrameStartAndArbitrationLossMoveTheHead := by
  unfold Obligations.FrameStartAndArbitrationLossMoveTheHead
  refine ⟨fun e rest s h hs hw hl => ⟨_, exec_frameStart h hs, fun hq => ?_, fun hq => ?_⟩, fun e s h hl hd => ?_⟩
  · rw [startHead_of_quiet hw hl hq]
    exact ⟨State.setBus_frame _ _, rfl⟩
  · have hstart := startHead_of_stuck hw hl hq
    have htaken : SameExcept [.bus] s (headTaken rest s) := State.setBus_frame _ _
    rw [hstart]
    refine ⟨?_, fun hk => ?_, fun hleave => ?_, fun b hb hstay => ?_⟩
    · cases hleave : isLeaving e.frame with
      | true =>
        rw [frameEnded_of_leaving hleave]
        exact hl
      | false =>
        obtain ⟨hline, -⟩ := QueueStands.frameEnded_unacked hleave (headTaken rest s)
        exact hline.trans hl
    · rw [frameEnded_unheard (isLeaving_of_no_announce hk) (.inr (.inr hk))]
      exact ⟨htaken, rfl⟩
    · rw [frameEnded_of_leaving hleave]
      exact ⟨htaken.trans (State.setBus_frame _ _), rfl⟩
    · have hleave : isLeaving e.frame = false := by rw [hb, isLeaving, hstay]
      obtain ⟨-, hwaits⟩ := QueueStands.frameEnded_unacked hleave (headTaken rest s)
      refine ⟨?_, hwaits, fun hd hsend => frameEnded_counts hb hstay hd (s := headTaken rest s) hsend⟩
      rw [exec_frameStart h hs, hstart, exec_frameResult_onLine h hl]
  · refine ⟨_, exec_arbitrationLost h, State.setBus_frame _ _, ?_, fun hn => ?_, fun hn => ?_⟩
    · rw [State.setBus_bus]
      cases hn : s.bus.waiting.any (sameWaiting e.frame) with
      | false => rw [requeue_of_alone hl hd hn]
      | true => rw [requeue_of_newer hl hd hn]
    · rw [State.setBus_bus, requeue_of_alone hl hd hn]
      exact ⟨insertEntry_perm _ _, insertEntry_inOrder e⟩
    · rw [State.setBus_bus, requeue_of_newer hl hd hn]
      exact requeue_newer_spec e s.bus.waiting

end Sys2Proof.Machine

end

section
/-! Passline frames as bytes (R43, R50, R52, R193, section 12.1, O44). -/

namespace Sys2Proof.Machine

/-! ## Fields (section 12.1) -/

theorem byteOf_toNat {n : Nat} (h : n < 256) : (byteOf n).toNat = n := by
  rw [byteOf, BitVec.toNat_ofNat]
  omega

theorem joinBytes_twoBytes {n : Nat} (h : n < 65536) : joinBytes (byteOf (n / 256)) (byteOf n) = n := by
  simp only [joinBytes, byteOf, BitVec.toNat_ofNat]
  omega

theorem decide_bit_odd (b : Bool) : decide ((byteOf (bit b)).toNat % 2 = 1) = b := by
  cases b with
  | true | false => rfl

theorem checkSum_lt (bs : List Byte) : checkSum bs < 65536 := Nat.mod_lt _ (by decide)

/-! ## Bodies (section 12.1) -/

theorem flatMap_entryBytes_length (ws : List StockEntry) : (ws.flatMap entryBytes).length = 5 * ws.length := by
  induction ws with
  | nil => rfl
  | cons w ws ih =>
    rw [List.flatMap_cons, List.length_append, ih, List.length_cons]
    change 5 + 5 * ws.length = 5 * (ws.length + 1)
    omega

theorem readEntries_flatMap {ws : List StockEntry} (h : ∀ w ∈ ws, w.fits = true) :
    readEntries (ws.flatMap entryBytes) = ws := by
  induction ws with
  | nil => rfl
  | cons w ws ih =>
    obtain ⟨hw, hws⟩ := List.forall_mem_cons.1 h
    simp only [StockEntry.fits, fitsByte, fitsWord, Bool.and_eq_true, decide_eq_true_eq] at hw
    obtain ⟨⟨hchannel, hready⟩, havailable⟩ := hw
    rw [List.flatMap_cons]
    change (⟨(byteOf w.channel).toNat, joinBytes (byteOf (w.ready / 256)) (byteOf w.ready),
      joinBytes (byteOf (w.available / 256)) (byteOf w.available)⟩ : StockEntry) ::
        readEntries (ws.flatMap entryBytes) = w :: ws
    rw [ih hws, byteOf_toNat hchannel, joinBytes_twoBytes hready, joinBytes_twoBytes havailable]

/-- A STOCK body that fits is read back, with and without its clean-awaiting count. -/
theorem readStock_bodyBytes {b : StockBody} (h : b.fits = true) :
    readStock (byteOf b.warmers.length) (byteOf (bit b.clean.isSome)) (cleanBytes b.clean ++ b.warmers.flatMap entryBytes) =
      some (.stock b) := by
  obtain ⟨clean, ws⟩ := b
  simp only [StockBody.fits, Bool.and_eq_true, List.all_eq_true, decide_eq_true_eq] at h
  obtain ⟨⟨hclean, hws⟩, hlength⟩ := h
  have hcount : (byteOf ws.length).toNat = ws.length := byteOf_toNat (by omega)
  have hentries := flatMap_entryBytes_length ws
  cases clean with
  | none =>
    have hflag : ¬ (byteOf (bit false)).toNat % 2 = 1 := by decide
    simp only [readStock, hcount, if_neg (Nat.not_lt.2 hlength), Option.isSome_none, if_neg hflag, cleanBytes,
      List.nil_append, if_pos hentries, readEntries_flatMap hws]
  | some n =>
    have hflag : (byteOf (bit true)).toNat % 2 = 1 := by decide
    have hn : n < 65536 := of_decide_eq_true hclean
    simp only [readStock, hcount, if_neg (Nat.not_lt.2 hlength), Option.isSome_some, if_pos hflag, cleanBytes, twoBytes,
      List.cons_append, List.nil_append, if_pos hentries, joinBytes_twoBytes hn, readEntries_flatMap hws]

theorem readBody_bodyBytes {f : Frame} (h : f.fits = true) : readBody (kindCode f) (bodyBytes f) = some f := by
  cases f with
  | stock b => exact readStock_bodyBytes h
  | announce b =>
    simp only [Frame.fits, Asks.fits, fitsByte, fitsWord, Bool.and_eq_true, decide_eq_true_eq] at h
    simp only [kindCode, bodyBytes, twoBytes, List.cons_append, List.nil_append, readBody, byteOf_toNat,
      joinBytes_twoBytes, decide_bit_odd, h]
  | _ =>
    simp only [Frame.fits, fitsByte, fitsWord, Bool.and_eq_true, decide_eq_true_eq] at h
    simp only [kindCode, bodyBytes, twoBytes, List.cons_append, List.nil_append, readBody, byteOf_toNat,
      joinBytes_twoBytes, h]

theorem bodyBytes_length {f : Frame} (h : f.fits = true) : (bodyBytes f).length ≤ 44 := by
  cases f with
  | stock b =>
    obtain ⟨clean, ws⟩ := b
    simp only [Frame.fits, StockBody.fits, Bool.and_eq_true, decide_eq_true_eq] at h
    obtain ⟨-, hlength⟩ := h
    have hclean : (cleanBytes clean).length ≤ 2 := by
      cases clean with
      | none => exact Nat.zero_le 2
      | some n => exact Nat.le_refl 2
    simp only [bodyBytes, List.length_append, List.length_cons, List.length_nil, flatMap_entryBytes_length]
    omega
  | _ => simp [bodyBytes, twoBytes]

/-! ## The header (section 3.1) -/

theorem priority_le (f : Frame) : priority f ≤ 5 := by
  cases f <;> simp [priority]

theorem kindCode_le (f : Frame) : kindCode f ≤ 9 := by
  cases f <;> simp [kindCode]

theorem arbitration_sender {sender : Nat} (h : sender ≤ 30) (f : Frame) :
    (byteOf (arbitration sender f)).toNat % 32 = sender := by
  have hpriority := priority_le f
  rw [byteOf_toNat (by rw [arbitration]; omega), arbitration]
  omega

/-! ## Receiving bytes (R43, R50, R52) -/

/-- A frame's bytes before its check word. -/
def uncheckedBytes (sender : Nat) (f : Frame) : List Byte := headerBytes sender f ++ bodyBytes f

/-- What a frame that stands complete in its bytes is to its receiver, once its check word is read. -/
theorem receivedCommand_checked {own sender : Nat} {f : Frame} (hlow : 1 ≤ sender) (hhigh : sender ≤ 30)
    (h : f.fits = true) (hi lo : Byte) : receivedCommand own (uncheckedBytes sender f ++ [hi, lo]) =
      if [hi, lo] ≠ twoBytes (checkSum (uncheckedBytes sender f)) then .badFrame (uncheckedBytes sender f ++ [hi, lo])
      else if sender = own then .duplicateId (kindCode f) else frameCommand sender f := by
  have hlength := bodyBytes_length h
  have hlen : (byteOf (bodyBytes f).length).toNat = (bodyBytes f).length := byteOf_toNat (by omega)
  have hkind : (byteOf (kindCode f)).toNat = kindCode f := byteOf_toNat (by have := kindCode_le f; omega)
  have hwhole : ¬ (Config.maxBody < (bodyBytes f).length ∨
      (bodyBytes f ++ [hi, lo]).length < (bodyBytes f).length + 2) := by
    rw [List.length_append, List.length_cons, List.length_cons, List.length_nil]
    simp only [Config.maxBody]
    omega
  simp only [uncheckedBytes, headerBytes, List.cons_append, List.nil_append, receivedCommand, hlen, if_neg hwhole,
    List.take_left, List.drop_left, List.take_succ_cons, List.take_zero, arbitration_sender hhigh,
    badSender_eq_false hlow hhigh, Bool.false_eq_true, if_false, hkind, readBody_bodyBytes h]
  exact if_congr Iff.rfl rfl rfl

theorem check_iff (n : Nat) (hi lo : Byte) : [hi, lo] = twoBytes n ↔ (hi, lo) = (byteOf (n / 256), byteOf n) := by
  simp only [twoBytes, List.cons.injEq, Prod.mk.injEq, and_true]

/-- Settles O44: a frame is read back once its check word is the sum, and is bad with any other. -/
theorem framesAreReadAsTheyAreLaidOut : Obligations.FramesAreReadAsTheyAreLaidOut := by
  unfold Obligations.FramesAreReadAsTheyAreLaidOut
  intro own sender f hlow hhigh h
  have hchecked := receivedCommand_checked (own := own) hlow hhigh h
  have hsum := checkSum_lt (uncheckedBytes sender f)
  have hgood : receivedCommand own (frameBytes sender f) =
      if sender = own then .duplicateId (kindCode f) else frameCommand sender f :=
    (hchecked _ _).trans (if_neg (not_not.2 rfl))
  refine ⟨fun hother => ?_, fun hown => ?_, uncheckedBytes sender f, _, _, rfl, ?_, joinBytes_twoBytes hsum,
    fun hi lo hwrong => ?_⟩
  · rw [hgood, if_neg hother]
  · rw [hgood, if_pos hown]
  · have hlength := bodyBytes_length h
    rw [uncheckedBytes, List.length_append]
    change 3 + _ ≤ 47
    omega
  · exact (hchecked hi lo).trans (if_pos fun heq => hwrong ((check_iff _ hi lo).1 heq))

end Sys2Proof.Machine

end

section
/-! The timers of the dish line: the jam, the IDLE hold and the call of a long RINSE hold (R106, R115, R116). -/

namespace Sys2Proof.Machine

/-! ## A raised call is open (R162) -/

/-- A call raised by a block that the list has room for is open afterwards. -/
theorem raiseCall_opens {s : State} (hradio : s.profile.radio = false) (hroom : s.paging.calls.length < 16)
    (r : CallReason) (subject : Nat) :
    ∃ c ∈ (raiseCall r subject s).paging.calls, c.reason = r ∧ c.subject = subject := by
  have hkey : ∃ n, (n, r, subject) ∈ (raiseCall r subject s).paging.calls.map callKey := by
    obtain ⟨hcalls, hopen⟩ | hkeys := raiseCall_keys hradio hroom r subject
    · rwa [hcalls]
    · rw [hkeys]
      exact ⟨_, List.mem_append_right _ (List.mem_singleton.2 rfl)⟩
  obtain ⟨n, hn⟩ := hkey
  obtain ⟨c, hc, he⟩ := List.mem_map.1 hn
  simp only [callKey, Prod.mk.injEq] at he
  obtain ⟨-, hreason, hsubject⟩ := he
  exact ⟨c, hc, hreason, hsubject⟩

/-! ## The three expiries -/

/-- The dish line of a jam (R116). -/
def jammed (d : Dish) : Dish := { d with mode := .jam, jamTimer := 0, idleTime := 0 }

theorem jam_eq (s : State) : jam s = raiseCall .jam 0 (s.setDish (jammed s.dish)) := rfl

theorem jam_dish (s : State) : (jam s).dish = jammed s.dish := by
  rw [jam_eq, (raiseCall_frame _ _ _).dish (by decide)]
  rfl

/-- A jam stops the conveyor, so its event starts none. -/
theorem dishEvent_jam (s : State) : dishEvent jam s = publishClean (jam s) :=
  dishEvent_of_no_start (by rw [jam_dish]; rfl)

theorem exec_jamTimerExpiry {s : State} (ha : awake s = true) (hm : s.dish.mode = .on)
    (hh : anyHold s.dish.holds = false) (hj : 2000 ≤ s.dish.jamTimer) :
    exec .jamTimerExpiry s = .next (dishEvent jam s) :=
  expiry_of_due ha (by simp [jamDue, conveyorRuns, hm, hh, Config.jamMs, hj]) _

/-- The dish line with the IDLE hold set (R115). -/
def idled (d : Dish) : Dish := { d with holds := { d.holds with idle := true } }

theorem exec_idleTimeExpiry {s : State} (ha : awake s = true) (hm : s.dish.mode = .on) (hr : s.dish.racks = [])
    (ht : 30000 ≤ s.dish.idleTime) (hi : s.dish.holds.idle = false) :
    exec .idleTimeExpiry s = .next (publishClean (s.setDish (idled s.dish))) :=
  (expiry_of_due ha (by simp [idleDue, hm, hr, Config.idleMs, ht, hi]) _).trans
    (congrArg Host.Outcome.next (dishEvent_of_no_start (f := updateHolds fun h => { h with idle := true })
      (conveyorStarts_of_hold (by simp [updateHolds, updateDish, anyHold]))))

/-- The dish line whose RINSE hold has raised its call (R106). -/
def rinseAnnounced (d : Dish) : Dish := { d with rinseCalled := true }

theorem exec_rinseHoldTimeExpiry {s : State} (ha : awake s = true) (hh : s.dish.holds.rinse = true)
    (ht : 60000 ≤ s.dish.rinseTime) (hc : s.dish.rinseCalled = false) :
    exec .rinseHoldTimeExpiry s = .next (raiseCall .rinseHold 0 (s.setDish (rinseAnnounced s.dish))) :=
  expiry_of_due ha (by simp [rinseDue, hh, Config.rinseCallMs, ht, hc]) _

/-- Settles O20: each expiry does the effect of its rule, and the two calls are raised by R162. -/
theorem dishTimersJamCallAndIdle : Obligations.DishTimersJamCallAndIdle := by
  unfold Obligations.DishTimersJamCallAndIdle
  intro s ha
  refine ⟨fun hm hh hj => ?_, fun hm hr ht hi => ?_, fun hh ht hc => ?_⟩
  · have hdish : (dishEvent jam s).dish = jammed s.dish := by
      rw [dishEvent_jam]
      exact jam_dish s
    refine ⟨_, exec_jamTimerExpiry ha hm hh hj, dishEvent_frame (fun t => (jam_frame t).mono (by decide)) (by decide) s,
      hdish, dishEvent_published ((jam_frame s).stock (by decide)), ?_, fun hradio hroom => ?_⟩
    · rw [hdish, dishEvent_jam]
      exact ⟨rfl, rfl, rfl⟩
    · rw [dishEvent_jam]
      exact raiseCall_opens (s := s.setDish (jammed s.dish)) hradio hroom .jam 0
  · exact ⟨_, exec_idleTimeExpiry ha hm hr ht hi, (publishClean_frame _).step ((State.setDish_frame _ _).mono (by decide))
      (by decide), rfl, rfl⟩
  · have hcall := raiseCall_frame .rinseHold 0 (s.setDish (rinseAnnounced s.dish))
    refine ⟨_, exec_rinseHoldTimeExpiry ha hh ht hc, hcall.step ((State.setDish_frame _ _).mono (by decide)) (by decide),
      hcall.dish (by decide), ?_, fun hradio hroom =>
        raiseCall_opens (s := s.setDish (rinseAnnounced s.dish)) hradio hroom .rinseHold 0⟩
    rw [hcall.dish (by decide)]
    exact ⟨rfl, rfl, rfl⟩

end Sys2Proof.Machine

end

section
/-! The dish line's duties at a sweep: the samples of every rack and the judgement of the RINSE hold (R104 to R106). -/

namespace Sys2Proof.Machine

/-! ## The samples of one rack (R104, R105) -/

theorem keepMin_eq (m : Option Temp) (t : Temp) : keepMin m t = some ((m.map (fun x => min x t)).getD t) := by
  cases m <;> rfl

theorem washSample_eq (p : DishProfile) (tank : Temp) (flag : Bool) (r : Rack) : washSample p tank flag r = { r with
    washMin := if inWash p r = true ∧ flag = false then keepMin r.washMin tank else r.washMin
    interrupted := r.interrupted || (inWash p r && flag) } := by
  unfold washSample
  cases inWash p r <;> cases flag <;> simp

theorem rinseSample_eq (p : DishProfile) (door : Bool) (booster : Temp) (flag : Bool) (r : Rack) :
    rinseSample p door booster flag r = { r with
      dwell := if inRinse p r = true ∧ door = false ∧ flag = false ∧ (p.tsan : Int) ≤ booster
        then min 600000 (r.dwell + 250) else r.dwell
      rinseMin := if inRinse p r = true ∧ flag = false then keepMin r.rinseMin booster else r.rinseMin
      trace := if inRinse p r = true ∧ p.trace = true ∧ r.trace.length < 32 then r.trace ++ [booster] else r.trace
      interrupted := r.interrupted || (inRinse p r && (door || flag)) } := by
  unfold rinseSample
  cases inRinse p r with
  | false => simp
  | true =>
    have hdwell : nextDwell (!door && !flag && decide ((p.tsan : Int) ≤ booster)) r.dwell =
        if door = false ∧ flag = false ∧ (p.tsan : Int) ≤ booster then min 600000 (r.dwell + 250) else r.dwell := by
      simp [nextDwell, Config.maxDwell, Config.sweepMs, and_assoc]
    have htrace : nextTrace p.trace booster r.trace =
        if p.trace = true ∧ r.trace.length < 32 then r.trace ++ [booster] else r.trace := by
      simp [nextTrace, Config.traceLength]
    rw [if_pos rfl, hdwell, htrace]
    cases flag <;> simp

/-- A rack after both samples of a sweep. -/
def sampledRack (p : DishProfile) (door : Bool) (tank booster : Temp) (tankFlag boosterFlag : Bool) (r : Rack) : Rack :=
  rinseSample p door booster boosterFlag (washSample p tank tankFlag r)

section
variable (p : DishProfile) (door : Bool) (tank booster : Temp) (tankFlag boosterFlag : Bool) (r : Rack)

/-- The wash sample moves no rack, so the rinse sample finds it where it stood. -/
theorem sampledRack_eq : sampledRack p door tank booster tankFlag boosterFlag r = { r with
    washMin := if inWash p r = true ∧ tankFlag = false then keepMin r.washMin tank else r.washMin
    dwell := if inRinse p r = true ∧ door = false ∧ boosterFlag = false ∧ (p.tsan : Int) ≤ booster
      then min 600000 (r.dwell + 250) else r.dwell
    rinseMin := if inRinse p r = true ∧ boosterFlag = false then keepMin r.rinseMin booster else r.rinseMin
    trace := if inRinse p r = true ∧ p.trace = true ∧ r.trace.length < 32 then r.trace ++ [booster] else r.trace
    interrupted := r.interrupted || (inWash p r && tankFlag) || (inRinse p r && (door || boosterFlag)) } :=
  (congrArg (rinseSample p door booster boosterFlag) (washSample_eq p tank tankFlag r)).trans
    (rinseSample_eq p door booster boosterFlag _)

theorem sampledRack_position : (sampledRack p door tank booster tankFlag boosterFlag r).position = r.position := by
  rw [sampledRack_eq]

theorem sampledRack_interrupted_iff : (sampledRack p door tank booster tankFlag boosterFlag r).interrupted = true ↔
    r.interrupted = true ∨ (inWash p r = true ∧ tankFlag = true) ∨
      (inRinse p r = true ∧ (door = true ∨ boosterFlag = true)) := by
  simp [sampledRack_eq, or_assoc]

end

/-! ## The RINSE hold (R106) -/

theorem spanOccupied_iff (p : DishProfile) (d : Dish) :
    spanOccupied p d = true ↔ ∃ r ∈ d.racks, inTestSpan p r = true := List.any_eq_true

/-- Racks that stand where others stood occupy the test span as those did. -/
theorem spanOccupied_map {f : Rack → Rack} (hf : ∀ r, (f r).position = r.position) (p : DishProfile) {d e : Dish}
    (he : e.racks = d.racks.map f) : spanOccupied p e = spanOccupied p d := by
  have hspan (r : Rack) : inTestSpan p (f r) = inTestSpan p r := by
    unfold inTestSpan midWithin midpoint
    rw [hf]
  rw [spanOccupied, he, List.any_map]
  exact congrArg (d.racks.any ·) (funext hspan)

theorem endRinse_dish (s : State) : (endRinse s).dish =
    { s.dish with holds := { s.dish.holds with rinse := false }, rinseTime := 0, rinseCalled := false } := by
  rw [endRinse, (cancelCall_frame _ _ _).dish (by decide)]
  rfl

/-- The judgement of the RINSE hold moves no rack. -/
theorem judgeRinse_racks (booster : Temp) (flag : Bool) (s : State) :
    (judgeRinse booster flag s).dish.racks = s.dish.racks := by
  unfold judgeRinse
  split
  · rfl
  · split
    · rfl
    · split
      · rw [endRinse_dish]
      · rfl

theorem judgeRinse_of_off {s : State} (h : s.dish.mode = .off) (booster : Temp) (flag : Bool) :
    judgeRinse booster flag s = s := if_pos h

/-- The RINSE hold after its judgement: set where it was clear and becomes set, or was set and does not become clear. -/
theorem judgeRinse_rinse {s : State} (h : s.dish.mode ≠ .off) (booster : Temp) (flag : Bool) :
    (judgeRinse booster flag s).dish.holds.rinse = true ↔
      (s.dish.holds.rinse = false ∧ spanOccupied s.profile.dish s.dish = true ∧
        (booster < (s.profile.dish.tsan : Int) ∨ flag = true)) ∨
      (s.dish.holds.rinse = true ∧ spanOccupied s.profile.dish s.dish = true ∧
        (booster < (s.profile.dish.tsan : Int) + 10 ∨ flag = true)) := by
  rw [judgeRinse, if_neg h]
  cases hr : s.dish.holds.rinse with
  | false =>
    have hclears : rinseClears s.profile.dish s.dish booster flag = false := by simp [rinseClears, hr]
    rw [hclears, if_neg Bool.false_ne_true]
    split
    · next hsets => simpa [rinseSets, hr, updateHolds, updateDish] using hsets
    · next hsets => simpa [rinseSets, hr] using hsets
  | true =>
    have hsets : rinseSets s.profile.dish s.dish booster flag = false := by simp [rinseSets, hr]
    rw [hsets, if_neg Bool.false_ne_true]
    split
    · next hclears =>
      rw [endRinse_dish]
      simp only [rinseClears, hr, Bool.true_and, Bool.or_eq_true, Bool.and_eq_true, Bool.not_eq_true', decide_eq_true_eq]
        at hclears
      simp only [Bool.false_eq_true, Bool.true_eq_false, false_and, true_and, false_or, false_iff]
      rintro ⟨hspan, hcold⟩
      obtain hempty | ⟨hwarm, hgood⟩ := hclears
      · rw [hempty] at hspan
        exact Bool.false_ne_true hspan
      · obtain hcold | hflag := hcold
        · exact Int.not_lt.2 hwarm hcold
        · rw [hgood] at hflag
          exact Bool.false_ne_true hflag
    · next hstands =>
      simp only [rinseClears, hr, Bool.true_and, Bool.or_eq_true, Bool.and_eq_true, Bool.not_eq_true', decide_eq_true_eq,
        not_or, not_and, Bool.not_eq_false] at hstands
      obtain ⟨hspan, hcold⟩ := hstands
      simp only [hr, hspan, Bool.true_eq_false, false_and, true_and, false_or, true_iff]
      by_cases hwarm : booster < (s.profile.dish.tsan : Int) + 10
      · exact .inl hwarm
      · exact .inr (hcold (not_lt.1 hwarm))

/-! ## The sweep at a dish line that works -/

theorem reading_congr {s t : State} (hp : t.profile = s.profile) (hs : t.scan = s.scan) (k : Chan) :
    reading t k = reading s k := by simp only [reading, sensorOf, hp, hs]

theorem flagged_congr {s t : State} (hp : t.profile = s.profile) (hs : t.scan = s.scan) (k : Chan) :
    flagged t k = flagged s k := by simp only [flagged, sensorOf, hp, hs]

/-- The dish line's racks after the samples that the published readings of `tk` and `bk` give. -/
def sampled (tk bk : Chan) (s : State) : State :=
  sampleRacks (reading s tk) (reading s bk) (flagged s tk) (flagged s bk) s

/-- What a sweep does to one rack of `s`, by the published readings of `tk` and `bk`. -/
def sampledAt (tk bk : Chan) (s : State) : Rack → Rack :=
  sampledRack s.profile.dish s.dish.holds.door (reading s tk) (reading s bk) (flagged s tk) (flagged s bk)

theorem sampledAt_congr {tk bk : Chan} {s t : State} (hp : t.profile = s.profile) (hd : t.dish = s.dish) :
    sampledAt tk bk t = sampledRack s.profile.dish s.dish.holds.door (reading t tk) (reading t bk) (flagged t tk)
      (flagged t bk) := by
  rw [← hp, ← hd]
  rfl

theorem sampled_dish (tk bk : Chan) (s : State) :
    (sampled tk bk s).dish = { s.dish with racks := s.dish.racks.map (sampledAt tk bk s) } := rfl

section
variable {tk bk : Chan} {s : State}

theorem sweepDish_of_works (hw : dishWorks s = true) (ht : channelOfKind s.profile .tank = some tk)
    (hb : channelOfKind s.profile .booster = some bk) :
    sweepDish s = dishEvent (fun u => judgeRinse (reading u bk) (flagged u bk) (sampled tk bk u)) s := by
  rw [sweepDish, ht, hb]
  simp only [hw, doWhen_true]
  rfl

/-- What the duties of the dish line leave of racks and holds. -/
theorem sweepDish_judged (hw : dishWorks s = true) (ht : channelOfKind s.profile .tank = some tk)
    (hb : channelOfKind s.profile .booster = some bk) :
    (sweepDish s).dish.racks = s.dish.racks.map (sampledAt tk bk s) ∧
      (sweepDish s).dish.holds = (judgeRinse (reading s bk) (flagged s bk) (sampled tk bk s)).dish.holds := by
  obtain ⟨n, hn⟩ := dishEvent_dish_but_jam (fun u => judgeRinse (reading u bk) (flagged u bk) (sampled tk bk u)) s
  rw [sweepDish_of_works hw ht hb, hn]
  exact ⟨judgeRinse_racks _ _ (sampled tk bk s), rfl⟩

theorem sweepDish_holds_of_off (hw : dishWorks s = true) (ht : channelOfKind s.profile .tank = some tk)
    (hb : channelOfKind s.profile .booster = some bk) (hm : s.dish.mode = .off) :
    (sweepDish s).dish.holds = s.dish.holds := by
  obtain ⟨-, hholds⟩ := sweepDish_judged hw ht hb
  rw [hholds, judgeRinse_of_off (s := sampled tk bk s) hm]
  rfl

theorem sweepDish_rinse (hw : dishWorks s = true) (ht : channelOfKind s.profile .tank = some tk)
    (hb : channelOfKind s.profile .booster = some bk) (hm : s.dish.mode ≠ .off) :
    (sweepDish s).dish.holds.rinse = true ↔
      (s.dish.holds.rinse = false ∧ (∃ r ∈ s.dish.racks, inTestSpan s.profile.dish r = true) ∧
        (reading s bk < (s.profile.dish.tsan : Int) ∨ flagged s bk = true)) ∨
      (s.dish.holds.rinse = true ∧ (∃ r ∈ s.dish.racks, inTestSpan s.profile.dish r = true) ∧
        (reading s bk < (s.profile.dish.tsan : Int) + 10 ∨ flagged s bk = true)) := by
  have hspan : spanOccupied s.profile.dish (sampled tk bk s).dish = spanOccupied s.profile.dish s.dish :=
    spanOccupied_map (fun _ => sampledRack_position _ _ _ _ _ _ _) _ (by rw [sampled_dish]; rfl)
  obtain ⟨-, hholds⟩ := sweepDish_judged hw ht hb
  have hjudged := judgeRinse_rinse (s := sampled tk bk s) hm (reading s bk) (flagged s bk)
  rw [← hholds] at hjudged
  refine hjudged.trans ?_
  change (_ ∧ spanOccupied s.profile.dish (sampled tk bk s).dish = true ∧ _) ∨
    (_ ∧ spanOccupied s.profile.dish (sampled tk bk s).dish = true ∧ _) ↔ _
  rw [hspan, spanOccupied_iff]
  rfl

end

/-- A sweep completion does the dish line's duties and then the plate stock unit's behind the trips of the heat channels,
which leave both units alone. -/
theorem exec_sweepCompletion_joined {s : State} (ha : awake s = true) (hphase : 250 ≤ s.scan.phase)
    (hj : joined s = true) (c : Conversions) : ∃ v, exec (.sweepCompletion c) s = .next (sweepStock (sweepDish v)) ∧
      SameExcept [.scan, .heat, .bus, .paging, .port] s v :=
  ⟨_, (exec_sweepCompletion ha hphase c).trans (congrArg Host.Outcome.next (sweep_joined hj c)),
    (tripChecks_frame _ _).step ((State.setScan_frame s _).mono (by decide)) (by decide)⟩

/-- Settles O23: the duties of the dish line come behind the trips, which leave it, its profile and the readings alone. -/
theorem sweepSamplesRacksAndJudgesTheRinseHold : Obligations.SweepSamplesRacksAndJudgesTheRinseHold := by
  unfold Obligations.SweepSamplesRacksAndJudgesTheRinseHold
  intro c s tk bk ha hphase hj he ht hb
  obtain ⟨v, hexec, hv⟩ := exec_sweepCompletion_joined ha hphase hj c
  have hprofile : v.profile = s.profile := hv.profile (by decide)
  have hdish : v.dish = s.dish := hv.dish (by decide)
  have hafter : SameExcept [.bus, .dish, .stock, .paging] v (sweepStock (sweepDish v)) :=
    (sweepStock_frame _).step (sweepDish_frame v) (by decide)
  have hstock : (sweepStock (sweepDish v)).dish = (sweepDish v).dish := (sweepStock_frame _).dish (by decide)
  have hw : dishWorks v = true := by
    rw [dishWorks, joined, hv.life (by decide), hprofile, he, Bool.and_true]
    exact hj
  rw [← hprofile] at ht hb
  obtain ⟨hracks, -⟩ := sweepDish_judged hw ht hb
  have hoff := sweepDish_holds_of_off hw ht hb
  have hrinse := sweepDish_rinse hw ht hb
  refine ⟨_, sampledAt tk bk v, hexec, ?_, ?_⟩
  · rw [hstock, hracks, hdish]
  · have hprofile' := hafter.profile (by decide)
    have hscan' := hafter.scan (by decide)
    simp only [reading_congr hprofile' hscan', flagged_congr hprofile' hscan', hstock]
    rw [hdish, hprofile] at hrinse
    rw [hdish] at hoff
    refine ⟨fun r => ?_, hoff, hrinse⟩
    rw [sampledAt_congr hprofile hdish]
    refine ⟨?_, ?_, ?_, ?_, ?_, ?_, ?_, ?_, sampledRack_interrupted_iff _ _ _ _ _ _ _⟩ <;>
      simp only [sampledRack_eq, keepMin_eq]

end Sys2Proof.Machine

end

section
/-! Paging takes no notice of the panel port's transaction: a call raised before or behind its end is the same call. -/

namespace Sys2Proof.Machine

theorem endTransaction_paging (s : State) : (endTransaction s).paging = s.paging := rfl

theorem choosePager_endTransaction (c : Paged) (s : State) : choosePager (endTransaction s) c = choosePager s c := rfl

/-- The effect `f` is the same before the end of the port's transaction and behind it. -/
def IgnoresTransaction (f : State → State) : Prop := ∀ s, f (endTransaction s) = endTransaction (f s)

namespace IgnoresTransaction

theorem comp {f g : State → State} (hg : IgnoresTransaction g) (hf : IgnoresTransaction f) :
    IgnoresTransaction (fun s => g (f s)) := fun s => (congrArg g (hf s)).trans (hg (f s))

theorem doWhen {f : State → State} (hf : IgnoresTransaction f) (c : Bool) : IgnoresTransaction (Machine.doWhen c f) := by
  intro s
  cases c with
  | false => rfl
  | true => exact hf s

theorem setPaging (g : Paging → Paging) : IgnoresTransaction (fun s => s.setPaging (g s.paging)) := fun _ => rfl

theorem pushReport (b : ReportBody) : IgnoresTransaction (pushReport b) := by
  intro s
  unfold Machine.pushReport
  dsimp only
  rw [apply_ite endTransaction]
  rfl

theorem offer (f : Frame) : IgnoresTransaction (offer f) := by
  intro s
  unfold Machine.offer
  rw [apply_ite endTransaction]
  rfl

/-! ## Open calls (R164 to R166) -/

theorem serveCancel (origin number : Nat) : IgnoresTransaction (serveCancel origin number) := fun s =>
  (setPaging fun g => { g with queue := g.queue.filter (fun c => !isPaged origin number c) }).doWhen (serves s) s

theorem sendCancel (number : Nat) : IgnoresTransaction (sendCancel number) := fun s =>
  ((serveCancel (ownId s) number).comp (offer _)) s

theorem dropCall (number : Nat) : IgnoresTransaction (dropCall number) := fun _ => rfl

theorem updateCall (number : Nat) (f : Call → Call) : IgnoresTransaction (updateCall number f) := fun _ => rfl

theorem endCall (c : Call) (cause : CallCause) : IgnoresTransaction (endCall c cause) :=
  (sendCancel c.number).comp ((pushReport _).comp (dropCall c.number))

theorem withdrawCall (c : Call) : IgnoresTransaction (withdrawCall c) :=
  ((sendCancel c.number).doWhen _).comp (dropCall c.number)

theorem pageStateAtOrigin (b : PageStateBody) : IgnoresTransaction (pageStateAtOrigin b) := by
  intro s
  unfold Machine.pageStateAtOrigin
  simp only [endTransaction_paging]
  split
  · rfl
  · split
    · rfl
    · rfl
    · exact endCall _ _ s
    · exact endCall _ _ s
    · exact endCall _ _ s
    · rfl

/-! ## The serving side (R168 to R171) -/

theorem tellOrigin (c : Paged) (outcome detail : Nat) : IgnoresTransaction (tellOrigin c outcome detail) := by
  intro s
  unfold Machine.tellOrigin
  rw [apply_ite endTransaction, ← pageStateAtOrigin, ← offer]
  rfl

theorem finishPaged (c : Paged) (outcome detail : Nat) : IgnoresTransaction (finishPaged c outcome detail) :=
  fun s => tellOrigin c outcome detail (s.setPaging _)

theorem writeSend (c : Paged) (i : Fin 32) : IgnoresTransaction (writeSend c i) := fun _ => rfl

theorem writeAll (a : AllCall) : IgnoresTransaction (writeAll a) := fun _ => rfl

theorem grantCalls (fuel : Nat) : IgnoresTransaction (grantCalls fuel) := by
  induction fuel with
  | zero => exact fun _ => rfl
  | succ fuel ih =>
    intro s
    unfold Machine.grantCalls
    simp only [endTransaction_paging, choosePager_endTransaction]
    split
    · rfl
    · split
      · rfl
      · exact ih.comp (finishPaged _ 4 2) s

theorem arbitrate : IgnoresTransaction arbitrate := by
  intro s
  unfold Machine.arbitrate
  rw [apply_ite endTransaction]
  refine if_congr Iff.rfl ?_ rfl
  simp only [endTransaction_paging]
  split
  · exact (writeAll _).doWhen _ s
  · exact grantCalls _ s

theorem takePaged (origin : Nat) (b : PageCallBody) : IgnoresTransaction (takePaged origin b) := fun s =>
  tellOrigin _ 1 0 (s.setPaging _)

theorem dropPaged (origin : Nat) (b : PageCallBody) : IgnoresTransaction (dropPaged origin b) := by
  intro s
  unfold Machine.dropPaged
  rw [apply_ite endTransaction, ← pageStateAtOrigin, ← offer]
  rfl

theorem serveCall (origin : Nat) (b : PageCallBody) : IgnoresTransaction (serveCall origin b) := by
  intro s
  have htaken := arbitrate.comp (takePaged origin b)
  unfold Machine.serveCall
  rw [apply_ite endTransaction]
  refine if_congr Iff.rfl ?_ rfl
  simp only [endTransaction_paging]
  split
  · split
    · exact tellOrigin _ _ _ s
    · exact tellOrigin _ _ _ s
  · rw [apply_ite endTransaction, apply_ite endTransaction]
    refine if_congr Iff.rfl rfl (if_congr Iff.rfl (htaken s) ?_)
    split
    · rw [apply_ite endTransaction]
      exact if_congr Iff.rfl (htaken.comp (finishPaged _ 5 0) s) (dropPaged origin b s)
    · exact dropPaged origin b s

/-! ## A raised call (R162) -/

theorem broadcast (c : Call) : IgnoresTransaction (broadcast c) := fun s =>
  ((serveCall (ownId s) (pageCallBody c)).comp ((offer (.pageCall (pageCallBody c))).comp
    (updateCall c.number broadcastNow))) s

theorem enterCall (r : CallReason) (subject : Nat) (group : Option Nat) (urgency : Nat) :
    IgnoresTransaction (enterCall r subject group urgency) := by
  intro s
  cases group with
  | none => exact pushReport _ (withNewCall r subject none urgency .local s)
  | some g => exact broadcast _ (withNewCall r subject (some g) urgency .calling s)

theorem makeRoom (urgency : Nat) (s : State) :
    makeRoom urgency (endTransaction s) = (makeRoom urgency s).map endTransaction := by
  unfold Machine.makeRoom
  rw [apply_ite (Option.map endTransaction)]
  refine if_congr Iff.rfl rfl ?_
  simp only [endTransaction_paging]
  split
  · rw [apply_ite (Option.map endTransaction)]
    exact if_congr Iff.rfl (congrArg some ((pushReport _).comp (withdrawCall _) s)) rfl
  · rfl

theorem raiseCall (r : CallReason) (subject : Nat) : IgnoresTransaction (raiseCall r subject) := by
  intro s
  cases ho : openCall r subject s with
  | some c =>
    rw [raiseCall_of_open ho]
    exact raiseCall_of_open (s := endTransaction s) ho
  | none =>
    have hroom := makeRoom (reasonUrgency r) s
    cases hm : Machine.makeRoom (reasonUrgency r) s with
    | none =>
      rw [raiseCall_of_refused ho hm]
      rw [hm] at hroom
      rw [raiseCall_of_refused (s := endTransaction s) ho hroom]
      exact pushReport _ s
    | some t =>
      rw [raiseCall_of_room ho hm]
      rw [hm] at hroom
      rw [raiseCall_of_room (s := endTransaction s) ho hroom]
      exact enterCall _ _ _ _ t

end IgnoresTransaction

end Sys2Proof.Machine

end

section
/-! Calls of one subject cancelled one behind the other (R166). -/

namespace Sys2Proof.Machine

/-! ## One call that leaves the list -/

theorem openCall_spec {r : CallReason} {subject : Nat} {s : State} {c : Call} (h : openCall r subject s = some c) :
    c ∈ s.paging.calls ∧ c.reason = r ∧ c.subject = subject := by
  have hkey := List.find?_some h
  simp only [Bool.and_eq_true, decide_eq_true_eq] at hkey
  exact ⟨List.mem_of_find?_eq_some h, hkey⟩

/-- The calls that stay when the call of a reason and subject leaves. -/
theorem cancelCall_calls {s : State} (hnames : s.paging.calls.Pairwise (fun a b => a.number ≠ b.number)) (r : CallReason)
    (subject : Nat) : (cancelCall r subject s).paging.calls =
      s.paging.calls.filter (fun c => decide (openCall r subject s ≠ some c)) := by
  obtain ⟨hnone, hsome⟩ := cancelCall_cancelled r subject s
  cases ho : openCall r subject s with
  | none =>
    rw [(hnone ho).1, List.filter_eq_self.2]
    exact fun c _ => decide_eq_true (by simp)
  | some c =>
    obtain ⟨hmem, -, -⟩ := openCall_spec ho
    rw [(hsome c ho).1]
    refine List.filter_congr fun x hx => decide_eq_decide.2 (not_congr ⟨fun he => ?_, fun he => ?_⟩)
    · rw [eq_of_key_eq hnames hx hmem he]
    · rw [Option.some.inj he]

/-- A cancelled call is none of another reason. -/
theorem openCall_cancelCall {s : State} (hnames : s.paging.calls.Pairwise (fun a b => a.number ≠ b.number))
    {r q : CallReason} (hq : q ≠ r) (subject : Nat) :
    openCall q subject (cancelCall r subject s) = openCall q subject s := by
  rw [openCall, cancelCall_calls hnames, List.find?_filter]
  refine congrArg (s.paging.calls.find? ·) (funext fun c => ?_)
  by_cases hc : c.reason = q
  · have hother : openCall r subject s ≠ some c := fun ho => by
      obtain ⟨-, hr, -⟩ := openCall_spec ho
      exact hq (hc.symm.trans hr)
    simp [hother]
  · simp [hc]

/-- The controller after the cancelling of a call: as after the offer of its PAGE-CANCEL, if it has one. -/
theorem cancelCall_bus (r : CallReason) (subject : Nat) (s : State) :
    (cancelCall r subject s).bus = ((cancelsOf [r] subject s).foldl (fun u f => offer f u) s).bus := by
  rw [cancelCall, cancelsOf]
  cases ho : openCall r subject s with
  | none => simp [ho]
  | some c =>
    by_cases hlocal : c.state = .local
    · simp [ho, hlocal, withdrawCall, dropCall]
    · have hbus : (withdrawCall c s).bus = (offer (.pageCancel c.number) s).bus := by
        rw [withdrawCall, decide_eq_true hlocal, doWhen_true, sendCancel_bus]
        exact offer_bus_congr _ rfl rfl rfl
      simp [ho, hlocal, hbus]

/-! ## Several calls -/

/-- The calls of several reasons and one subject cancelled in a row. -/
def cancelCalls (rs : List CallReason) (subject : Nat) (s : State) : State :=
  rs.foldl (fun u r => cancelCall r subject u) s

theorem cancelCalls_frame (rs : List CallReason) (subject : Nat) (s : State) :
    SameExcept [.bus, .paging] s (cancelCalls rs subject s) :=
  foldl_frame (fun u r => cancelCall_frame r subject u) rs s

/-- Without an open call of any of the reasons nothing is cancelled. -/
theorem cancelCalls_of_none {rs : List CallReason} {subject : Nat} {s : State}
    (h : ∀ r ∈ rs, openCall r subject s = none) : cancelCalls rs subject s = s := by
  induction rs with
  | nil => rfl
  | cons r rs ih =>
    have hr : cancelCall r subject s = s := by rw [cancelCall, h r List.mem_cons_self]
    exact (congrArg (cancelCalls rs subject) hr).trans (ih fun q hq => h q (List.mem_cons_of_mem _ hq))

theorem cancelsOf_cons (r : CallReason) (rs : List CallReason) (subject : Nat) (s : State) :
    cancelsOf (r :: rs) subject s = cancelsOf [r] subject s ++ cancelsOf rs subject s :=
  List.filterMap_append (l := [r])

theorem cancelsOf_congr {rs : List CallReason} {subject : Nat} {s t : State}
    (h : ∀ r ∈ rs, openCall r subject t = openCall r subject s) : cancelsOf rs subject t = cancelsOf rs subject s :=
  List.filterMap_congr fun r hr => by rw [h r hr]

theorem cancelsOf_not_replaceable {rs : List CallReason} {subject : Nat} {s : State} {f : Frame}
    (hf : f ∈ cancelsOf rs subject s) : replaceable f = false := by
  obtain ⟨r, -, hr⟩ := List.mem_filterMap.1 hf
  obtain ⟨c, -, hc⟩ := Option.bind_eq_some_iff.1 hr
  split at hc
  · cases hc
  · cases hc
    rfl

/-- The list and the controller after several calls of different reasons have been cancelled. -/
theorem cancelCalls_spec {rs : List CallReason} (hrs : rs.Nodup) (subject : Nat) {s : State}
    (hnames : s.paging.calls.Pairwise (fun a b => a.number ≠ b.number)) :
    (cancelCalls rs subject s).paging.calls =
        s.paging.calls.filter (fun c => rs.all (fun r => decide (openCall r subject s ≠ some c))) ∧
      (cancelCalls rs subject s).bus = ((cancelsOf rs subject s).foldl (fun u f => offer f u) s).bus := by
  induction rs generalizing s with
  | nil => exact ⟨(List.filter_eq_self.2 fun _ _ => rfl).symm, rfl⟩
  | cons r rs ih =>
    obtain ⟨hnew, hnodup⟩ := List.nodup_cons.1 hrs
    have hcalls := cancelCall_calls hnames r subject
    have hopen : ∀ q ∈ rs, openCall q subject (cancelCall r subject s) = openCall q subject s := fun q hq =>
      openCall_cancelCall hnames (fun he : q = r => hnew (he ▸ hq)) subject
    obtain ⟨hrest, hbus⟩ := ih hnodup (s := cancelCall r subject s) (hcalls ▸ hnames.filter _)
    have hframe := cancelCall_frame r subject s
    have hoffers := foldl_frame (f := fun u f => offer f u) (fun u f => offer_frame f u) (cancelsOf [r] subject s) s
    refine ⟨hrest.trans ?_, hbus.trans ?_⟩
    · rw [hcalls, List.filter_filter]
      refine List.filter_congr fun c _ => ?_
      rw [List.all_cons, Bool.and_comm]
      refine congrArg (_ && ·) (Bool.eq_iff_iff.2 ?_)
      rw [List.all_eq_true, List.all_eq_true]
      exact forall₂_congr fun q hq => by rw [hopen q hq]
    · rw [cancelsOf_congr hopen, cancelsOf_cons, List.foldl_append]
      exact offers_bus_congr _ ((hframe.life (by decide)).trans (hoffers.life (by decide)).symm)
        ((hframe.profile (by decide)).trans (hoffers.profile (by decide)).symm) (cancelCall_bus r subject s)

/-- Calls of different reasons cancelled in a row end as R166 says. -/
theorem cancelCalls_ended {rs : List CallReason} (hrs : rs.Nodup) (subject : Nat) (s : State) :
    CallsEnded rs subject [] s (cancelCalls rs subject s) := by
  intro hnames
  obtain ⟨hcalls, hbus⟩ := cancelCalls_spec hrs subject hnames
  refine ⟨hcalls, fun hsend hroom => ?_⟩
  rw [hbus]
  exact (offers_wait (fun _ => cancelsOf_not_replaceable) hsend hroom).2

end Sys2Proof.Machine

end

section
/-! The commands of the dish line: DISH-ON, DISH-OFF, DISH-RESUME, NEXT-RACK and PICKUP (R116 to R118, R120, R121). -/

namespace Sys2Proof.Machine

/-! ## Commands as events with a reply -/

section
variable {s : State} {w : Word}

theorem setReply_step {bs cs : List Block} {u : State} (h : SameExcept bs (endTransaction s) u) (r : Reply)
    (hb : ∀ b ∈ bs, b ∈ cs) (hp : Block.port ∈ cs) : SameExcept cs s (setReply r u) := by
  have hport : ∀ b ∈ [Block.port], b ∈ cs := fun b hm => List.mem_singleton.1 hm ▸ hp
  exact (((endTransaction_frame s).mono hport).trans (h.mono hb)).trans ((setReply_frame r u).mono hport)

/-- A command without an effect changes its reply alone. -/
theorem setReply_alone (code : Nat) (s : State) :
    SameExcept [.port] s (setReply (.done code false .none) (endTransaction s)) ∧
      Answered code false .none s (setReply (.done code false .none) (endTransaction s)) :=
  ⟨(endTransaction_frame s).trans (setReply_frame _ _), answered_setReply _ _ _ rfl⟩

variable (hd : portDeaf s = false) (hj : joined s = true) (he : s.profile.dish.enable = true)

include hd hj he

/-- A dish command without parameters that its owner accepts. -/
theorem panel_plain_dish {code : Nat} {body : State → Except Reason Done} {owner : Except Reason Done} {u : State}
    (hb : body (endTransaction s) = plain .joinedOnly [] (endTransaction s) (dishOnly (endTransaction s) owner))
    (ho : owner = accepted u false) : panel code body s = .next (setReply (.done code false .none) u) := by
  refine panel_of_accepted hd (hb.trans ?_)
  rw [plain_of_joined (s := endTransaction s) hj, dishOnly_of_enabled (s := endTransaction s) he, ho]
  rfl

/-- A dish command with one number that its owner accepts. -/
theorem panel_number_dish {code : Nat} {body : State → Except Reason Done} {owner : Param → Except Reason Done}
    {u : State} {clamped : Bool}
    (hb : body (endTransaction s) = oneNumber [w] (endTransaction s) fun q => dishOnly (endTransaction s) (owner q))
    (ho : owner (narrow w) = accepted u clamped) :
    panel code body s = .next (setReply (.done code clamped .none) u) := by
  refine panel_of_accepted hd (hb.trans ?_)
  rw [oneNumber_of_joined (s := endTransaction s) hj, dishOnly_of_enabled (s := endTransaction s) he, ho]
  rfl

theorem exec_dishOn_of_off (hm : s.dish.mode = .off) : exec (.dishOn []) s =
    .next (setReply (.done 32 false .none) (dishEvent startDish (endTransaction s))) :=
  panel_plain_dish hd hj he rfl (by rw [show (endTransaction s).dish.mode = .off from hm])

theorem exec_dishOn_of_on (hm : s.dish.mode = .on) :
    exec (.dishOn []) s = .next (setReply (.done 32 false .none) (endTransaction s)) :=
  panel_plain_dish hd hj he rfl (by rw [show (endTransaction s).dish.mode = .on from hm])

theorem exec_dishOff_of_off (hm : s.dish.mode = .off) :
    exec (.dishOff []) s = .next (setReply (.done 33 false .none) (endTransaction s)) :=
  panel_plain_dish hd hj he rfl (if_pos hm)

theorem exec_dishOff_of_started (hm : s.dish.mode ≠ .off) : exec (.dishOff []) s =
    .next (setReply (.done 33 false .none) (dishEvent stopDish (endTransaction s))) :=
  panel_plain_dish hd hj he rfl (if_neg hm)

theorem exec_dishResume_of_jam (hm : s.dish.mode = .jam) : exec (.dishResume []) s =
    .next (setReply (.done 35 false .none) (dishEvent resumeDish (endTransaction s))) :=
  panel_plain_dish hd hj he rfl (if_pos hm)

theorem exec_nextRack {v : Nat} {clamped : Bool} (hv : Takes 0 60 s.profile.dish.defaultPlates w v clamped) :
    exec (.nextRack [w]) s = .next (setReply (.done 36 clamped .none)
      ((endTransaction s).setDish { s.dish with tag := some v })) :=
  panel_number_dish hd hj he rfl (by rw [endTransaction_profile, numeric_of_takes hv]; rfl)

theorem exec_pickup {v : Nat} {clamped : Bool} (hv : Takes 0 s.dish.clean s.profile.dish.defaultPlates w v clamped) :
    exec (.pickup [w]) s = .next (setReply (.done 37 clamped .none)
      (dishEvent (updateDish fun d => { d with clean := d.clean - v }) (endTransaction s))) :=
  panel_number_dish hd hj he rfl (by
    rw [endTransaction_profile, show (endTransaction s).dish = s.dish from rfl, numeric_of_takes hv])

end

/-! ## A conveyor that starts (R101, R116) -/

/-- A dish event that finds the conveyor at a standstill and leaves mode ON: the conveyor starts unless a hold is set. -/
theorem dishEvent_dish_of_started {f : State → State} {s : State} (hrun : conveyorRuns s.dish = false)
    (hm : (f s).dish.mode = .on) : (dishEvent f s).dish = { (f s).dish with
      jamTimer := if anyHold (f s).dish.holds = true then (f s).dish.jamTimer else 0 } := by
  have hstarts : conveyorStarts s.dish (f s).dish = !anyHold (f s).dish.holds := by
    rw [conveyorStarts, hrun, conveyorRuns, hm]
    simp
  cases hh : anyHold (f s).dish.holds with
  | false =>
    rw [hh] at hstarts
    rw [dishEvent_of_start hstarts]
    rfl
  | true =>
    rw [hh] at hstarts
    rw [dishEvent_of_no_start hstarts]
    rfl

theorem conveyorRuns_of_mode {d : Dish} (h : d.mode ≠ .on) : conveyorRuns d = false := by simp [conveyorRuns, h]

/-- A dish event that has put the dish line into mode ON and done nothing else. -/
theorem dishEvent_setDish {f : State → State} {s : State} {d : Dish} (hf : f s = s.setDish d) (hoff : s.dish.mode = .off)
    (hm : d.mode = .on) : SameExcept [.dish, .stock] s (dishEvent f s) ∧
      (dishEvent f s).dish = { d with jamTimer := if anyHold d.holds = true then d.jamTimer else 0 } ∧
      CleanPublished s (dishEvent f s) := by
  have hrun := conveyorRuns_of_mode (d := s.dish) (by rw [hoff]; decide)
  refine ⟨(dishEvent_after s).step ?_ fun _ => id, ?_, dishEvent_published (by rw [hf]; rfl)⟩
  · rw [hf]
    exact (State.setDish_frame s d).mono (by decide)
  · rw [dishEvent_dish_of_started hrun (by rw [hf]; exact hm), hf]
    rfl

/-! ## DISH-ON (R107, R117) -/

/-- The dish line in mode ON. -/
def switchedOn (d : Dish) : Dish := { d with mode := .on }

/-- DISH-ON ends with the IDLE hold where its entry event `u` leaves no rack. -/
theorem startDish_eq {s u : State}
    (hu : doWhen (useActive s .dishEntry) entryActive (s.setDish (switchedOn s.dish)) = u) :
    startDish s = doWhen u.dish.racks.isEmpty (updateHolds fun h => { h with idle := true }) u := by
  rw [← hu]
  rfl

/-- DISH-ON with no rack at the entry. -/
theorem startDish_of_clear {s : State} (h : useActive s .dishEntry = false) :
    startDish s = s.setDish { switchedOn s.dish with
      holds := { s.dish.holds with idle := s.dish.holds.idle || s.dish.racks.isEmpty } } := by
  rw [startDish_eq (by rw [h, doWhen_false])]
  change doWhen s.dish.racks.isEmpty _ _ = _
  cases s.dish.racks.isEmpty with
  | false => rw [Bool.or_false]; rfl
  | true => rw [Bool.or_true]; rfl

/-- DISH-ON with a rack at the entry and one in the queue afterwards. -/
theorem startDish_of_waiting {s : State} (h : useActive s .dishEntry = true)
    (hr : (entryActive (s.setDish (switchedOn s.dish))).dish.racks ≠ []) :
    startDish s = entryActive (s.setDish (switchedOn s.dish)) := by
  rw [startDish_eq (by rw [h, doWhen_true]), List.isEmpty_eq_false_iff.2 hr, doWhen_false]

theorem startDish_of_room {s : State} (h : useActive s .dishEntry = true) (hl : s.dish.racks.length < 12)
    (hc : ∀ r, s.dish.racks.getLast? = some r → 5500 ≤ r.position) :
    startDish s = s.setDish (switchedOn (registeredDish s)) := by
  have hentry := entryActive_of_room (s := s.setDish (switchedOn s.dish)) (by decide : Mode.on ≠ .off)
    ((tooClose_eq_false_iff _).2 hc) hl
  rw [startDish_of_waiting h (by rw [hentry]; exact List.append_ne_nil_of_right_ne_nil _ (List.cons_ne_nil _ _)), hentry]
  rfl

theorem startDish_of_close {s : State} (h : useActive s .dishEntry = true)
    (hc : ∃ r, s.dish.racks.getLast? = some r ∧ r.position < 5500) : startDish s = s.setDish (switchedOn s.dish) := by
  have hentry := entryActive_of_off (s := s.setDish (switchedOn s.dish)) (.inr ((tooClose_iff _).2 hc))
  obtain ⟨r, hr, -⟩ := hc
  have hracks : s.dish.racks ≠ [] := fun hnil => by rw [hnil] at hr; cases hr
  rw [startDish_of_waiting h (by rw [hentry]; exact hracks), hentry]

/-- The dish line in mode ON with the ENTRY hold. -/
def heldAtEntry (d : Dish) : Dish := { switchedOn d with holds := { d.holds with entry := true } }

theorem anyHold_of_entry {h : HoldSet} (he : h.entry = true) : anyHold h = true := by simp [anyHold, he]

theorem startDish_of_full {s : State} (h : useActive s .dishEntry = true) (hl : 12 ≤ s.dish.racks.length)
    (hc : ∀ r, s.dish.racks.getLast? = some r → 5500 ≤ r.position) :
    startDish s = raiseCall .entryFull 0 (s.setDish (heldAtEntry s.dish)) := by
  have hentry := entryActive_of_full (s := s.setDish (switchedOn s.dish)) (by decide : Mode.on ≠ .off)
    ((tooClose_eq_false_iff _).2 hc) hl
  have hracks : s.dish.racks ≠ [] := fun hnil => by rw [hnil] at hl; exact absurd hl (by decide)
  rw [startDish_of_waiting h (by rw [hentry, (raiseCall_frame _ _ _).dish (by decide)]; exact hracks), hentry]
  rfl

/-- DISH-ON whose effect is one change of the dish line. -/
theorem dishOn_of_setDish {s : State} {d : Dish} (hf : startDish (endTransaction s) = (endTransaction s).setDish d)
    (hoff : s.dish.mode = .off) (hm : d.mode = .on) {t : State}
    (ht : t = setReply (.done 32 false .none) (dishEvent startDish (endTransaction s))) :
    SameExcept [.dish, .stock, .port] s t ∧ Answered 32 false .none s t ∧
      t.dish = { d with jamTimer := if anyHold d.holds = true then d.jamTimer else 0 } ∧ CleanPublished s t := by
  obtain ⟨hframe, hdish, hclean⟩ := dishEvent_setDish hf hoff hm
  rw [ht]
  exact ⟨setReply_step hframe _ (by decide) (by decide), answered_setReply _ _ _ (hframe.port (by decide)), hdish, hclean⟩

/-- DISH-ON with a rack at the entry of a full queue. The call is raised behind the end of the transaction, of which it
takes no notice. -/
theorem dishOn_of_full {s : State} (hentry : useActive s .dishEntry = true) (hl : 12 ≤ s.dish.racks.length)
    (hc : ∀ r, s.dish.racks.getLast? = some r → 5500 ≤ r.position) {t u : State}
    (ht : t = setReply (.done 32 false .none) (dishEvent startDish (endTransaction s)))
    (hu : u = raiseCall .entryFull 0 (s.setDish (heldAtEntry s.dish))) :
    SameExcept [.bus, .dish, .stock, .paging, .port] s t ∧ t.dish = heldAtEntry s.dish ∧ CleanPublished s t ∧
      t.paging = u.paging ∧ t.bus = u.bus ∧
      t.port = { u.port with reply := .done 32 false .none, transaction := .none } := by
  have hstart : startDish (endTransaction s) = endTransaction u := by
    rw [startDish_of_full (s := endTransaction s) hentry hl hc, hu]
    exact IgnoresTransaction.raiseCall .entryFull 0 (s.setDish (heldAtEntry s.dish))
  have hdish : u.dish = heldAtEntry s.dish := by rw [hu, (raiseCall_frame _ _ _).dish (by decide)]; rfl
  have hstays : conveyorStarts (endTransaction s).dish (startDish (endTransaction s)).dish = false := by
    rw [hstart, show (endTransaction u).dish = u.dish from rfl, hdish]
    exact conveyorStarts_of_hold (anyHold_of_entry rfl)
  have hclean : CleanPublished (endTransaction s) (dishEvent startDish (endTransaction s)) :=
    dishEvent_published ((startDish_frame _).stock (by decide))
  have hframe := dishEvent_frame (bs := [.bus, .dish, .stock, .paging, .port])
    (fun v => (startDish_frame v).mono (by decide)) (by decide) (endTransaction s)
  rw [ht]
  refine ⟨setReply_step hframe _ (fun _ => id) (by decide), ?_, hclean, ?_⟩ <;> rw [dishEvent_of_no_start hstays, hstart]
  · exact hdish
  · exact ⟨rfl, rfl, rfl⟩

/-! ## DISH-OFF (R118) -/

/-- The dish line that DISH-OFF leaves. -/
def switchedOff (d : Dish) : Dish :=
  { d with
    mode := .off
    racks := d.racks.map (fun r => { r with interrupted := true })
    holds := { d.holds with rinse := false, entry := false, idle := false }
    rinseTime := 0
    idleTime := 0
    jamTimer := 0
    rinseCalled := false }

theorem stopDish_eq (s : State) :
    stopDish s = cancelCalls [.rinseHold, .entryFull, .jam] 0 (s.setDish (switchedOff s.dish)) := rfl

theorem stopDish_dish (s : State) : (stopDish s).dish = switchedOff s.dish := by
  rw [stopDish_eq, (cancelCalls_frame _ _ _).dish (by decide)]
  rfl

theorem dishEvent_stopDish (s : State) : dishEvent stopDish s = publishClean (stopDish s) :=
  dishEvent_of_no_start (by rw [stopDish_dish]; rfl)

/-- Everything DISH-OFF does in ON and JAM. -/
theorem dishOff_of_started {s t : State}
    (ht : t = setReply (.done 33 false .none) (dishEvent stopDish (endTransaction s))) :
    SameExcept [.bus, .dish, .stock, .paging, .port] s t ∧ Answered 33 false .none s t ∧ t.dish = switchedOff s.dish ∧
      CleanPublished s t ∧ CallsEnded [.rinseHold, .entryFull, .jam] 0 [] s t ∧
      (openCall .rinseHold 0 s = none → openCall .entryFull 0 s = none → openCall .jam 0 s = none →
        t.paging = s.paging ∧ t.bus = s.bus) := by
  have hframe := dishEvent_frame (bs := [.bus, .dish, .stock, .paging])
    (fun v => (stopDish_frame v).mono (by decide)) (by decide) (endTransaction s)
  have hclean : CleanPublished (endTransaction s) (dishEvent stopDish (endTransaction s)) :=
    dishEvent_published ((stopDish_frame _).stock (by decide))
  rw [ht]
  refine ⟨setReply_step hframe _ (by decide) (by decide), answered_setReply _ _ _ (hframe.port (by decide)), ?_, hclean,
    ?_, fun hrinse hentry hjam => ?_⟩ <;> rw [dishEvent_stopDish]
  · exact stopDish_dish (endTransaction s)
  · exact cancelCalls_ended (rs := [.rinseHold, .entryFull, .jam]) (by decide) 0
      ((endTransaction s).setDish (switchedOff s.dish))
  · have hnone : stopDish (endTransaction s) = (endTransaction s).setDish (switchedOff s.dish) := by
      refine cancelCalls_of_none (rs := [.rinseHold, .entryFull, .jam])
        (s := (endTransaction s).setDish (switchedOff s.dish)) fun r hr => ?_
      simp only [List.mem_cons, List.not_mem_nil, or_false] at hr
      obtain rfl | rfl | rfl := hr
      · exact hrinse
      · exact hentry
      · exact hjam
    rw [hnone]
    exact ⟨rfl, rfl⟩

/-! ## DISH-RESUME (R116) -/

theorem resumeDish_eq (s : State) : resumeDish s = cancelCall .jam 0 (s.setDish (switchedOn s.dish)) := rfl

theorem resumeDish_dish (s : State) : (resumeDish s).dish = switchedOn s.dish := by
  rw [resumeDish_eq, (cancelCall_frame _ _ _).dish (by decide)]
  rfl

/-- Everything DISH-RESUME does in JAM. -/
theorem dishResume_of_jam {s t : State} (hm : s.dish.mode = .jam)
    (ht : t = setReply (.done 35 false .none) (dishEvent resumeDish (endTransaction s))) :
    SameExcept [.bus, .dish, .stock, .paging, .port] s t ∧ Answered 35 false .none s t ∧
      t.dish = { switchedOn s.dish with jamTimer := if anyHold s.dish.holds = true then s.dish.jamTimer else 0 } ∧
      CallCancelled .jam 0 s t ∧ CleanPublished s t := by
  have hrun := conveyorRuns_of_mode (d := (endTransaction s).dish) (show s.dish.mode ≠ .on by rw [hm]; decide)
  have hdish := resumeDish_dish (endTransaction s)
  have hafter := dishEvent_after (f := resumeDish) (endTransaction s)
  have hframe := dishEvent_frame (bs := [.bus, .dish, .stock, .paging])
    (fun v => (resumeDish_frame v).mono (by decide)) (by decide) (endTransaction s)
  have hclean : CleanPublished (endTransaction s) (dishEvent resumeDish (endTransaction s)) :=
    dishEvent_published ((resumeDish_frame _).stock (by decide))
  have hcall := cancelCall_cancelled .jam 0 ((endTransaction s).setDish (switchedOn s.dish))
  rw [ht]
  refine ⟨setReply_step hframe _ (by decide) (by decide), answered_setReply _ _ _ (hframe.port (by decide)), ?_,
    hcall.congr rfl rfl rfl (hafter.paging (by decide)) (hafter.bus (by decide)), hclean⟩
  change (dishEvent resumeDish (endTransaction s)).dish = _
  rw [dishEvent_dish_of_started hrun (by rw [hdish]; rfl), hdish]
  rfl

/-! ## PICKUP (R121, R122) -/

/-- A PICKUP moves neither mode nor hold, so its event starts no conveyor. -/
theorem dishEvent_pickup (v : Nat) (s : State) : dishEvent (updateDish fun d => { d with clean := d.clean - v }) s =
    publishClean (s.setDish { s.dish with clean := s.dish.clean - v }) :=
  dishEvent_of_no_start (conveyorStarts_of_same rfl rfl)

/-- Settles O54: each command is one event of the dish line, with its reply behind it. -/
theorem dishCommandsSetModeTagAndCleanCount : Obligations.DishCommandsSetModeTagAndCleanCount := by
  unfold Obligations.DishCommandsSetModeTagAndCleanCount
  refine ⟨fun s hd hj he => ⟨fun hm hentry => ?_, fun hm hentry hl hc => ?_, fun hm hentry hc => ?_,
    fun hm hentry hl hc => ?_, fun hm => ⟨_, exec_dishOn_of_on hd hj he hm, setReply_alone 32 s⟩,
    fun hm => ⟨_, exec_dishOff_of_off hd hj he hm, setReply_alone 33 s⟩,
    fun hm => ⟨_, exec_dishOff_of_started hd hj he hm, dishOff_of_started rfl⟩,
    fun hm => ⟨_, exec_dishResume_of_jam hd hj he hm, dishResume_of_jam hm rfl⟩⟩,
    fun w v clamped s hd hj he => ⟨fun hv => ?_, fun hv => ?_⟩⟩
  · exact ⟨_, exec_dishOn_of_off hd hj he hm,
      dishOn_of_setDish (startDish_of_clear (s := endTransaction s) hentry) hm rfl rfl⟩
  · obtain ⟨hframe, hreply, hdish, hclean⟩ :=
      dishOn_of_setDish (startDish_of_room (s := endTransaction s) hentry hl hc) hm rfl rfl
    refine ⟨_, exec_dishOn_of_off hd hj he hm, hframe, hreply, ?_, ?_, ?_, ?_, ?_, ?_, ?_, hclean⟩ <;> rw [hdish] <;> rfl
  · exact ⟨_, exec_dishOn_of_off hd hj he hm,
      dishOn_of_setDish (startDish_of_close (s := endTransaction s) hentry hc) hm rfl rfl⟩
  · obtain ⟨hframe, hdish, hclean, hshown⟩ := dishOn_of_full hentry hl hc rfl rfl
    refine ⟨_, _, exec_dishOn_of_off hd hj he hm, hframe, hdish, hclean, ?_, hshown⟩
    rw [hdish]
    exact ⟨rfl, rfl, rfl⟩
  · exact ⟨_, exec_nextRack hd hj he hv, setReply_step (State.setDish_frame _ _) _ (by decide) (by decide), rfl,
      answered_setReply _ _ _ rfl⟩
  · refine ⟨_, exec_pickup hd hj he hv, ?_⟩
    rw [dishEvent_pickup]
    exact ⟨setReply_step (bs := [.dish, .stock]) ((publishClean_frame _).step ((State.setDish_frame _ _).mono (by decide))
      (by decide)) _ (by decide) (by decide), rfl, answered_setReply _ _ _ rfl, rfl⟩

end Sys2Proof.Machine

end
